-- ==== Sys2Proof/Word.lean ====
section
/-! DEFINITION. The word types of the Presko PK48 and the small closed types that its instructions' operands
are made of: element types, widths, conditions, guards (R25, R54 to R56, R96, R99, R108). -/

namespace Sys2Proof

/-- A byte of memory or of a scratchpad window. -/
abbrev Byte := BitVec 8
/-- A scalar register's value (R45). -/
abbrev Word := BitVec 64
/-- A vector register's value: 128 byte lanes (R48). -/
abbrev VWord := BitVec 1024
/-- A lane predicate: one bit for each byte lane (R45). -/
abbrev PWord := BitVec 128

/-- The classes of bundle slots (R23). -/
inductive SlotClass | scalar | vector | matrix | special | copy
  deriving DecidableEq, Repr

/-- The nine slots of a bundle (R19). -/
inductive Slot | s0 | s1 | v0 | v1 | v2 | m | f | c0 | c1
  deriving DecidableEq, Repr

/-- The slot number that trap records use (R19). -/
def Slot.number : Slot → Nat
  | .s0 => 0 | .s1 => 1 | .v0 => 2 | .v1 => 3 | .v2 => 4 | .m => 5 | .f => 6 | .c0 => 7 | .c1 => 8

/-- The class of each slot (R23). -/
def Slot.cls : Slot → SlotClass
  | .s0 | .s1 => .scalar
  | .v0 | .v1 | .v2 => .vector
  | .m => .matrix
  | .f => .special
  | .c0 | .c1 => .copy

/-- The element types and their ET codes 0 to 12 (R64). -/
inductive ET | i8 | i16 | i32 | i64 | n8 | n16 | n32 | n64 | bf16 | fp16 | fp32 | e4m3 | e5m2
  deriving DecidableEq, Repr

/-- The ET code of an element type (R64). -/
def ET.code : ET → Nat
  | .i8 => 0 | .i16 => 1 | .i32 => 2 | .i64 => 3 | .n8 => 4 | .n16 => 5 | .n32 => 6 | .n64 => 7
  | .bf16 => 8 | .fp16 => 9 | .fp32 => 10 | .e4m3 => 11 | .e5m2 => 12

/-- The element type of an ET code; codes 13 to 15 name none (R64). -/
def ET.ofCode : Nat → Option ET
  | 0 => some .i8 | 1 => some .i16 | 2 => some .i32 | 3 => some .i64
  | 4 => some .n8 | 5 => some .n16 | 6 => some .n32 | 7 => some .n64
  | 8 => some .bf16 | 9 => some .fp16 | 10 => some .fp32 | 11 => some .e4m3 | 12 => some .e5m2
  | _ => none

/-- Element width in bits (R136). -/
def ET.bits : ET → Nat
  | .i8 | .n8 | .e4m3 | .e5m2 => 8
  | .i16 | .n16 | .bf16 | .fp16 => 16
  | .i32 | .n32 | .fp32 => 32
  | .i64 | .n64 => 64

/-- The mark I of R99: codes 0 to 7. -/
def ET.isInt : ET → Bool
  | .i8 | .i16 | .i32 | .i64 | .n8 | .n16 | .n32 | .n64 => true
  | _ => false

/-- The mark F of R99: codes 8 to 10. -/
def ET.isFloat3 : ET → Bool
  | .bf16 | .fp16 | .fp32 => true
  | _ => false

/-- Every floating type. -/
def ET.isFloat (t : ET) : Bool := !t.isInt

/-- The two's-complement integer types (R75). -/
def ET.isSigned : ET → Bool
  | .i8 | .i16 | .i32 | .i64 => true
  | _ => false

/-- The types FCVT accepts (R96). -/
def ET.scalarCvt : ET → Bool
  | .i32 | .i64 | .n32 | .n64 | .bf16 | .fp16 | .fp32 => true
  | _ => false

/-- The operation widths of R25. -/
inductive Width | w256 | w512 | w1024
  deriving DecidableEq, Repr

/-- The W field (R25). -/
def Width.code : Width → Nat | .w256 => 0 | .w512 => 1 | .w1024 => 2
/-- The width a W field names; W = 3 is reserved (R25). -/
def Width.ofCode : Nat → Option Width
  | 0 => some .w256 | 1 => some .w512 | 2 => some .w1024 | _ => none
/-- Bytes of a width. -/
def Width.bytes : Width → Nat | .w256 => 32 | .w512 => 64 | .w1024 => 128
/-- Lane groups that a vector slot of this width claims (R25). -/
def Width.groups : Width → Nat | .w256 => 1 | .w512 => 2 | .w1024 => 4

/-- Conditions of CMP and CMPI (R96). -/
inductive Cond | eq | ne | lt | le | gt | ge | ltu | leu | gtu | geu
  deriving DecidableEq, Repr

/-- The condition code of R96. -/
def Cond.code : Cond → Nat
  | .eq => 0 | .ne => 1 | .lt => 2 | .le => 3 | .gt => 4 | .ge => 5 | .ltu => 6 | .leu => 7 | .gtu => 8 | .geu => 9
/-- The condition of a code; 10 to 15 are reserved (R96). -/
def Cond.ofCode : Nat → Option Cond
  | 0 => some .eq | 1 => some .ne | 2 => some .lt | 3 => some .le | 4 => some .gt | 5 => some .ge
  | 6 => some .ltu | 7 => some .leu | 8 => some .gtu | 9 => some .geu | _ => none

/-- Conditions of FCMP (R96) and of VCMP (R143). -/
inductive FCond | eq | ne | lt | le | gt | ge | un | or
  deriving DecidableEq, Repr

/-- The condition code of R96 and R143. -/
def FCond.code : FCond → Nat
  | .eq => 0 | .ne => 1 | .lt => 2 | .le => 3 | .gt => 4 | .ge => 5 | .un => 6 | .or => 7
/-- The condition of a code; every other code is reserved. -/
def FCond.ofCode : Nat → Option FCond
  | 0 => some .eq | 1 => some .ne | 2 => some .lt | 3 => some .le | 4 => some .gt | 5 => some .ge
  | 6 => some .un | 7 => some .or | _ => none

/-- A guard: the named q register, exclusive-ORed with `neg` (R55). -/
structure Guard where
  neg : Bool
  q   : Nat
  deriving DecidableEq, Repr

/-- The guard of an operation written without one: q0 with GN = 0 (R63). -/
def Guard.always : Guard := ⟨false, 0⟩

/-- The fields W, PG, ET and MD that most vector opcodes carry (R99). `zero` is MD = 01. -/
structure VMode where
  w    : Width
  pg   : Nat
  et   : ET
  zero : Bool
  deriving DecidableEq, Repr

/-- The fields W, PG, ET and MD of the F slot (R101). `bf` is ET = 1. -/
structure FMode where
  w    : Width
  pg   : Nat
  bf   : Bool
  zero : Bool
  deriving DecidableEq, Repr

/-- The budget words that BGRD names (R95). -/
inductive BgSel | bgi | bgt | bgs | span
  deriving DecidableEq, Repr
def BgSel.code : BgSel → Nat | .bgi => 0 | .bgt => 1 | .bgs => 2 | .span => 3
def BgSel.ofCode : Nat → Option BgSel
  | 0 => some .bgi | 1 => some .bgt | 2 => some .bgs | 3 => some .span | _ => none

/-- The layers of a stack, by the code of CYC (R95). -/
inductive Layer | m | c | k0 | k1
  deriving DecidableEq, Repr
def Layer.code : Layer → Nat | .m => 0 | .c => 1 | .k0 => 2 | .k1 => 3
def Layer.ofCode : Nat → Option Layer
  | 0 => some .m | 1 => some .c | 2 => some .k0 | 3 => some .k1 | _ => none

/-- AMO functions (R108, R222). -/
inductive AmoFn | add | and | or | xor | min | max | minu | maxu | xchg
  deriving DecidableEq, Repr
def AmoFn.code : AmoFn → Nat
  | .add => 0 | .and => 1 | .or => 2 | .xor => 3 | .min => 4 | .max => 5 | .minu => 6 | .maxu => 7 | .xchg => 8
def AmoFn.ofCode : Nat → Option AmoFn
  | 0 => some .add | 1 => some .and | 2 => some .or | 3 => some .xor | 4 => some .min | 5 => some .max
  | 6 => some .minu | 7 => some .maxu | 8 => some .xchg | _ => none

/-- Scopes (R108, R276). -/
inductive Scope | core | quad | stack | package | group | system
  deriving DecidableEq, Repr
def Scope.code : Scope → Nat | .core => 0 | .quad => 1 | .stack => 2 | .package => 3 | .group => 4 | .system => 5
def Scope.ofCode : Nat → Option Scope
  | 0 => some .core | 1 => some .quad | 2 => some .stack | 3 => some .package | 4 => some .group
  | 5 => some .system | _ => none

/-- The widths of LDG and STG (R108). -/
inductive GSize | b1 | b2 | b4 | b8
  deriving DecidableEq, Repr
def GSize.code : GSize → Nat | .b1 => 0 | .b2 => 1 | .b4 => 2 | .b8 => 3
def GSize.ofCode : Nat → Option GSize
  | 0 => some .b1 | 1 => some .b2 | 2 => some .b4 | 3 => some .b8 | _ => none
def GSize.bytes : GSize → Nat | .b1 => 1 | .b2 => 2 | .b4 => 4 | .b8 => 8

/-- The widths of AMOC (R108): code 0 is 64 bits, code 1 is 32 bits. -/
inductive CSize | b8 | b4
  deriving DecidableEq, Repr
def CSize.code : CSize → Nat | .b8 => 0 | .b4 => 1
def CSize.ofCode : Nat → Option CSize | 0 => some .b8 | 1 => some .b4 | _ => none
def CSize.bytes : CSize → Nat | .b8 => 8 | .b4 => 4

/-- The drain formats of MDRN (R103). -/
inductive DrainFmt | fp32 | bf16 | fp16 | e4m3 | e5m2 | np8 | i8
  deriving DecidableEq, Repr
def DrainFmt.code : DrainFmt → Nat
  | .fp32 => 0 | .bf16 => 1 | .fp16 => 2 | .e4m3 => 3 | .e5m2 => 4 | .np8 => 5 | .i8 => 6
def DrainFmt.ofCode : Nat → Option DrainFmt
  | 0 => some .fp32 | 1 => some .bf16 | 2 => some .fp16 | 3 => some .e4m3 | 4 => some .e5m2
  | 5 => some .np8 | 6 => some .i8 | _ => none

/-- The bits `[lo + len - 1 : lo]` of a word, as a natural number (R13). -/
def fld (w lo len : Nat) : Nat := w / 2 ^ lo % 2 ^ len

/-- A field of `len` bits read as two's complement (R56). -/
def sfld (w lo len : Nat) : Int :=
  let x := fld w lo len
  if x < 2 ^ (len - 1) then (x : Int) else (x : Int) - 2 ^ len

/-- The `len`-bit two's-complement code of an integer. -/
def scode (x : Int) (len : Nat) : Nat := (x % 2 ^ len).toNat

/-- A Bool as one bit. -/
def bit (b : Bool) : Nat := if b then 1 else 0

end Sys2Proof
end

