-- ==== Sys2Proof/Machine/Flags.lean ====
section
/-! DEFINITION. Number formats, exact arithmetic and the floating-point flags: the helpers of R91 and R92, the special
operands of R80, the integer rules of R75. Every helper that can raise a flag of TSTAT returns the set of the flags it raises. -/

namespace Sys2Proof.Machine

/-- A set of flags, laid out as TSTAT[4:0]: NX, UF, OF, DZ, NV (R59). -/
abbrev Flags := BitVec 5
def Flags.nv : Flags := 1#5
def Flags.dz : Flags := 2#5
def Flags.ovf : Flags := 4#5
def Flags.uf : Flags := 8#5
def Flags.nx : Flags := 16#5

/-- TCTL[7:0]: ACLS, SATF, FTZ, DAZ, RM (R58). -/
abbrev Tctl := BitVec 8

/-- The rounding modes (R58, R76). -/
inductive RM | rne | rtz | rdn | rup
  deriving DecidableEq, Repr

def Tctl.rm (t : Tctl) : RM :=
  match t.toNat % 4 with
  | 0 => .rne | 1 => .rtz | 2 => .rdn | _ => .rup
def Tctl.daz (t : Tctl) : Bool := t.getLsbD 2
def Tctl.ftz (t : Tctl) : Bool := t.getLsbD 3
def Tctl.satf (t : Tctl) : Bool := t.getLsbD 4
def Tctl.acls (t : Tctl) : Nat := fld t.toNat 5 3

/-- An exact value (R71): NaN, a signed infinity, or `m * 2 ^ e` with a sign, signed zeros included. -/
inductive FVal
  | nan
  | inf (neg : Bool)
  | fin (neg : Bool) (m : Nat) (e : Int)
  deriving DecidableEq, Repr

def FVal.zero (neg : Bool) : FVal := .fin neg 0 0
def FVal.isNan : FVal → Bool | .nan => true | _ => false
def FVal.isInf : FVal → Bool | .inf _ => true | _ => false
def FVal.isZero : FVal → Bool | .fin _ 0 _ => true | _ => false
/-- The sign; NaN has none. -/
def FVal.isNeg : FVal → Bool | .nan => false | .inf n => n | .fin n _ _ => n
def FVal.negate : FVal → FVal
  | .nan => .nan | .inf n => .inf (!n) | .fin n m e => .fin (!n) m e
def FVal.abs : FVal → FVal
  | .nan => .nan | .inf _ => .inf false | .fin _ m e => .fin false m e

/-- The exact integer. -/
def FVal.ofInt (x : Int) : FVal := .fin (decide (x < 0)) x.natAbs 0

/-- `m * 2 ^ k` for an integer that may be negative, rounded towards zero; exact when the bits shifted out are zero. -/
def shiftExp (m : Nat) (k : Int) : Nat := if 0 ≤ k then m * 2 ^ k.toNat else m / 2 ^ (-k).toNat

/-- floor(log2(m * 2 ^ e)), for m above zero. -/
def floorLog2 (m : Nat) (e : Int) : Int := (Nat.log2 m : Int) + e

/-- The two mantissas of finite values over one exponent, with their signs. -/
def alignFin (n1 : Bool) (m1 : Nat) (e1 : Int) (n2 : Bool) (m2 : Nat) (e2 : Int) : Int × Int × Int :=
  let e := min e1 e2
  let a : Int := (shiftExp m1 (e1 - e) : Nat)
  let b : Int := (shiftExp m2 (e2 - e) : Nat)
  (if n1 then -a else a, if n2 then -b else b, e)

/-- A finite value from a signed mantissa; a zero takes the sign given. -/
def FVal.ofScaled (x : Int) (e : Int) (zeroNeg : Bool) : FVal :=
  if x = 0 then .fin zeroNeg 0 0 else .fin (decide (x < 0)) x.natAbs e

/-- The sum of two exact values, with the sign rules of R80; ∞ − ∞ is invalid. -/
def FVal.add (rm : RM) (a b : FVal) : FVal × Flags :=
  match a, b with
  | .nan, _ => (.nan, 0) | _, .nan => (.nan, 0)
  | .inf x, .inf y => if x = y then (.inf x, 0) else (.nan, Flags.nv)
  | .inf x, .fin _ _ _ => (.inf x, 0)
  | .fin _ _ _, .inf y => (.inf y, 0)
  | .fin n1 m1 e1, .fin n2 m2 e2 =>
    if m1 = 0 ∧ m2 = 0 ∧ n1 = n2 then (.fin n1 0 0, 0)
    else
      match alignFin n1 m1 e1 n2 m2 e2 with
      | (x, y, e) => (FVal.ofScaled (x + y) e (rm == .rdn), 0)

/-- The product of two exact values; 0 × ∞ is invalid (R80). -/
def FVal.mul (a b : FVal) : FVal × Flags :=
  match a, b with
  | .nan, _ => (.nan, 0) | _, .nan => (.nan, 0)
  | .inf x, .inf y => (.inf (x != y), 0)
  | .inf x, .fin n m _ => if m = 0 then (.nan, Flags.nv) else (.inf (x != n), 0)
  | .fin n m _, .inf y => if m = 0 then (.nan, Flags.nv) else (.inf (n != y), 0)
  | .fin n1 m1 e1, .fin n2 m2 e2 => (.fin (n1 != n2) (m1 * m2) (e1 + e2), 0)

/-- a × b + c exactly. 0 × ∞ is invalid even when c is NaN (R118). -/
def FVal.fma (rm : RM) (a b c : FVal) : FVal × Flags :=
  match FVal.mul a b with
  | (.nan, f) => (.nan, f)
  | (p, _) => FVal.add rm p c

/-- How two values compare; none is unordered. Zeros of either sign are equal. -/
def FVal.cmp (a b : FVal) : Option Ordering :=
  match a, b with
  | .nan, _ => none | _, .nan => none
  | .inf x, .inf y => some (if x = y then .eq else if x then .lt else .gt)
  | .inf x, .fin _ _ _ => some (if x then .lt else .gt)
  | .fin _ _ _, .inf y => some (if y then .gt else .lt)
  | .fin n1 m1 e1, .fin n2 m2 e2 =>
    match alignFin n1 m1 e1 n2 m2 e2 with
    | (x, y, _) => some (compare x y)

/-- a < b where −0 is below +0, as the minimum and maximum operations order (R80). Neither is NaN. -/
def FVal.ltTotal (a b : FVal) : Bool :=
  match FVal.cmp a b with
  | some .lt => true
  | some .eq => a.isNeg && !b.isNeg
  | _ => false

/-- Minimum: a lone NaN operand is passed over, two NaNs give NaN (R80). -/
def FVal.fmin (a b : FVal) : FVal :=
  if a.isNan then b else if b.isNan then a else if FVal.ltTotal b a then b else a
/-- Maximum (R80). -/
def FVal.fmax (a b : FVal) : FVal :=
  if a.isNan then b else if b.isNan then a else if FVal.ltTotal a b then b else a

/-- A relation of FCMP and VCMP on floating values: unordered makes only "not equal" and "unordered" true (R80). -/
def FCond.holdsF (cc : FCond) (a b : FVal) : Bool :=
  match FVal.cmp a b, cc with
  | none, .ne => true | none, .un => true | none, _ => false
  | some _, .un => false | some _, .or => true
  | some o, .eq => o == .eq | some o, .ne => o != .eq
  | some o, .lt => o == .lt | some o, .le => o != .gt
  | some o, .gt => o == .gt | some o, .ge => o != .lt

/-- A floating-point format: the fields of R72 that the helpers read. -/
structure Fmt where
  w      : Nat
  eb     : Nat
  bias   : Nat
  fb     : Nat
  hasInf : Bool
  narrow : Bool
  deriving DecidableEq, Repr

def Fmt.fp32 : Fmt := ⟨32, 8, 127, 23, true, false⟩
def Fmt.fp16 : Fmt := ⟨16, 5, 15, 10, true, true⟩
def Fmt.bf16 : Fmt := ⟨16, 8, 127, 7, true, true⟩
def Fmt.e4m3 : Fmt := ⟨8, 4, 7, 3, false, true⟩
def Fmt.e5m2 : Fmt := ⟨8, 5, 15, 2, true, true⟩

/-- The format of a floating element type; none for an integer type. -/
def ET.fmt : ET → Option Fmt
  | .fp32 => some .fp32 | .fp16 => some .fp16 | .bf16 => some .bf16 | .e4m3 => some .e4m3 | .e5m2 => some .e5m2
  | _ => none

/-- The mantissa and the exponent of the maximum finite value (R72). -/
def Fmt.maxfin (f : Fmt) : Nat × Int :=
  if f.hasInf then (2 ^ (f.fb + 1) - 1, (2 ^ f.eb : Int) - 2 - f.bias - f.fb)
  else (2 ^ (f.fb + 1) - 2, (2 ^ f.eb : Int) - 1 - f.bias - f.fb)

/-- The canonical NaN (R72). -/
def Fmt.nanBits (f : Fmt) : Nat :=
  if f.hasInf then (2 ^ f.eb - 1) * 2 ^ f.fb + 2 ^ (f.fb - 1) else 2 ^ (f.w - 1) - 1

/-- `decode` of R91. -/
def Fmt.decode (f : Fmt) (x : Nat) : FVal :=
  let s := fld x (f.w - 1) 1 == 1
  let e := fld x f.fb f.eb
  let fr := fld x 0 f.fb
  if e == 2 ^ f.eb - 1 && (if f.hasInf then fr != 0 else fr == 2 ^ f.fb - 1) then .nan
  else if e == 2 ^ f.eb - 1 && f.hasInf then .inf s
  else if e == 0 then .fin s fr (1 - (f.bias : Int) - f.fb)
  else .fin s (2 ^ f.fb + fr) ((e : Int) - f.bias - f.fb)

/-- A finite nonzero magnitude below 2^−126 (R79). -/
def tiny (m : Nat) (e : Int) : Bool := m != 0 && decide (floorLog2 m e < -126)

/-- `daz` of R91. -/
def dazV (t : Tctl) (v : FVal) : FVal :=
  match v with
  | .fin n m e => if t.daz && tiny m e then .fin n 0 0 else v
  | _ => v

/-- `round_int` of R91 for the magnitude m * 2 ^ k; also whether the rounding was exact. -/
def roundInt (m : Nat) (k : Int) (neg : Bool) (rm : RM) : Nat × Bool :=
  if 0 ≤ k then (m * 2 ^ k.toNat, true)
  else
    let d := 2 ^ (-k).toNat
    let q := m / d
    let r := m % d
    let up :=
      match rm with
      | .rtz => false
      | .rne => decide (d < 2 * r) || (2 * r == d && q % 2 == 1)
      | .rup => !neg && r != 0
      | .rdn => neg && r != 0
    (if up then q + 1 else q, r == 0)

/-- m1 * 2 ^ e1 is above m2 * 2 ^ e2. -/
def magGt (m1 : Nat) (e1 : Int) (m2 : Nat) (e2 : Int) : Bool :=
  match alignFin false m1 e1 false m2 e2 with
  | (x, y, _) => decide (y < x)

/-- The overflow value of R76. -/
def overflowValue (f : Fmt) (neg : Bool) (rm : RM) : FVal :=
  let toInf := match rm with | .rne => true | .rtz => false | .rdn => neg | .rup => !neg
  if toInf then .inf neg else .fin neg f.maxfin.1 f.maxfin.2

/-- `round_to` of R91. NaN does not reach it. -/
def roundTo (f : Fmt) (v : FVal) (rm : RM) : FVal × Flags :=
  match v with
  | .fin n m e =>
    if m = 0 then (v, 0)
    else
      let g := max (floorLog2 m e) (1 - (f.bias : Int)) - f.fb
      match roundInt m (e - g) n rm with
      | (y, exact) =>
        if magGt y g f.maxfin.1 f.maxfin.2 then (overflowValue f n rm, Flags.ovf ||| Flags.nx)
        else
          let fl : Flags := if exact then 0 else Flags.nx
          let fl := if !exact && y != 0 && decide (floorLog2 y g < 1 - (f.bias : Int)) then fl ||| Flags.uf else fl
          (.fin n y g, fl)
  | _ => (v, 0)

/-- `bits_of` of R91, for a value exactly representable in the format. -/
def bitsOf (f : Fmt) (v : FVal) : Nat :=
  match v with
  | .nan => f.nanBits
  | .inf n => bit n * 2 ^ (f.w - 1) + (2 ^ f.eb - 1) * 2 ^ f.fb
  | .fin n m e =>
    if m = 0 then bit n * 2 ^ (f.w - 1)
    else
      let x := max (floorLog2 m e) (1 - (f.bias : Int))
      bit n * 2 ^ (f.w - 1) + (x + f.bias - 1).toNat * 2 ^ f.fb + shiftExp m (e - x + f.fb)

/-- The last step of `encode` of R91: FTZ, then the bits. -/
def encodeFlush (f : Fmt) (t : Tctl) (y : FVal) (fl : Flags) : Nat × Flags :=
  match y with
  | .fin n m e => if t.ftz && tiny m e then (bitsOf f (.fin n 0 0), fl ||| Flags.uf ||| Flags.nx) else (bitsOf f y, fl)
  | _ => (bitsOf f y, fl)

/-- `encode` of R91. -/
def encodeF (f : Fmt) (t : Tctl) (v : FVal) : Nat × Flags :=
  match v with
  | .nan => (f.nanBits, 0)
  | _ =>
    match roundTo f v t.rm with
    | (y, fl0) =>
      let fl := if v.isInf && !f.hasInf then Flags.ovf ||| Flags.nx else fl0
      if y.isInf && !(v.isInf && f.hasInf) then
        if f.narrow && t.satf then encodeFlush f t (.fin y.isNeg f.maxfin.1 f.maxfin.2) fl
        else if !f.hasInf then (f.nanBits, fl)
        else encodeFlush f t y fl
      else encodeFlush f t y fl

/-- `round_fp32` of R91. -/
def roundFp32 (v : FVal) (rm : RM) : FVal := (roundTo .fp32 v rm).1

/-- A source decoded with DAZ applied. -/
def srcF (f : Fmt) (t : Tctl) (x : Nat) : FVal := dazV t (f.decode x)

/-- `wrap` of R91 as the bits of the destination width. -/
def wrapBits (x : Int) (w : Nat) : Nat := (x % 2 ^ w).toNat

/-- The integer that w bits hold. -/
def intOf (x w : Nat) (sgn : Bool) : Int := if sgn then sfld x 0 w else ((x % 2 ^ w : Nat) : Int)

/-- `wrap` of R91. -/
def wrapInt (x : Int) (w : Nat) (sgn : Bool) : Int := intOf (wrapBits x w) w sgn

/-- `sat` of R91. -/
def satInt (x : Int) (w : Nat) (sgn : Bool) : Int :=
  let lo : Int := if sgn then -(2 ^ (w - 1)) else 0
  let hi : Int := if sgn then 2 ^ (w - 1) - 1 else 2 ^ w - 1
  min (max x lo) hi

/-- `to_int` of R91. -/
def toIntF (v : FVal) (w : Nat) (sgn : Bool) (rm : RM) : Int × Flags :=
  match v with
  | .nan => (0, Flags.nv)
  | .inf n => (satInt (if n then -(2 ^ w) else 2 ^ w) w sgn, Flags.nv)
  | .fin n m e =>
    match roundInt m e n rm with
    | (a, exact) =>
      let y : Int := if n then -(a : Int) else a
      if satInt y w sgn ≠ y then (satInt y w sgn, Flags.nv)
      else if exact then (y, 0) else (y, Flags.nx)

/-- The quotient of R75. -/
def divInt (a b : Int) (w : Nat) (sgn : Bool) : Int :=
  if b = 0 then (if sgn then -1 else 2 ^ w - 1) else wrapInt (Int.tdiv a b) w sgn
/-- The remainder of R75. -/
def remInt (a b : Int) : Int := if b = 0 then a else Int.tmod a b

/-- Byte i of a list, 0 beyond its end. -/
def byteAt (l : List Byte) (i : Nat) : Nat := (l.getD i 0).toNat

/-- `plane_bit` of R91. -/
def planeBit (blk : List Byte) (j k : Nat) : Nat := fld (byteAt blk (8 * j + k / 8)) (k % 8) 1

/-- `np_read` of R91: the first q planes at position k, plane 0 holding the sign. -/
def npRead (blk : List Byte) (q k : Nat) : Int :=
  let x := (List.range q).foldl (fun acc j => 2 * acc + planeBit blk j k) 0
  if planeBit blk 0 k = 1 then (x : Int) - 2 ^ q else x

/-- `np_value` of R91. -/
def npValue (blk : List Byte) (q k sc : Nat) : FVal :=
  if sc = 0xFF then .nan
  else FVal.ofScaled (npRead blk q k) ((sc : Int) - 127 - (q - 1)) false

/-- The sum of two values neither of which is infinite, exact, with zero as +0; NaN absorbs. -/
def exactAdd (a b : FVal) : FVal := (FVal.add .rne a b).1

/-- `np_block_dot` of R91. -/
def npBlockDot (ab : List Byte) (qa sa : Nat) (bb : List Byte) (qb sb : Nat) (t : Tctl) : FVal :=
  if sa = 0xFF ∨ sb = 0xFF then .nan
  else (List.range 64).foldl
    (fun acc k => exactAdd acc (FVal.mul (dazV t (npValue ab qa k sa)) (dazV t (npValue bb qb k sb))).1) (FVal.zero false)

/-- `acc_add` of R91. -/
def accAdd (acc : Nat) (p : FVal) (t : Tctl) : Nat × Flags :=
  if p.isZero then (acc, 0)
  else
    let a := srcF .fp32 t acc
    if a.isNan || p.isNan then (Fmt.fp32.nanBits, 0)
    else encodeF .fp32 t (FVal.add t.rm a p).1

/-- One level of `tree_reduce`: adjacent pairs combined. -/
def pairUp {α : Type} (op : α → α → α) : List α → List α
  | a :: b :: rest => op a b :: pairUp op rest
  | l => l

/-- `tree_reduce` of R91 over 2 ^ levels elements. -/
def treeReduce {α : Type} (op : α → α → α) : Nat → List α → List α
  | 0, l => l
  | n + 1, l => treeReduce op n (pairUp op l)

/-- `scale_addr` of R91. -/
def scaleAddr (base c r b : Nat) : Nat :=
  base + 1024 * (r / 32 * c + b / 32) + b % 32 * 32 + ((r % 32) ^^^ (b % 32))

/-- One element of `np_encode_block`, in units of 2 ^ u (R92). The flags are those of its pseudocode, also where R78 would set NX with
every OF, or where the sentence behind it would raise OF for a scale code clipped at 254 (log entry 72). -/
def npEncodeElem (t : Tctl) (p : Nat) (u : Int) (v : FVal) : Int × Flags :=
  match v with
  | .fin n m e =>
    match roundInt m (e - u) n t.rm with
    | (a, exact) =>
      let y : Int := if n then -(a : Int) else a
      let fl : Flags := if exact then 0 else Flags.nx
      let fl := if satInt y p true ≠ y ∧ magGt m e (2 ^ (p - 1) - 1) (u + 1) then fl ||| Flags.ovf else fl
      let x := satInt y p true
      if t.ftz && tiny x.natAbs u then (0, fl ||| Flags.uf ||| Flags.nx) else (x, fl)
  | _ => (0, 0)

/-- The largest magnitude of a list of finite values. -/
def maxMag (vs : List FVal) : FVal := vs.foldl (fun acc v => FVal.fmax acc v.abs) (FVal.zero false)

/-- `np_encode_block` of R92: scale code, elements, flags. -/
def npEncodeBlock (vs : List FVal) (p : Nat) (t : Tctl) : Nat × List Int × Flags :=
  if vs.any (fun v => v.isNan || v.isInf) then
    (0xFF, vs.map (fun _ => 0), if vs.any FVal.isInf then Flags.nv else 0)
  else
    let vs := vs.map (dazV t)
    match maxMag vs with
    | .fin _ m e =>
      if m = 0 then (0, vs.map (fun _ => 0), 0)
      else
        let sc := min (max (floorLog2 m e + 128) 0) 254
        let u := sc - 127 - ((p : Int) - 1)
        let rs := vs.map (npEncodeElem t p u)
        (sc.toNat, rs.map Prod.fst, rs.foldl (fun f r => f ||| r.2) 0)
    | _ => (0, vs.map (fun _ => 0), 0)

/-- The p planes of a block of elements, 8 bytes each, plane 0 first (R82). -/
def planesOf (xs : List Int) (p : Nat) : List Byte :=
  (List.range (8 * p)).map fun i =>
    BitVec.ofNat 8 ((List.range 8).foldl
      (fun acc b => acc + fld (wrapBits (xs.getD (i % 8 * 8 + b) 0) p) (p - 1 - i / 8) 1 * 2 ^ b) 0)

end Sys2Proof.Machine
end

