-- ==== Sys2Proof/Machine/Alu.lean ====
section
/-! DEFINITION. The results of the scalar operations as functions of their sources (R113 to R121). -/

namespace Sys2Proof.Machine

/-- An exact integer stored as wrap(y, 64, false) (R113). -/
def word (x : Int) : Word := BitVec.ofInt 64 x
def wordN (x : Nat) : Word := BitVec.ofNat 64 x

/-- Leading zero bits of an e-bit number (R114, R142). -/
def clzN (x e : Nat) : Nat := if x = 0 then e else e - 1 - Nat.log2 x
/-- One bits of an e-bit number. -/
def popcN (x e : Nat) : Nat := (List.range e).foldl (fun acc i => acc + fld x i 1) 0
/-- Trailing zero bits of an e-bit number. -/
def ctzN (x e : Nat) : Nat := ((List.range e).find? fun i => fld x i 1 == 1).getD e

/-- Logical left shift by a natural count; 0 from the width on (R114, R142). -/
def shlN (x c e : Nat) : Nat := if e ≤ c then 0 else x * 2 ^ c % 2 ^ e
/-- Logical right shift. -/
def shrN (x c e : Nat) : Nat := if e ≤ c then 0 else x / 2 ^ c
/-- Arithmetic right shift; copies of the sign from the width on. -/
def sraN (x c e : Nat) : Nat := wrapBits (intOf x e true / 2 ^ min c e) e

def aluAdd (a b : Word) : Word := a + b
def aluSub (a b : Word) : Word := a - b
def aluMul (a b : Word) : Word := a * b
/-- Bits [127:64] of the exact signed product (R114). -/
def aluMulh (a b : Word) : Word := word (a.toInt * b.toInt / 2 ^ 64)
/-- Quotient under R75. -/
def aluDiv (a b : Word) : Word := word (divInt a.toInt b.toInt 64 true)
/-- Remainder under R75. -/
def aluRem (a b : Word) : Word := word (remInt a.toInt b.toInt)
def aluMin (a b : Word) : Word := if b.slt a then b else a
def aluMax (a b : Word) : Word := if a.slt b then b else a
def aluAnd (a b : Word) : Word := a &&& b
def aluOr (a b : Word) : Word := a ||| b
def aluXor (a b : Word) : Word := a ^^^ b
def aluAndn (a b : Word) : Word := a &&& ~~~b
def aluShl (a b : Word) : Word := wordN (shlN a.toNat b.toNat 64)
def aluShr (a b : Word) : Word := wordN (shrN a.toNat b.toNat 64)
def aluSra (a b : Word) : Word := wordN (sraN a.toNat b.toNat 64)
def aluRol (a b : Word) : Word := a.rotateLeft (b.toNat % 64)
def aluClz (a : Word) : Word := wordN (clzN a.toNat 64)
def aluCtz (a : Word) : Word := wordN (ctzN a.toNat 64)
def aluPopc (a : Word) : Word := wordN (popcN a.toNat 64)

/-- The length field of BFX and BFI, at most 64 (R115). -/
def bfLen (b : Word) : Nat := min (fld b.toNat 8 7) 64

/-- BFX (R115). -/
def aluBfx (a b : Word) : Word :=
  let pos := fld b.toNat 0 6
  let len := bfLen b
  if len = 0 then 0
  else
    let f := a.toNat / 2 ^ pos % 2 ^ len
    if b.getLsbD 16 && fld f (len - 1) 1 == 1 then word ((f : Int) - 2 ^ len) else wordN f

/-- BFI: the old destination, the field, position and length (R115). -/
def aluBfi (d a b : Word) : Word :=
  let pos := fld b.toNat 0 6
  let len := bfLen b
  let m : Word := wordN ((2 ^ len - 1) * 2 ^ pos)
  (d &&& ~~~m) ||| wordN (a.toNat % 2 ^ len * 2 ^ pos)

/-- A condition of CMP and CMPI (R117). -/
def Cond.holds (cc : Cond) (a b : Word) : Bool :=
  match cc with
  | .eq => a == b | .ne => a != b
  | .lt => a.slt b | .le => !b.slt a | .gt => b.slt a | .ge => !a.slt b
  | .ltu => a.ult b | .leu => !b.ult a | .gtu => b.ult a | .geu => !a.ult b

/-- LDIH (R116). -/
def aluLdih (d : Word) (imm : Nat) : Word := (d <<< 21) ||| wordN imm
/-- LEA (R116). -/
def aluLea (a : Word) (off : Int) (sh : Nat) : Word := word ((a.toNat : Int) + off * 2 ^ sh)

/-- A binary32 source of a scalar slot: bits [31:0], under DAZ (R118). -/
def fsrc (t : Tctl) (a : Word) : FVal := srcF .fp32 t (fld a.toNat 0 32)

/-- An exact result encoded into binary32, zero-extended (R118). -/
def fres (t : Tctl) (r : FVal × Flags) : Word × Flags :=
  match encodeF .fp32 t r.1 with
  | (b, fl) => (wordN b, r.2 ||| fl)

def fAdd (t : Tctl) (a b : Word) : Word × Flags := fres t (FVal.add t.rm (fsrc t a) (fsrc t b))
def fSub (t : Tctl) (a b : Word) : Word × Flags := fres t (FVal.add t.rm (fsrc t a) (fsrc t b).negate)
def fMul (t : Tctl) (a b : Word) : Word × Flags := fres t (FVal.mul (fsrc t a) (fsrc t b))
def fFma (t : Tctl) (a b c : Word) : Word × Flags := fres t (FVal.fma t.rm (fsrc t a) (fsrc t b) (fsrc t c))
/-- FMIN and FMAX do not round and raise no flag (R118). -/
def fMin (t : Tctl) (a b : Word) : Word := wordN (bitsOf .fp32 (FVal.fmin (fsrc t a) (fsrc t b)))
def fMax (t : Tctl) (a b : Word) : Word := wordN (bitsOf .fp32 (FVal.fmax (fsrc t a) (fsrc t b)))
/-- FCMP (R119). -/
def fCmp (t : Tctl) (cc : FCond) (a b : Word) : Bool := FCond.holdsF cc (fsrc t a) (fsrc t b)

/-- One conversion of R81. `satI`: integer to integer saturates; `satF`: floating to narrow floating as though SATF = 1. -/
def convert (t : Tctl) (satI satF : Bool) (dst src : ET) (x : Nat) : Nat × Flags :=
  match ET.fmt src, ET.fmt dst with
  | some fs, some fd => encodeF fd (if satF then t ||| 0x10 else t) (srcF fs t x)
  | some fs, none =>
    match toIntF (srcF fs t x) dst.bits dst.isSigned t.rm with
    | (y, fl) => (wrapBits y dst.bits, fl)
  | none, some fd => encodeF fd t (FVal.ofInt (intOf x src.bits src.isSigned))
  | none, none =>
    let y := intOf x src.bits src.isSigned
    (wrapBits (if satI then satInt y dst.bits dst.isSigned else y) dst.bits, 0)

/-- FCVT: an i32 result is sign-extended, every other narrow result zero-extended (R120). -/
def fCvt (t : Tctl) (dst src : ET) (a : Word) : Word × Flags :=
  match convert t true false dst src (fld a.toNat 0 src.bits) with
  | (y, fl) => (if dst == .i32 then word (intOf y 32 true) else wordN y, fl)

/-- QOP: bit 2·qa + qb of the truth table (R121). -/
def qopVal (t : Nat) (a b : Bool) : Bool := fld t (2 * bit a + bit b) 1 == 1

end Sys2Proof.Machine
end

