-- ==== Sys2Proof/Requests.lean ====
section
/-! DEFINITION. What the steps of the device that no slot carries are told from outside: commands, host and remote
accesses, records, images (R343 to R355, R384, R385, R388). -/

namespace Sys2Proof

/-- Who issues a bridge command: the function and the context it names at +4 of the command (R347, R349). -/
structure Cmd where
  fn  : Nat
  ctx : Nat
  deriving DecidableEq, Repr

/-- The read-modify-write of an atomic that comes from outside a core (R346, R351). -/
inductive Rmw
  | fetch (fn : AmoFn) (operand : Nat)
  | cas (compare new : Nat)
  deriving DecidableEq, Repr

/-- The kind of an access that reaches the ingress (R346). -/
inductive RemoteKind
  | read (bytes : Nat)
  | write (data : List Byte)
  | atomic (bytes : Nat) (op : Rmw)
  deriving DecidableEq, Repr

/-- An access of another device: what R346 says each access carries, with the scope of an atomic, by which R224 judges it there. -/
structure RemoteReq where
  member  : Nat
  epoch   : Nat
  index   : Nat
  gen     : Nat
  key     : Nat
  elem    : Nat
  kind    : RemoteKind
  scope   : Scope
  deriving DecidableEq, Repr

/-- The operands of PTCREATE (R349). -/
structure PtSpec where
  seq     : Nat
  index   : Nat
  stack   : Nat
  fmt     : Nat
  extents : List Nat
  pgsz    : Nat
  coh     : Nat
  deriving DecidableEq, Repr

/-- The operands of IMPORT, with what the device reads from the target at IMPORT (R345, R349). -/
structure ImportSpec where
  member : Nat
  index  : Nat
  key    : Nat
  fmt    : Nat
  perms  : Nat
  stack  : Nat
  count  : Nat
  epoch  : Nat
  gen    : Nat
  deriving DecidableEq, Repr

/-- An intake record (R353). -/
structure IntakeRec where
  drive   : Nat
  ns      : Nat
  block   : Nat
  blocks  : Nat
  tensor  : Nat
  offset  : Nat
  ref     : Nat
  ctx     : Nat
  bsize   : Nat
  deriving DecidableEq, Repr

/-- How an intake ends: the bytes read, or the first failed block and the NVMe status (R353). -/
inductive IntakeEnd
  | data (bytes : List Byte)
  | failed (block status : Nat)
  deriving DecidableEq, Repr

/-- A decode record (R355). -/
structure DecodeRec where
  decoder : Nat
  codec   : Nat
  stream  : Nat
  offset  : Nat
  length  : Nat
  output  : Nat
  frames  : Nat
  ref     : Nat
  ctx     : Nat
  deriving DecidableEq, Repr

/-- What a bitstream says of itself (R354): its profile (HEVC: 1 Main, 2 Main 10; AV1: 0 Main), its level as ten times the number,
the sample size in bits, whether chroma is 4:2:0, whether it uses a tool or format that R354 leaves out. -/
structure StreamInfo where
  profile : Nat
  level   : Nat
  depth   : Nat
  yuv420  : Bool
  other   : Bool
  deriving DecidableEq, Repr
/-- A decoded picture: its width and height, and the samples of its planes in row-major order. -/
structure Picture where
  width  : Nat
  height : Nat
  y      : List Nat
  cb     : List Nat
  cr     : List Nat
  deriving DecidableEq, Repr
/-- What a decoder finds in a bitstream (R355): the stream's description, the pictures in output order, and whether the stream is
corrupt behind them. -/
structure DecodeEnd where
  info     : StreamInfo
  pictures : List Picture
  corrupt  : Bool
  deriving DecidableEq, Repr

/-- An image that R383 verifies: its body, the public key and the signature that it carries, its security version. -/
structure FwImage where
  body      : List Byte
  key       : List Byte
  signature : List Byte
  version   : Nat
  deriving DecidableEq, Repr

/-- A transform image as XFLOAD finds it: the image, whose body is its code, its routine ids and its size (R384). -/
structure XfImage where
  image    : FwImage
  routines : List Nat
  size     : Nat
  deriving DecidableEq, Repr

/-- An error that a global access meets in flight (R207, R326, R346). In the device's own memory: a stream that does not decode, with
the bytes decoded before the failure; tile data; a metadata word. Through a proxy: a stale window (1 epoch, 2 generation, 3 entry FREE); a
violation of the key, or of bounds or permissions; what the exporter's tensor meets, as cause and detail words; no reply over a link. In a
transform core: the code of a routine that signals an error (R218). -/
inductive AccessErr
  | decode (bytes : Nat)
  | data
  | metadata
  | stale (why : Nat)
  | key
  | bounds
  | exporter (cause : Nat) (words : List Nat)
  | timeout (link : Nat)
  | routine (code : Nat)
  deriving DecidableEq, Repr
/-- An error that reaches a copy in flight (R207), at the element access of an ordinal. -/
structure CopyErr where
  ordinal : Nat
  err     : AccessErr
  deriving DecidableEq, Repr

/-- What an ECC error on a vertical bus does (R381). -/
inductive VbusHarm
  | corrected
  | clean
  | dirty (tensor page tile : Nat)
  deriving DecidableEq, Repr
/-- An ECC error on a vertical bus transfer (R381): the boundary, the bus, and the logical line of a spare group. -/
structure VbusErr where
  boundary : Nat
  bus      : Nat
  group    : Nat
  line     : Nat
  harm     : VbusHarm
  deriving DecidableEq, Repr

/-- How a physical line of a vertical bus is broken (R379): it samples 0, it samples 1, or it samples 1 with another line too. -/
inductive LineBreak
  | low
  | high
  | bridged (other : Nat)
  deriving DecidableEq, Repr
/-- A broken line: stack, boundary, bus, physical line, the direction in which it shows. -/
structure LineFault where
  stack    : Nat
  boundary : Nat
  bus      : Nat
  line     : Nat
  down     : Bool
  how      : LineBreak
  deriving DecidableEq, Repr

/-- A register that a write reaches and that no other row names (R284, R348, R374); `aperture`: whichever lies at an offset of the
function's register aperture. -/
inductive RegRef
  | qbase (queue : Nat)
  | qctl (queue : Nat)
  | cmdbuf (fn : Nat)
  | fabase (fn : Nat)
  | fatail (fn : Nat)
  | tlto
  | vbidx (stack : Nat)
  | cmdgo (fn : Nat)
  | aperture (offset : Nat)
  deriving DecidableEq, Repr

/-- One tensor of a `basat` image (R68, R70, R385): an id, or none for one the loader chooses. -/
structure ImageTensor where
  id      : Option Nat
  fmt     : Nat
  extents : List Nat
  ro      : Bool
  content : List (Nat × Byte)
  deriving DecidableEq, Repr

/-- A `.recipe` of an image: the positions in the image of the recomputed tensor, of the launch record of the
template, of the template's task header, and of the inputs (R388). -/
structure ImageRecipe where
  target   : Nat
  template : Nat
  inputs   : List Nat
  deriving DecidableEq, Repr

/-- A place in the image where the loader fills in the id of another of its tensors (R385). -/
structure ImageFix where
  tensor : Nat
  offset : Nat
  ref    : Nat
  deriving DecidableEq, Repr

/-- A `basat` image as the loading software loads it (R385). -/
structure Image where
  stack   : Nat
  tensors : List ImageTensor
  fixes   : List ImageFix
  recipes : List ImageRecipe
  deriving DecidableEq, Repr

end Sys2Proof
end

