-- ==== Sys2Proof/Syntax.lean ====
section
/-! DEFINITION. The instructions of the device: one constructor for each row of spec/opcode_table.json. The first 196 are
slot operations (R93 to R109), with register numbers as natural numbers and immediates as the integers they denote; the
others are the steps that the device takes apart from the slots. -/

namespace Sys2Proof

/-- One slot operation, or one step of the device. -/
inductive Instr
  | nop   -- NOP: any slot
  | add (g : Guard) (sd : Nat) (sa : Nat) (sb : Nat)   -- ADD: S0, S1
  | sub (g : Guard) (sd : Nat) (sa : Nat) (sb : Nat)   -- SUB: S0, S1
  | mul (g : Guard) (sd : Nat) (sa : Nat) (sb : Nat)   -- MUL: S0, S1
  | mulh (g : Guard) (sd : Nat) (sa : Nat) (sb : Nat)   -- MULH: S0, S1
  | div (g : Guard) (sd : Nat) (sa : Nat) (sb : Nat)   -- DIV: S0, S1
  | rem (g : Guard) (sd : Nat) (sa : Nat) (sb : Nat)   -- REM: S0, S1
  | min (g : Guard) (sd : Nat) (sa : Nat) (sb : Nat)   -- MIN: S0, S1
  | max (g : Guard) (sd : Nat) (sa : Nat) (sb : Nat)   -- MAX: S0, S1
  | and (g : Guard) (sd : Nat) (sa : Nat) (sb : Nat)   -- AND: S0, S1
  | or (g : Guard) (sd : Nat) (sa : Nat) (sb : Nat)   -- OR: S0, S1
  | xor (g : Guard) (sd : Nat) (sa : Nat) (sb : Nat)   -- XOR: S0, S1
  | andn (g : Guard) (sd : Nat) (sa : Nat) (sb : Nat)   -- ANDN: S0, S1
  | shl (g : Guard) (sd : Nat) (sa : Nat) (sb : Nat)   -- SHL: S0, S1
  | shr (g : Guard) (sd : Nat) (sa : Nat) (sb : Nat)   -- SHR: S0, S1
  | sra (g : Guard) (sd : Nat) (sa : Nat) (sb : Nat)   -- SRA: S0, S1
  | rol (g : Guard) (sd : Nat) (sa : Nat) (sb : Nat)   -- ROL: S0, S1
  | clz (g : Guard) (sd : Nat) (sa : Nat)   -- CLZ: S0, S1
  | ctz (g : Guard) (sd : Nat) (sa : Nat)   -- CTZ: S0, S1
  | popc (g : Guard) (sd : Nat) (sa : Nat)   -- POPC: S0, S1
  | bfx (g : Guard) (sd : Nat) (sa : Nat) (sb : Nat)   -- BFX: S0, S1
  | bfi (g : Guard) (sd : Nat) (sa : Nat) (sb : Nat)   -- BFI: S0, S1
  | sel (g : Guard) (sd : Nat) (qs : Nat) (sa : Nat) (sb : Nat)   -- SEL: S0, S1
  | cmp (g : Guard) (cc : Cond) (qd : Nat) (sa : Nat) (sb : Nat)   -- CMP: S0, S1
  | addi (g : Guard) (sd : Nat) (sa : Nat) (imm : Int)   -- ADDI: S0, S1
  | muli (g : Guard) (sd : Nat) (sa : Nat) (imm : Int)   -- MULI: S0, S1
  | andi (g : Guard) (sd : Nat) (sa : Nat) (imm : Nat)   -- ANDI: S0, S1
  | ori (g : Guard) (sd : Nat) (sa : Nat) (imm : Nat)   -- ORI: S0, S1
  | xori (g : Guard) (sd : Nat) (sa : Nat) (imm : Nat)   -- XORI: S0, S1
  | shli (g : Guard) (sd : Nat) (sa : Nat) (n : Nat)   -- SHLI: S0, S1
  | shri (g : Guard) (sd : Nat) (sa : Nat) (n : Nat)   -- SHRI: S0, S1
  | srai (g : Guard) (sd : Nat) (sa : Nat) (n : Nat)   -- SRAI: S0, S1
  | cmpi (g : Guard) (cc : Cond) (qd : Nat) (sa : Nat) (imm : Int)   -- CMPI: S0, S1
  | ldi (g : Guard) (sd : Nat) (imm : Int)   -- LDI: S0, S1
  | ldih (g : Guard) (sd : Nat) (imm : Nat)   -- LDIH: S0, S1
  | lea (g : Guard) (sd : Nat) (sa : Nat) (off : Int) (sh : Nat)   -- LEA: S0, S1
  | fadd (g : Guard) (sd : Nat) (sa : Nat) (sb : Nat)   -- FADD: S0, S1
  | fsub (g : Guard) (sd : Nat) (sa : Nat) (sb : Nat)   -- FSUB: S0, S1
  | fmul (g : Guard) (sd : Nat) (sa : Nat) (sb : Nat)   -- FMUL: S0, S1
  | fma (g : Guard) (sd : Nat) (sa : Nat) (sb : Nat) (sc : Nat)   -- FMA: S0, S1
  | fmin (g : Guard) (sd : Nat) (sa : Nat) (sb : Nat)   -- FMIN: S0, S1
  | fmax (g : Guard) (sd : Nat) (sa : Nat) (sb : Nat)   -- FMAX: S0, S1
  | fcmp (g : Guard) (cc : FCond) (qd : Nat) (sa : Nat) (sb : Nat)   -- FCMP: S0, S1
  | fcvt (g : Guard) (dst : ET) (src : ET) (sd : Nat) (sa : Nat)   -- FCVT: S0, S1
  | qop (g : Guard) (qd : Nat) (qa : Nat) (qb : Nat) (t : Nat)   -- QOP: S0, S1
  | qmov (g : Guard) (qd : Nat) (sa : Nat)   -- QMOV: S0, S1
  | movq (g : Guard) (sd : Nat)   -- MOVQ: S0, S1
  | br (g : Guard) (off : Int)   -- BR: S0, S1
  | call (g : Guard) (off : Int)   -- CALL: S0, S1
  | ret (g : Guard)   -- RET: S0, S1
  | jr (g : Guard) (sa : Nat)   -- JR: S0, S1
  | loop (sa : Nat) (n : Nat) (level : Nat) (stages : Nat) (margin : Nat) (rs : Bool)   -- LOOP: S0, S1
  | lbrk (g : Guard)   -- LBRK: S0, S1
  | rot (g : Guard)   -- ROT: S0, S1
  | yld (carry : Nat) (off : Int)   -- YLD: S0, S1
  | endTask (g : Guard)   -- END: S0, S1
  | trap (g : Guard) (code : Nat)   -- TRAP: S0, S1
  | retc   -- RETC: S0, S1
  | bgrd (g : Guard) (sd : Nat) (which : BgSel)   -- BGRD: S0, S1
  | bgtop (g : Guard) (sa : Nat) (sb : Nat)   -- BGTOP: S0, S1
  | bggive (g : Guard) (sa : Nat) (sb : Nat) (bgt : Bool)   -- BGGIVE: S0, S1
  | estm (g : Guard) (sa : Nat)   -- ESTM: S0, S1
  | time (g : Guard) (sd : Nat)   -- TIME: S0, S1
  | cyc (g : Guard) (sd : Nat) (layer : Layer)   -- CYC: S0, S1
  | srd (g : Guard) (sd : Nat) (idx : Nat)   -- SRD: S0, S1
  | swr (g : Guard) (sa : Nat) (idx : Nat)   -- SWR: S0, S1
  | lnch (g : Guard) (sd : Nat) (qs : Nat) (sa : Nat)   -- LNCH: S0, S1
  | ljoin (g : Guard) (qs : Nat) (sa : Nat)   -- LJOIN: S0, S1
  | enq (g : Guard) (qs : Nat) (sa : Nat) (sb : Nat)   -- ENQ: S0, S1
  | ddec (g : Guard) (sa : Nat)   -- DDEC: S0, S1
  | hint (g : Guard) (sa : Nat) (code : Nat)   -- HINT: S0, S1
  | seqf (g : Guard) (sd : Nat) (qs : Nat) (sa : Nat)   -- SEQF: S0, S1
  | seqe (g : Guard) (sa : Nat)   -- SEQE: S0, S1
  | tgrow (g : Guard) (h : Nat) (qs : Nat) (sa : Nat)   -- TGROW: S0, S1
  | tdef (g : Guard) (h : Nat) (qs : Nat) (sa : Nat)   -- TDEF: S0, S1
  | tfree (g : Guard) (h : Nat)   -- TFREE: S0, S1
  | vadd (f : VMode) (vd : Nat) (va : Nat) (vb : Nat)   -- VADD: V0 to V2
  | vsub (f : VMode) (vd : Nat) (va : Nat) (vb : Nat)   -- VSUB: V0 to V2
  | vmul (f : VMode) (vd : Nat) (va : Nat) (vb : Nat)   -- VMUL: V0 to V2
  | vmulh (f : VMode) (vd : Nat) (va : Nat) (vb : Nat)   -- VMULH: V0 to V2
  | vfma (f : VMode) (vd : Nat) (va : Nat) (vb : Nat)   -- VFMA: V0 to V2
  | vfms (f : VMode) (vd : Nat) (va : Nat) (vb : Nat)   -- VFMS: V0 to V2
  | vmin (f : VMode) (vd : Nat) (va : Nat) (vb : Nat)   -- VMIN: V0 to V2
  | vmax (f : VMode) (vd : Nat) (va : Nat) (vb : Nat)   -- VMAX: V0 to V2
  | vabs (f : VMode) (vd : Nat) (va : Nat)   -- VABS: V0 to V2
  | vneg (f : VMode) (vd : Nat) (va : Nat)   -- VNEG: V0 to V2
  | vadds (f : VMode) (vd : Nat) (va : Nat) (vb : Nat)   -- VADDS: V0 to V2
  | vsubs (f : VMode) (vd : Nat) (va : Nat) (vb : Nat)   -- VSUBS: V0 to V2
  | vavg (f : VMode) (vd : Nat) (va : Nat) (vb : Nat)   -- VAVG: V0 to V2
  | vand (f : VMode) (vd : Nat) (va : Nat) (vb : Nat)   -- VAND: V0 to V2
  | vor (f : VMode) (vd : Nat) (va : Nat) (vb : Nat)   -- VOR: V0 to V2
  | vxor (f : VMode) (vd : Nat) (va : Nat) (vb : Nat)   -- VXOR: V0 to V2
  | vandn (f : VMode) (vd : Nat) (va : Nat) (vb : Nat)   -- VANDN: V0 to V2
  | vnot (f : VMode) (vd : Nat) (va : Nat)   -- VNOT: V0 to V2
  | vshl (f : VMode) (vd : Nat) (va : Nat) (vb : Nat)   -- VSHL: V0 to V2
  | vshr (f : VMode) (vd : Nat) (va : Nat) (vb : Nat)   -- VSHR: V0 to V2
  | vsra (f : VMode) (vd : Nat) (va : Nat) (vb : Nat)   -- VSRA: V0 to V2
  | vclz (f : VMode) (vd : Nat) (va : Nat)   -- VCLZ: V0 to V2
  | vpopc (f : VMode) (vd : Nat) (va : Nat)   -- VPOPC: V0 to V2
  | vcmp (wid : Width) (pg : Nat) (et : ET) (cc : FCond) (pd : Nat) (va : Nat) (vb : Nat)   -- VCMP: V0 to V2
  | vsel (wid : Width) (pg : Nat) (et : ET) (vd : Nat) (va : Nat) (vb : Nat)   -- VSEL: V0 to V2
  | vclass (f : VMode) (vd : Nat) (va : Nat)   -- VCLASS: V0 to V2
  | vcvt (f : VMode) (src : ET) (vd : Nat) (va : Nat)   -- VCVT: V0 to V2
  | vcvts (f : VMode) (src : ET) (vd : Nat) (va : Nat)   -- VCVTS: V0 to V2
  | vpack (f : VMode) (vd : Nat) (va : Nat) (vb : Nat)   -- VPACK: V0 to V2
  | vunpk (f : VMode) (vd : Nat) (va : Nat) (half : Bool)   -- VUNPK: V0 to V2
  | vscl (f : VMode) (vd : Nat) (va : Nat) (sb : Nat)   -- VSCL: V0 to V2
  | vrnd (f : VMode) (vd : Nat) (va : Nat)   -- VRND: V0 to V2
  | vaddi (f : VMode) (vd : Nat) (va : Nat) (imm : Int)   -- VADDI: V0 to V2
  | vmuli (f : VMode) (vd : Nat) (va : Nat) (imm : Int)   -- VMULI: V0 to V2
  | vshli (f : VMode) (vd : Nat) (va : Nat) (n : Nat)   -- VSHLI: V0 to V2
  | vshri (f : VMode) (vd : Nat) (va : Nat) (n : Nat)   -- VSHRI: V0 to V2
  | vsrai (f : VMode) (vd : Nat) (va : Nat) (n : Nat)   -- VSRAI: V0 to V2
  | vandi (f : VMode) (vd : Nat) (va : Nat) (imm : Int)   -- VANDI: V0 to V2
  | vbc (f : VMode) (vd : Nat) (sb : Nat)   -- VBC: V0 to V2
  | vldi (f : VMode) (vd : Nat) (imm : Int)   -- VLDI: V0 to V2
  | vperm (f : VMode) (vd : Nat) (va : Nat) (vb : Nat)   -- VPERM: V0 to V2
  | vrot (f : VMode) (vd : Nat) (va : Nat) (sb : Nat)   -- VROT: V0 to V2
  | vsld (f : VMode) (vd : Nat) (va : Nat) (sb : Nat)   -- VSLD: V0 to V2
  | vext (f : VMode) (sd : Nat) (va : Nat) (sb : Nat)   -- VEXT: V0 to V2
  | vins (f : VMode) (vd : Nat) (sa : Nat) (sb : Nat)   -- VINS: V0 to V2
  | viota (f : VMode) (vd : Nat)   -- VIOTA: V0 to V2
  | vcmpr (f : VMode) (vd : Nat) (va : Nat)   -- VCMPR: V0 to V2
  | vxpnd (f : VMode) (vd : Nat) (va : Nat)   -- VXPND: V0 to V2
  | vradd (f : VMode) (vd : Nat) (va : Nat)   -- VRADD: V0 to V2
  | vrmax (f : VMode) (vd : Nat) (va : Nat)   -- VRMAX: V0 to V2
  | vrmin (f : VMode) (vd : Nat) (va : Nat)   -- VRMIN: V0 to V2
  | vdot (f : VMode) (vd : Nat) (va : Nat) (vb : Nat)   -- VDOT: V0 to V2
  | pand (pd : Nat) (pa : Nat) (pb : Nat)   -- PAND: V0 to V2
  | por (pd : Nat) (pa : Nat) (pb : Nat)   -- POR: V0 to V2
  | pxor (pd : Nat) (pa : Nat) (pb : Nat)   -- PXOR: V0 to V2
  | pnot (pd : Nat) (pa : Nat)   -- PNOT: V0 to V2
  | pfirst (wid : Width) (et : ET) (pd : Nat) (pa : Nat)   -- PFIRST: V0 to V2
  | pcnt (wid : Width) (et : ET) (sd : Nat) (pa : Nat)   -- PCNT: V0 to V2
  | plen (wid : Width) (et : ET) (pd : Nat) (sb : Nat)   -- PLEN: V0 to V2
  | vpln (f : VMode) (vd : Nat) (va : Nat) (p : Nat)   -- VPLN: V0 to V2
  | vupln (f : VMode) (vd : Nat) (va : Nat) (p : Nat)   -- VUPLN: V0 to V2
  | vbsc (f : VMode) (vd : Nat) (va : Nat)   -- VBSC: V0 to V2
  | vpop (f : VMode) (vd : Nat) (rq : Nat)   -- VPOP: V0 to V2
  | fexp2 (f : FMode) (vd : Nat) (va : Nat)   -- FEXP2: F
  | fexp (f : FMode) (vd : Nat) (va : Nat)   -- FEXP: F
  | flog2 (f : FMode) (vd : Nat) (va : Nat)   -- FLOG2: F
  | fln (f : FMode) (vd : Nat) (va : Nat)   -- FLN: F
  | frcp (f : FMode) (vd : Nat) (va : Nat)   -- FRCP: F
  | frsq (f : FMode) (vd : Nat) (va : Nat)   -- FRSQ: F
  | fsqrt (f : FMode) (vd : Nat) (va : Nat)   -- FSQRT: F
  | ftanh (f : FMode) (vd : Nat) (va : Nat)   -- FTANH: F
  | fsigm (f : FMode) (vd : Nat) (va : Nat)   -- FSIGM: F
  | ferf (f : FMode) (vd : Nat) (va : Nat)   -- FERF: F
  | fsin (f : FMode) (vd : Nat) (va : Nat)   -- FSIN: F
  | fcos (f : FMode) (vd : Nat) (va : Nat)   -- FCOS: F
  | fgelu (f : FMode) (vd : Nat) (va : Nat)   -- FGELU: F
  | mma (ta : Nat) (da : Nat) (db : Nat) (kb : Nat)   -- MMA: M
  | mmaz (ta : Nat) (da : Nat) (db : Nat) (kb : Nat)   -- MMAZ: M
  | mmaw (ta : Nat) (da : Nat) (db : Nat) (kb : Nat)   -- MMAW: M
  | mmag (ta : Nat) (da : Nat) (db : Nat) (kb : Nat)   -- MMAG: M
  | mdrn (ta : Nat) (rq : Nat) (fmt : DrainFmt) (relu : Bool) (shift : Option Int) (off : Option Nat)   -- MDRN: M
  | mzero (ta : Nat)   -- MZERO: M
  | mdld (da : Nat) (off : Nat)   -- MDLD: M
  | mwait (ta : Nat)   -- MWAIT: M
  | mnest (da : Nat) (off : Nat)   -- MNEST: M
  | mqset (rq : Nat) (size : Nat)   -- MQSET: M
  | ldv (g : Guard) (vd : Nat) (sa : Nat) (imm : Nat)   -- LDV: C0, C1
  | stv (g : Guard) (vd : Nat) (sa : Nat) (imm : Nat)   -- STV: C0, C1
  | lds (g : Guard) (sd : Nat) (sa : Nat) (imm : Nat)   -- LDS: C0, C1
  | ldsGlobal (g : Guard) (sd : Nat) (h : Nat) (sa : Nat) (cls : Option Nat)   -- LDS_GLOBAL: C0, C1
  | sts (g : Guard) (sd : Nat) (sa : Nat) (imm : Nat)   -- STS: C0, C1
  | ldvx (g : Guard) (vd : Nat) (sa : Nat) (vx : Nat)   -- LDVX: C0, C1
  | stvx (g : Guard) (vd : Nat) (sa : Nat) (vx : Nat)   -- STVX: C0, C1
  | ldp (g : Guard) (pd : Nat) (sa : Nat) (imm : Nat)   -- LDP: C0, C1
  | stp (g : Guard) (pd : Nat) (sa : Nat) (imm : Nat)   -- STP: C0, C1
  | cpin (g : Guard) (h : Nat) (k : Nat) (sa : Nat) (sb : Nat) (cls : Option Nat)   -- CPIN: C0, C1
  | cpout (g : Guard) (h : Nat) (k : Nat) (sa : Nat) (sb : Nat) (cls : Option Nat)   -- CPOUT: C0, C1
  | cpmc (g : Guard) (h : Nat) (k : Nat) (sa : Nat) (sb : Nat) (cls : Option Nat)   -- CPMC: C0, C1
  | cpga (g : Guard) (h : Nat) (k : Nat) (sa : Nat) (sb : Nat) (cls : Option Nat)   -- CPGA: C0, C1
  | cpsc (g : Guard) (h : Nat) (k : Nat) (sa : Nat) (sb : Nat) (cls : Option Nat)   -- CPSC: C0, C1
  | cpxf (g : Guard) (h : Nat) (k : Nat) (sa : Nat) (sb : Nat) (cls : Option Nat)   -- CPXF: C0, C1
  | cpqo (g : Guard) (h : Nat) (k : Nat) (sa : Nat) (rq : Nat) (cls : Option Nat)   -- CPQO: C0, C1
  | cpqf (g : Guard) (k : Nat) (sa : Nat) (rq : Nat)   -- CPQF: C0, C1
  | cpfl (g : Guard) (h : Nat) (k : Nat) (sa : Nat) (sb : Nat) (cls : Option Nat)   -- CPFL: C0, C1
  | wdld (g : Guard) (wd : Nat) (sa : Nat) (imm : Nat)   -- WDLD: C0, C1
  | waitk (g : Guard) (k : Nat)   -- WAITK: C0, C1
  | testk (g : Guard) (qd : Nat) (k : Nat)   -- TESTK: C0, C1
  | waitkx (g : Guard) (k : Nat)   -- WAITKX: C0, C1
  | krel (g : Guard) (k : Nat)   -- KREL: C0, C1
  | ldg (g : Guard) (h : Nat) (size : GSize) (sa : Nat) (sb : Nat) (cls : Option Nat)   -- LDG: C0, C1
  | stg (g : Guard) (h : Nat) (size : GSize) (sa : Nat) (sb : Nat) (cls : Option Nat)   -- STG: C0, C1
  | amo (g : Guard) (h : Nat) (fn : AmoFn) (sa : Nat) (sb : Nat) (scope : Scope)   -- AMO: C0, C1
  | amoc (g : Guard) (h : Nat) (size : CSize) (sa : Nat) (sb : Nat) (scope : Scope)   -- AMOC: C0, C1
  | fence (g : Guard) (scope : Scope) (mask : Nat) (flush : Bool)   -- FENCE: C0, C1
  | binit (g : Guard) (b : Nat) (count : Nat)   -- BINIT: C0, C1
  | barv (g : Guard) (b : Nat) (sa : Nat)   -- BARV: C0, C1
  | bwait (g : Guard) (b : Nat)   -- BWAIT: C0, C1
  | bexp (g : Guard) (b : Nat) (sa : Nat)   -- BEXP: C0, C1
  | gbar (g : Guard) (qs : Nat) (level : Nat)   -- GBAR: C0, C1
  | cflush (g : Guard) (h : Nat) (k : Nat) (sa : Nat) (sb : Nat)   -- CFLUSH: C0, C1
  | arrayOpStart (core : Nat)   -- ARRAY_OP_START: R178
  | arrayOpEnd (core : Nat)   -- ARRAY_OP_END: R180
  | checkpointBundle (core : Nat)   -- CHECKPOINT_BUNDLE: R252
  | seqfRelease (parent child : Nat)   -- SEQF_RELEASE: R340
  | promiseMissed (core : Nat)   -- PROMISE_MISSED: R211
  | waitSwitchPoint (core : Nat)   -- WAIT_SWITCH_POINT: R260
  | saveParkedTask (task : Nat)   -- SAVE_PARKED_TASK: R261
  | saveAreaReserve (task : Nat)   -- SAVE_AREA_RESERVE: R250
  | schedulerDecision (die : Nat)   -- SCHEDULER_DECISION: R297
  | sliceExhausted (core : Nat)   -- SLICE_EXHAUSTED: R299
  | drainMaxExpiry (core : Nat)   -- DRAIN_MAX_EXPIRY: R301
  | gangHoldRequest (die : Nat) (cores : List Nat)   -- GANG_HOLD_REQUEST: R295
  | operatorHead (queue : Nat)   -- OPERATOR_HEAD: R290
  | holdPrepare (task : Nat)   -- HOLD_PREPARE: R313
  | moveComplete (tensor : Nat)   -- MOVE_COMPLETE: R317
  | copyComplete (copy : Nat)   -- COPY_COMPLETE: R215
  | copyError (copy : Nat) (e : CopyErr)   -- COPY_ERROR: R207
  | transformViolation (core : Nat)   -- TRANSFORM_VIOLATION: R216
  | softError (task store place : Nat)   -- SOFT_ERROR: R365
  | ingressAccess (r : RemoteReq)   -- INGRESS_ACCESS: R346
  | linkTimeout (core link : Nat)   -- LINK_TIMEOUT: R346
  | flitCrcRetry (link : Nat)   -- FLIT_CRC_RETRY: R343
  | linkDown (link member : Nat)   -- LINK_DOWN: R343
  | hostApertureRead (fn index offset bytes : Nat)   -- HOST_APERTURE_READ: R351
  | hostApertureWrite (fn index offset : Nat) (data : List Byte)   -- HOST_APERTURE_WRITE: R351
  | hostAtomicOp (fn index offset bytes : Nat) (op : Rmw)   -- HOST_ATOMICOP: R351
  | refill (c : Cmd) (task bgi bgt : Nat)   -- REFILL: R304
  | kill (c : Cmd) (task : Nat)   -- KILL: R304
  | freeze (c : Cmd) (queue : Nat)   -- FREEZE: R304
  | thaw (c : Cmd) (queue : Nat)   -- THAW: R368
  | unfreeze (c : Cmd) (kind number : Nat)   -- UNFREEZE: R370
  | ctxsys (c : Cmd) (context grant : Nat)   -- CTXSYS: R349
  | seqnew (c : Cmd)   -- SEQNEW: R349
  | seqend (c : Cmd) (seq : Nat)   -- SEQEND: R341
  | seqread (c : Cmd) (seq addr : Nat)   -- SEQREAD: R331
  | ptcreate (c : Cmd) (spec : PtSpec)   -- PTCREATE: R349
  | recread (c : Cmd) (tensor addr : Nat)   -- RECREAD: R349
  | exportWindow (c : Cmd) (tensor first count perms : Nat)   -- EXPORT: R344
  | unexport (c : Cmd) (index : Nat)   -- UNEXPORT: R344
  | importWindow (c : Cmd) (spec : ImportSpec)   -- IMPORT: R345
  | unimport (c : Cmd) (proxy : Nat)   -- UNIMPORT: R349
  | intake (c : Cmd) (r : IntakeRec)   -- INTAKE: R353
  | intakeComplete (job : Nat) (e : IntakeEnd)   -- INTAKE_COMPLETE: R353
  | decodeMedia (c : Cmd) (r : DecodeRec)   -- DECODE: R355
  | decodeComplete (job : Nat) (e : DecodeEnd)   -- DECODE_COMPLETE: R355
  | attest (c : Cmd) (addr nonce : Nat)   -- ATTEST: R384
  | xfload (c : Cmd) (img : XfImage)   -- XFLOAD: R384
  | qtailWrite (fn queue value : Nat)   -- QTAIL_WRITE: R284
  | qsizeWrite (fn queue value : Nat)   -- QSIZE_WRITE: R284
  | qctlOpen (fn queue : Nat)   -- QCTL_OPEN: R286
  | qctlDisable (fn queue : Nat)   -- QCTL_DISABLE: R286
  | fasizeWrite (fn value : Nat)   -- FASIZE_WRITE: R350
  | lfcapWrite (fn stack value : Nat)   -- LFCAP_WRITE: R374
  | rackHiWrite (fn stack value : Nat)   -- RACK_HI_WRITE: R374
  | rackLoWrite (fn stack value : Nat)   -- RACK_LO_WRITE: R374
  | vbshiftWrite (fn stack value : Nat)   -- VBSHIFT_WRITE: R378
  | vbretireWrite (fn stack value : Nat)   -- VBRETIRE_WRITE: R380
  | registerWrite (fn : Nat) (r : RegRef) (value : Nat)   -- REGISTER_WRITE: R348
  | rackBank (stack : Nat) (layer : Layer) (bank : Nat)   -- RACK_BANK: R377
  | bankWake (stack : Nat) (layer : Layer) (bank : Nat)   -- BANK_WAKE: R377
  | layerClockChange (stack : Nat) (layer : Layer) (mhz : Nat)   -- LAYER_CLOCK_CHANGE: R375
  | vbusEccError (stack : Nat) (e : VbusErr)   -- VBUS_ECC_ERROR: R381
  | remapTableError (stack : Nat) (both : Bool) (dirty : List (Nat × Nat × Nat))   -- REMAP_TABLE_ERROR: R372
  | rbgHealthFail (test : Nat)   -- RBG_HEALTH_FAIL: R333
  | deviceReset   -- DEVICE_RESET: R382
  | cellarLayerPowerOff (stack : Nat) (layer : Layer)   -- CELLAR_LAYER_POWER_OFF: R376
  | cellarLayerPowerOn (stack : Nat) (layer : Layer)   -- CELLAR_LAYER_POWER_ON: R376
  | hostDeletion (fn tensor : Nat)   -- HOST_DELETION: R311
  | imageLoad (img : Image)   -- IMAGE_LOAD: R385
  deriving DecidableEq, Repr

end Sys2Proof
end

