-- ==== Sys2Proof/WellFormed.lean ====
section
/-! DEFINITION. What a slot operation's operands may be: the ranges of the fields that carry them (R54, R56), the values that
the format tables reserve (R95 to R108), and the limits the entries state. -/

namespace Sys2Proof

/-- The integer fits a two's-complement field of `len` bits (R56). -/
def sfits (x : Int) (len : Nat) : Bool := decide (-(2 ^ (len - 1) : Int) ≤ x) && decide (x < 2 ^ (len - 1))

/-- The system-register indices that R57 assigns. -/
def sysIndexOk (i : Nat) : Bool :=
  [0x000, 0x001, 0x002, 0x003, 0x008, 0x010, 0x011, 0x012, 0x013, 0x018, 0x019, 0x01A, 0x01B, 0x030, 0x031, 0x032,
   0x033, 0x034, 0x040, 0x041, 0x042, 0x043, 0x044, 0x045, 0x046].contains i

/-- The assigned indices whose access is not RO (R57). -/
def sysIndexWritable (i : Nat) : Bool :=
  sysIndexOk i && !([0x008, 0x010, 0x011, 0x012, 0x013, 0x018, 0x019, 0x01A, 0x01B].contains i)

/-- The narrow types of VPACK and VUNPK: i64, n64 and fp32 are illegal (R147, R148). -/
def ET.packable (t : ET) : Bool := t != .i64 && t != .n64 && t != .fp32

/-- VCMP: integer elements take conditions 0 to 5 only (R143). -/
def vcmpOk (et : ET) (cc : FCond) : Bool := et.isFloat3 || cc.code < 6

/-- VPLN and VUPLN: a plane count of 2 to 8 goes with i8, 16 with i16, and a width holds a block of 64 (R100, R160). -/
def planeOk (f : VMode) (p : Nat) : Bool :=
  (decide (2 ≤ p) && decide (p ≤ 8) && f.et == .i8 || p == 16 && f.et == .i16) &&
    decide (64 * f.et.bits ≤ 8 * f.w.bytes)

/-- A slot operation whose operands its encoding can carry. Steps of the device have no encoding, and their operands are
checked by the steps themselves. -/
def Instr.wf : Instr → Bool
  | .nop => true
  | .add g sd sa sb => decide (g.q < 16) && decide (sd < 64) && decide (sa < 64) && decide (sb < 64)
  | .sub g sd sa sb => decide (g.q < 16) && decide (sd < 64) && decide (sa < 64) && decide (sb < 64)
  | .mul g sd sa sb => decide (g.q < 16) && decide (sd < 64) && decide (sa < 64) && decide (sb < 64)
  | .mulh g sd sa sb => decide (g.q < 16) && decide (sd < 64) && decide (sa < 64) && decide (sb < 64)
  | .div g sd sa sb => decide (g.q < 16) && decide (sd < 64) && decide (sa < 64) && decide (sb < 64)
  | .rem g sd sa sb => decide (g.q < 16) && decide (sd < 64) && decide (sa < 64) && decide (sb < 64)
  | .min g sd sa sb => decide (g.q < 16) && decide (sd < 64) && decide (sa < 64) && decide (sb < 64)
  | .max g sd sa sb => decide (g.q < 16) && decide (sd < 64) && decide (sa < 64) && decide (sb < 64)
  | .and g sd sa sb => decide (g.q < 16) && decide (sd < 64) && decide (sa < 64) && decide (sb < 64)
  | .or g sd sa sb => decide (g.q < 16) && decide (sd < 64) && decide (sa < 64) && decide (sb < 64)
  | .xor g sd sa sb => decide (g.q < 16) && decide (sd < 64) && decide (sa < 64) && decide (sb < 64)
  | .andn g sd sa sb => decide (g.q < 16) && decide (sd < 64) && decide (sa < 64) && decide (sb < 64)
  | .shl g sd sa sb => decide (g.q < 16) && decide (sd < 64) && decide (sa < 64) && decide (sb < 64)
  | .shr g sd sa sb => decide (g.q < 16) && decide (sd < 64) && decide (sa < 64) && decide (sb < 64)
  | .sra g sd sa sb => decide (g.q < 16) && decide (sd < 64) && decide (sa < 64) && decide (sb < 64)
  | .rol g sd sa sb => decide (g.q < 16) && decide (sd < 64) && decide (sa < 64) && decide (sb < 64)
  | .clz g sd sa => decide (g.q < 16) && decide (sd < 64) && decide (sa < 64)
  | .ctz g sd sa => decide (g.q < 16) && decide (sd < 64) && decide (sa < 64)
  | .popc g sd sa => decide (g.q < 16) && decide (sd < 64) && decide (sa < 64)
  | .bfx g sd sa sb => decide (g.q < 16) && decide (sd < 64) && decide (sa < 64) && decide (sb < 64)
  | .bfi g sd sa sb => decide (g.q < 16) && decide (sd < 64) && decide (sa < 64) && decide (sb < 64)
  | .sel g sd qs sa sb => decide (g.q < 16) && decide (sd < 64) && decide (qs < 16) && decide (sa < 64) && decide (sb < 64)
  | .cmp g _ qd sa sb => decide (g.q < 16) && decide (qd < 16) && decide (sa < 64) && decide (sb < 64)
  | .addi g sd sa imm => decide (g.q < 16) && decide (sd < 64) && decide (sa < 64) && sfits imm 15
  | .muli g sd sa imm => decide (g.q < 16) && decide (sd < 64) && decide (sa < 64) && sfits imm 15
  | .andi g sd sa imm => decide (g.q < 16) && decide (sd < 64) && decide (sa < 64) && decide (imm < 32768)
  | .ori g sd sa imm => decide (g.q < 16) && decide (sd < 64) && decide (sa < 64) && decide (imm < 32768)
  | .xori g sd sa imm => decide (g.q < 16) && decide (sd < 64) && decide (sa < 64) && decide (imm < 32768)
  | .shli g sd sa n => decide (g.q < 16) && decide (sd < 64) && decide (sa < 64) && decide (n < 64)
  | .shri g sd sa n => decide (g.q < 16) && decide (sd < 64) && decide (sa < 64) && decide (n < 64)
  | .srai g sd sa n => decide (g.q < 16) && decide (sd < 64) && decide (sa < 64) && decide (n < 64)
  | .cmpi g _ qd sa imm => decide (g.q < 16) && decide (qd < 16) && decide (sa < 64) && sfits imm 11
  | .ldi g sd imm => decide (g.q < 16) && decide (sd < 64) && sfits imm 21
  | .ldih g sd imm => decide (g.q < 16) && decide (sd < 64) && decide (imm < 2097152)
  | .lea g sd sa off sh => decide (g.q < 16) && decide (sd < 64) && decide (sa < 64) && sfits off 12 && decide (sh < 8)
  | .fadd g sd sa sb => decide (g.q < 16) && decide (sd < 64) && decide (sa < 64) && decide (sb < 64)
  | .fsub g sd sa sb => decide (g.q < 16) && decide (sd < 64) && decide (sa < 64) && decide (sb < 64)
  | .fmul g sd sa sb => decide (g.q < 16) && decide (sd < 64) && decide (sa < 64) && decide (sb < 64)
  | .fma g sd sa sb sc => decide (g.q < 16) && decide (sd < 64) && decide (sa < 64) && decide (sb < 64) && decide (sc < 64)
  | .fmin g sd sa sb => decide (g.q < 16) && decide (sd < 64) && decide (sa < 64) && decide (sb < 64)
  | .fmax g sd sa sb => decide (g.q < 16) && decide (sd < 64) && decide (sa < 64) && decide (sb < 64)
  | .fcmp g _ qd sa sb => decide (g.q < 16) && decide (qd < 16) && decide (sa < 64) && decide (sb < 64)
  | .fcvt g dst src sd sa => decide (g.q < 16) && dst.scalarCvt && src.scalarCvt && decide (sd < 64) && decide (sa < 64)
  | .qop g qd qa qb t => decide (g.q < 16) && decide (qd < 16) && decide (qa < 16) && decide (qb < 16) && decide (t < 16)
  | .qmov g qd sa => decide (g.q < 16) && decide (qd < 16) && decide (sa < 64)
  | .movq g sd => decide (g.q < 16) && decide (sd < 64)
  | .br g off => decide (g.q < 16) && sfits off 21
  | .call g off => decide (g.q < 16) && sfits off 21
  | .ret g => decide (g.q < 16)
  | .jr g sa => decide (g.q < 16) && decide (sa < 64)
  | .loop sa n level stages margin _ => decide (sa < 64) && decide (0 < n) && decide (n ≤ 64) && decide (level < 8) && decide (level < 6) && decide (0 < stages) && decide (stages ≤ 8) && decide (margin < 256)
  | .lbrk g => decide (g.q < 16)
  | .rot g => decide (g.q < 16)
  | .yld carry off => decide (carry < 64) && decide (carry < 16) && sfits off 21
  | .endTask g => decide (g.q < 16)
  | .trap g code => decide (g.q < 16) && decide (code < 32768)
  | .retc => true
  | .bgrd g sd _ => decide (g.q < 16) && decide (sd < 64)
  | .bgtop g sa sb => decide (g.q < 16) && decide (sa < 64) && decide (sb < 64)
  | .bggive g sa sb _ => decide (g.q < 16) && decide (sa < 64) && decide (sb < 64)
  | .estm g sa => decide (g.q < 16) && decide (sa < 64)
  | .time g sd => decide (g.q < 16) && decide (sd < 64)
  | .cyc g sd _ => decide (g.q < 16) && decide (sd < 64)
  | .srd g sd idx => decide (g.q < 16) && decide (sd < 64) && decide (idx < 4096) && sysIndexOk idx
  | .swr g sa idx => decide (g.q < 16) && decide (sa < 64) && decide (idx < 4096) && sysIndexWritable idx
  | .lnch g sd qs sa => decide (g.q < 16) && decide (sd < 64) && decide (qs < 16) && decide (sa < 64)
  | .ljoin g qs sa => decide (g.q < 16) && decide (qs < 16) && decide (sa < 64)
  | .enq g qs sa sb => decide (g.q < 16) && decide (qs < 16) && decide (sa < 64) && decide (sb < 64)
  | .ddec g sa => decide (g.q < 16) && decide (sa < 64)
  | .hint g sa code => decide (g.q < 16) && decide (sa < 64) && decide (code < 32768)
  | .seqf g sd qs sa => decide (g.q < 16) && decide (sd < 64) && decide (qs < 16) && decide (sa < 64)
  | .seqe g sa => decide (g.q < 16) && decide (sa < 64)
  | .tgrow g h qs sa => decide (g.q < 16) && decide (h < 16) && decide (qs < 16) && decide (sa < 64)
  | .tdef g h qs sa => decide (g.q < 16) && decide (h < 16) && decide (qs < 16) && decide (sa < 64)
  | .tfree g h => decide (g.q < 16) && decide (h < 16)
  | .vadd f vd va vb => decide (f.pg < 16) && (f.et.isInt || f.et.isFloat3) && decide (vd < 512) && decide (va < 512) && decide (vb < 512)
  | .vsub f vd va vb => decide (f.pg < 16) && (f.et.isInt || f.et.isFloat3) && decide (vd < 512) && decide (va < 512) && decide (vb < 512)
  | .vmul f vd va vb => decide (f.pg < 16) && (f.et.isInt || f.et.isFloat3) && decide (vd < 512) && decide (va < 512) && decide (vb < 512)
  | .vmulh f vd va vb => decide (f.pg < 16) && f.et.isInt && decide (vd < 512) && decide (va < 512) && decide (vb < 512)
  | .vfma f vd va vb => decide (f.pg < 16) && f.et.isFloat3 && decide (vd < 512) && decide (va < 512) && decide (vb < 512)
  | .vfms f vd va vb => decide (f.pg < 16) && f.et.isFloat3 && decide (vd < 512) && decide (va < 512) && decide (vb < 512)
  | .vmin f vd va vb => decide (f.pg < 16) && (f.et.isInt || f.et.isFloat3) && decide (vd < 512) && decide (va < 512) && decide (vb < 512)
  | .vmax f vd va vb => decide (f.pg < 16) && (f.et.isInt || f.et.isFloat3) && decide (vd < 512) && decide (va < 512) && decide (vb < 512)
  | .vabs f vd va => decide (f.pg < 16) && (f.et.isInt || f.et.isFloat3) && decide (vd < 512) && decide (va < 512)
  | .vneg f vd va => decide (f.pg < 16) && (f.et.isInt || f.et.isFloat3) && decide (vd < 512) && decide (va < 512)
  | .vadds f vd va vb => decide (f.pg < 16) && f.et.isInt && decide (vd < 512) && decide (va < 512) && decide (vb < 512)
  | .vsubs f vd va vb => decide (f.pg < 16) && f.et.isInt && decide (vd < 512) && decide (va < 512) && decide (vb < 512)
  | .vavg f vd va vb => decide (f.pg < 16) && f.et.isInt && decide (vd < 512) && decide (va < 512) && decide (vb < 512)
  | .vand f vd va vb => decide (f.pg < 16) && decide (vd < 512) && decide (va < 512) && decide (vb < 512)
  | .vor f vd va vb => decide (f.pg < 16) && decide (vd < 512) && decide (va < 512) && decide (vb < 512)
  | .vxor f vd va vb => decide (f.pg < 16) && decide (vd < 512) && decide (va < 512) && decide (vb < 512)
  | .vandn f vd va vb => decide (f.pg < 16) && decide (vd < 512) && decide (va < 512) && decide (vb < 512)
  | .vnot f vd va => decide (f.pg < 16) && decide (vd < 512) && decide (va < 512)
  | .vshl f vd va vb => decide (f.pg < 16) && f.et.isInt && decide (vd < 512) && decide (va < 512) && decide (vb < 512)
  | .vshr f vd va vb => decide (f.pg < 16) && f.et.isInt && decide (vd < 512) && decide (va < 512) && decide (vb < 512)
  | .vsra f vd va vb => decide (f.pg < 16) && f.et.isInt && decide (vd < 512) && decide (va < 512) && decide (vb < 512)
  | .vclz f vd va => decide (f.pg < 16) && f.et.isInt && decide (vd < 512) && decide (va < 512)
  | .vpopc f vd va => decide (f.pg < 16) && f.et.isInt && decide (vd < 512) && decide (va < 512)
  | .vcmp _ pg et cc pd va vb => decide (pg < 16) && (et.isInt || et.isFloat3) && decide (pd < 16) && decide (va < 512) && decide (vb < 512) && vcmpOk et cc
  | .vsel _ pg _ vd va vb => decide (pg < 16) && decide (vd < 512) && decide (va < 512) && decide (vb < 512)
  | .vclass f vd va => decide (f.pg < 16) && f.et.isFloat3 && decide (vd < 512) && decide (va < 512)
  | .vcvt f _ vd va => decide (f.pg < 16) && decide (vd < 512) && decide (va < 512)
  | .vcvts f _ vd va => decide (f.pg < 16) && decide (vd < 512) && decide (va < 512)
  | .vpack f vd va vb => decide (f.pg < 16) && f.et.packable && decide (vd < 512) && decide (va < 512) && decide (vb < 512)
  | .vunpk f vd va _ => decide (f.pg < 16) && f.et.packable && decide (vd < 512) && decide (va < 512)
  | .vscl f vd va sb => decide (f.pg < 16) && f.et.isFloat3 && decide (vd < 512) && decide (va < 512) && decide (sb < 64)
  | .vrnd f vd va => decide (f.pg < 16) && f.et.isFloat3 && decide (vd < 512) && decide (va < 512)
  | .vaddi f vd va imm => decide (f.pg < 16) && f.et.isInt && decide (vd < 512) && decide (va < 512) && sfits imm 9
  | .vmuli f vd va imm => decide (f.pg < 16) && f.et.isInt && decide (vd < 512) && decide (va < 512) && sfits imm 9
  | .vshli f vd va n => decide (f.pg < 16) && f.et.isInt && decide (vd < 512) && decide (va < 512) && decide (n < 128)
  | .vshri f vd va n => decide (f.pg < 16) && f.et.isInt && decide (vd < 512) && decide (va < 512) && decide (n < 128)
  | .vsrai f vd va n => decide (f.pg < 16) && f.et.isInt && decide (vd < 512) && decide (va < 512) && decide (n < 128)
  | .vandi f vd va imm => decide (f.pg < 16) && f.et.isInt && decide (vd < 512) && decide (va < 512) && sfits imm 9
  | .vbc f vd sb => decide (f.pg < 16) && decide (vd < 512) && decide (sb < 64)
  | .vldi f vd imm => decide (f.pg < 16) && f.et.isInt && decide (vd < 512) && sfits imm 9
  | .vperm f vd va vb => decide (f.pg < 16) && decide (vd < 512) && decide (va < 512) && decide (vb < 512)
  | .vrot f vd va sb => decide (f.pg < 16) && decide (vd < 512) && decide (va < 512) && decide (sb < 64)
  | .vsld f vd va sb => decide (f.pg < 16) && decide (vd < 512) && decide (va < 512) && decide (sb < 64)
  | .vext f sd va sb => decide (f.pg < 16) && decide (sd < 64) && decide (va < 512) && decide (sb < 64)
  | .vins f vd sa sb => decide (f.pg < 16) && decide (vd < 512) && decide (sa < 64) && decide (sb < 64)
  | .viota f vd => decide (f.pg < 16) && f.et.isInt && decide (vd < 512)
  | .vcmpr f vd va => decide (f.pg < 16) && decide (vd < 512) && decide (va < 512)
  | .vxpnd f vd va => decide (f.pg < 16) && decide (vd < 512) && decide (va < 512)
  | .vradd f vd va => decide (f.pg < 16) && (f.et.isInt || f.et.isFloat3) && decide (vd < 512) && decide (va < 512)
  | .vrmax f vd va => decide (f.pg < 16) && (f.et.isInt || f.et.isFloat3) && decide (vd < 512) && decide (va < 512)
  | .vrmin f vd va => decide (f.pg < 16) && (f.et.isInt || f.et.isFloat3) && decide (vd < 512) && decide (va < 512)
  | .vdot f vd va vb => decide (f.pg < 16) && (f.et.isInt || f.et.isFloat3) && decide (vd < 512) && decide (va < 512) && decide (vb < 512)
  | .pand pd pa pb => decide (pd < 16) && decide (pa < 16) && decide (pb < 16)
  | .por pd pa pb => decide (pd < 16) && decide (pa < 16) && decide (pb < 16)
  | .pxor pd pa pb => decide (pd < 16) && decide (pa < 16) && decide (pb < 16)
  | .pnot pd pa => decide (pd < 16) && decide (pa < 16)
  | .pfirst _ _ pd pa => decide (pd < 16) && decide (pa < 16)
  | .pcnt _ _ sd pa => decide (sd < 64) && decide (pa < 16)
  | .plen _ _ pd sb => decide (pd < 16) && decide (sb < 64)
  | .vpln f vd va p => decide (f.pg < 16) && f.et.isInt && decide (vd < 512) && decide (va < 512) && decide (p < 32) && planeOk f p
  | .vupln f vd va p => decide (f.pg < 16) && f.et.isInt && decide (vd < 512) && decide (va < 512) && decide (p < 32) && planeOk f p
  | .vbsc f vd va => decide (f.pg < 16) && f.et.isFloat3 && decide (vd < 512) && decide (va < 512)
  | .vpop f vd rq => decide (f.pg < 16) && decide (vd < 512) && decide (rq < 8)
  | .fexp2 f vd va => decide (f.pg < 16) && decide (vd < 512) && decide (va < 512)
  | .fexp f vd va => decide (f.pg < 16) && decide (vd < 512) && decide (va < 512)
  | .flog2 f vd va => decide (f.pg < 16) && decide (vd < 512) && decide (va < 512)
  | .fln f vd va => decide (f.pg < 16) && decide (vd < 512) && decide (va < 512)
  | .frcp f vd va => decide (f.pg < 16) && decide (vd < 512) && decide (va < 512)
  | .frsq f vd va => decide (f.pg < 16) && decide (vd < 512) && decide (va < 512)
  | .fsqrt f vd va => decide (f.pg < 16) && decide (vd < 512) && decide (va < 512)
  | .ftanh f vd va => decide (f.pg < 16) && decide (vd < 512) && decide (va < 512)
  | .fsigm f vd va => decide (f.pg < 16) && decide (vd < 512) && decide (va < 512)
  | .ferf f vd va => decide (f.pg < 16) && decide (vd < 512) && decide (va < 512)
  | .fsin f vd va => decide (f.pg < 16) && decide (vd < 512) && decide (va < 512)
  | .fcos f vd va => decide (f.pg < 16) && decide (vd < 512) && decide (va < 512)
  | .fgelu f vd va => decide (f.pg < 16) && decide (vd < 512) && decide (va < 512)
  | .mma ta da db kb => decide (ta < 8) && decide (da < 16) && decide (db < 16) && decide (kb < 128) && decide (kb > 0)
  | .mmaz ta da db kb => decide (ta < 8) && decide (da < 16) && decide (db < 16) && decide (kb < 128) && decide (kb > 0)
  | .mmaw ta da db kb => decide (ta < 8) && decide (da < 16) && decide (db < 16) && decide (kb < 128) && decide (kb > 0)
  | .mmag ta da db kb => decide (ta < 8) && decide (da < 16) && decide (db < 16) && decide (kb < 128) && decide (kb > 0)
  | .mdrn ta rq _ _ shift off => decide (ta < 8) && decide (rq < 8) && shift.all (sfits · 6) && off.all (· < 16)
  | .mzero ta => decide (ta < 8)
  | .mdld da off => decide (da < 16) && decide (off < 134217728)
  | .mwait ta => decide (ta < 8)
  | .mnest da off => decide (da < 16) && decide (off < 134217728)
  | .mqset rq size => decide (rq < 8) && decide (size < 128) && decide (size < 65)
  | .ldv g vd sa imm => decide (g.q < 16) && decide (vd < 512) && decide (sa < 64) && decide (imm < 512)
  | .stv g vd sa imm => decide (g.q < 16) && decide (vd < 512) && decide (sa < 64) && decide (imm < 512)
  | .lds g sd sa imm => decide (g.q < 16) && decide (sd < 64) && decide (sa < 64) && decide (imm < 2048)
  | .ldsGlobal g sd h sa cls => decide (g.q < 16) && decide (sd < 64) && decide (h < 16) && decide (sa < 64) && cls.all (· < 8)
  | .sts g sd sa imm => decide (g.q < 16) && decide (sd < 64) && decide (sa < 64) && decide (imm < 2048)
  | .ldvx g vd sa vx => decide (g.q < 16) && decide (vd < 512) && decide (sa < 64) && decide (vx < 512)
  | .stvx g vd sa vx => decide (g.q < 16) && decide (vd < 512) && decide (sa < 64) && decide (vx < 512)
  | .ldp g pd sa imm => decide (g.q < 16) && decide (pd < 16) && decide (sa < 64) && decide (imm < 512)
  | .stp g pd sa imm => decide (g.q < 16) && decide (pd < 16) && decide (sa < 64) && decide (imm < 512)
  | .cpin g h k sa sb cls => decide (g.q < 16) && decide (h < 16) && decide (k < 16) && decide (sa < 64) && decide (sb < 64) && cls.all (· < 8)
  | .cpout g h k sa sb cls => decide (g.q < 16) && decide (h < 16) && decide (k < 16) && decide (sa < 64) && decide (sb < 64) && cls.all (· < 8)
  | .cpmc g h k sa sb cls => decide (g.q < 16) && decide (h < 16) && decide (k < 16) && decide (sa < 64) && decide (sb < 64) && cls.all (· < 8)
  | .cpga g h k sa sb cls => decide (g.q < 16) && decide (h < 16) && decide (k < 16) && decide (sa < 64) && decide (sb < 64) && cls.all (· < 8)
  | .cpsc g h k sa sb cls => decide (g.q < 16) && decide (h < 16) && decide (k < 16) && decide (sa < 64) && decide (sb < 64) && cls.all (· < 8)
  | .cpxf g h k sa sb cls => decide (g.q < 16) && decide (h < 16) && decide (k < 16) && decide (sa < 64) && decide (sb < 64) && cls.all (· < 8)
  | .cpqo g h k sa rq cls => decide (g.q < 16) && decide (h < 16) && decide (k < 16) && decide (sa < 64) && decide (rq < 8) && cls.all (· < 8)
  | .cpqf g k sa rq => decide (g.q < 16) && decide (k < 16) && decide (sa < 64) && decide (rq < 8)
  | .cpfl g h k sa sb cls => decide (g.q < 16) && decide (h < 16) && decide (k < 16) && decide (sa < 64) && decide (sb < 64) && cls.all (· < 8)
  | .wdld g wd sa imm => decide (g.q < 16) && decide (wd < 16) && decide (sa < 64) && decide (imm < 16384)
  | .waitk g k => decide (g.q < 16) && decide (k < 16)
  | .testk g qd k => decide (g.q < 16) && decide (qd < 16) && decide (k < 16)
  | .waitkx g k => decide (g.q < 16) && decide (k < 16)
  | .krel g k => decide (g.q < 16) && decide (k < 16)
  | .ldg g h _ sa sb cls => decide (g.q < 16) && decide (h < 16) && decide (sa < 64) && decide (sb < 64) && cls.all (· < 8)
  | .stg g h _ sa sb cls => decide (g.q < 16) && decide (h < 16) && decide (sa < 64) && decide (sb < 64) && cls.all (· < 8)
  | .amo g h _ sa sb _ => decide (g.q < 16) && decide (h < 16) && decide (sa < 64) && decide (sb < 64)
  | .amoc g h _ sa sb _ => decide (g.q < 16) && decide (h < 16) && decide (sa < 64) && decide (sb < 64) && sb % 2 == 0
  | .fence g _ mask _ => decide (g.q < 16) && decide (mask < 256)
  | .binit g b count => decide (g.q < 16) && decide (b < 16) && decide (count < 16384) && decide (count > 0)
  | .barv g b sa => decide (g.q < 16) && decide (b < 16) && decide (sa < 64)
  | .bwait g b => decide (g.q < 16) && decide (b < 16)
  | .bexp g b sa => decide (g.q < 16) && decide (b < 16) && decide (sa < 64)
  | .gbar g qs level => decide (g.q < 16) && decide (qs < 16) && decide (level < 16) && decide (level < 8)
  | .cflush g h k sa sb => decide (g.q < 16) && decide (h < 16) && decide (k < 16) && decide (sa < 64) && decide (sb < 64)
  | .arrayOpStart _ => true
  | .arrayOpEnd _ => true
  | .checkpointBundle _ => true
  | .seqfRelease _ _ => true
  | .promiseMissed _ => true
  | .waitSwitchPoint _ => true
  | .saveParkedTask _ => true
  | .saveAreaReserve _ => true
  | .schedulerDecision _ => true
  | .sliceExhausted _ => true
  | .drainMaxExpiry _ => true
  | .gangHoldRequest _ _ => true
  | .operatorHead _ => true
  | .holdPrepare _ => true
  | .moveComplete _ => true
  | .copyComplete _ => true
  | .copyError _ _ => true
  | .transformViolation _ => true
  | .softError _ _ _ => true
  | .ingressAccess _ => true
  | .linkTimeout _ _ => true
  | .flitCrcRetry _ => true
  | .linkDown _ _ => true
  | .hostApertureRead _ _ _ _ => true
  | .hostApertureWrite _ _ _ _ => true
  | .hostAtomicOp _ _ _ _ _ => true
  | .refill _ _ _ _ => true
  | .kill _ _ => true
  | .freeze _ _ => true
  | .thaw _ _ => true
  | .unfreeze _ _ _ => true
  | .ctxsys _ _ _ => true
  | .seqnew _ => true
  | .seqend _ _ => true
  | .seqread _ _ _ => true
  | .ptcreate _ _ => true
  | .recread _ _ _ => true
  | .exportWindow _ _ _ _ _ => true
  | .unexport _ _ => true
  | .importWindow _ _ => true
  | .unimport _ _ => true
  | .intake _ _ => true
  | .intakeComplete _ _ => true
  | .decodeMedia _ _ => true
  | .decodeComplete _ _ => true
  | .attest _ _ _ => true
  | .xfload _ _ => true
  | .qtailWrite _ _ _ => true
  | .qsizeWrite _ _ _ => true
  | .qctlOpen _ _ => true
  | .qctlDisable _ _ => true
  | .fasizeWrite _ _ => true
  | .lfcapWrite _ _ _ => true
  | .rackHiWrite _ _ _ => true
  | .rackLoWrite _ _ _ => true
  | .vbshiftWrite _ _ _ => true
  | .vbretireWrite _ _ _ => true
  | .registerWrite _ _ _ => true
  | .rackBank _ _ _ => true
  | .bankWake _ _ _ => true
  | .layerClockChange _ _ _ => true
  | .vbusEccError _ _ => true
  | .remapTableError _ _ _ => true
  | .rbgHealthFail _ => true
  | .deviceReset => true
  | .cellarLayerPowerOff _ _ => true
  | .cellarLayerPowerOn _ _ => true
  | .hostDeletion _ _ => true
  | .imageLoad _ => true

/-- The operation is carried by a slot of a bundle; the other constructors are steps of the device. -/
def Instr.cls : Instr → Option SlotClass
  | .nop => some .scalar
  | .add _ _ _ _ => some .scalar
  | .sub _ _ _ _ => some .scalar
  | .mul _ _ _ _ => some .scalar
  | .mulh _ _ _ _ => some .scalar
  | .div _ _ _ _ => some .scalar
  | .rem _ _ _ _ => some .scalar
  | .min _ _ _ _ => some .scalar
  | .max _ _ _ _ => some .scalar
  | .and _ _ _ _ => some .scalar
  | .or _ _ _ _ => some .scalar
  | .xor _ _ _ _ => some .scalar
  | .andn _ _ _ _ => some .scalar
  | .shl _ _ _ _ => some .scalar
  | .shr _ _ _ _ => some .scalar
  | .sra _ _ _ _ => some .scalar
  | .rol _ _ _ _ => some .scalar
  | .clz _ _ _ => some .scalar
  | .ctz _ _ _ => some .scalar
  | .popc _ _ _ => some .scalar
  | .bfx _ _ _ _ => some .scalar
  | .bfi _ _ _ _ => some .scalar
  | .sel _ _ _ _ _ => some .scalar
  | .cmp _ _ _ _ _ => some .scalar
  | .addi _ _ _ _ => some .scalar
  | .muli _ _ _ _ => some .scalar
  | .andi _ _ _ _ => some .scalar
  | .ori _ _ _ _ => some .scalar
  | .xori _ _ _ _ => some .scalar
  | .shli _ _ _ _ => some .scalar
  | .shri _ _ _ _ => some .scalar
  | .srai _ _ _ _ => some .scalar
  | .cmpi _ _ _ _ _ => some .scalar
  | .ldi _ _ _ => some .scalar
  | .ldih _ _ _ => some .scalar
  | .lea _ _ _ _ _ => some .scalar
  | .fadd _ _ _ _ => some .scalar
  | .fsub _ _ _ _ => some .scalar
  | .fmul _ _ _ _ => some .scalar
  | .fma _ _ _ _ _ => some .scalar
  | .fmin _ _ _ _ => some .scalar
  | .fmax _ _ _ _ => some .scalar
  | .fcmp _ _ _ _ _ => some .scalar
  | .fcvt _ _ _ _ _ => some .scalar
  | .qop _ _ _ _ _ => some .scalar
  | .qmov _ _ _ => some .scalar
  | .movq _ _ => some .scalar
  | .br _ _ => some .scalar
  | .call _ _ => some .scalar
  | .ret _ => some .scalar
  | .jr _ _ => some .scalar
  | .loop _ _ _ _ _ _ => some .scalar
  | .lbrk _ => some .scalar
  | .rot _ => some .scalar
  | .yld _ _ => some .scalar
  | .endTask _ => some .scalar
  | .trap _ _ => some .scalar
  | .retc => some .scalar
  | .bgrd _ _ _ => some .scalar
  | .bgtop _ _ _ => some .scalar
  | .bggive _ _ _ _ => some .scalar
  | .estm _ _ => some .scalar
  | .time _ _ => some .scalar
  | .cyc _ _ _ => some .scalar
  | .srd _ _ _ => some .scalar
  | .swr _ _ _ => some .scalar
  | .lnch _ _ _ _ => some .scalar
  | .ljoin _ _ _ => some .scalar
  | .enq _ _ _ _ => some .scalar
  | .ddec _ _ => some .scalar
  | .hint _ _ _ => some .scalar
  | .seqf _ _ _ _ => some .scalar
  | .seqe _ _ => some .scalar
  | .tgrow _ _ _ _ => some .scalar
  | .tdef _ _ _ _ => some .scalar
  | .tfree _ _ => some .scalar
  | .vadd _ _ _ _ => some .vector
  | .vsub _ _ _ _ => some .vector
  | .vmul _ _ _ _ => some .vector
  | .vmulh _ _ _ _ => some .vector
  | .vfma _ _ _ _ => some .vector
  | .vfms _ _ _ _ => some .vector
  | .vmin _ _ _ _ => some .vector
  | .vmax _ _ _ _ => some .vector
  | .vabs _ _ _ => some .vector
  | .vneg _ _ _ => some .vector
  | .vadds _ _ _ _ => some .vector
  | .vsubs _ _ _ _ => some .vector
  | .vavg _ _ _ _ => some .vector
  | .vand _ _ _ _ => some .vector
  | .vor _ _ _ _ => some .vector
  | .vxor _ _ _ _ => some .vector
  | .vandn _ _ _ _ => some .vector
  | .vnot _ _ _ => some .vector
  | .vshl _ _ _ _ => some .vector
  | .vshr _ _ _ _ => some .vector
  | .vsra _ _ _ _ => some .vector
  | .vclz _ _ _ => some .vector
  | .vpopc _ _ _ => some .vector
  | .vcmp _ _ _ _ _ _ _ => some .vector
  | .vsel _ _ _ _ _ _ => some .vector
  | .vclass _ _ _ => some .vector
  | .vcvt _ _ _ _ => some .vector
  | .vcvts _ _ _ _ => some .vector
  | .vpack _ _ _ _ => some .vector
  | .vunpk _ _ _ _ => some .vector
  | .vscl _ _ _ _ => some .vector
  | .vrnd _ _ _ => some .vector
  | .vaddi _ _ _ _ => some .vector
  | .vmuli _ _ _ _ => some .vector
  | .vshli _ _ _ _ => some .vector
  | .vshri _ _ _ _ => some .vector
  | .vsrai _ _ _ _ => some .vector
  | .vandi _ _ _ _ => some .vector
  | .vbc _ _ _ => some .vector
  | .vldi _ _ _ => some .vector
  | .vperm _ _ _ _ => some .vector
  | .vrot _ _ _ _ => some .vector
  | .vsld _ _ _ _ => some .vector
  | .vext _ _ _ _ => some .vector
  | .vins _ _ _ _ => some .vector
  | .viota _ _ => some .vector
  | .vcmpr _ _ _ => some .vector
  | .vxpnd _ _ _ => some .vector
  | .vradd _ _ _ => some .vector
  | .vrmax _ _ _ => some .vector
  | .vrmin _ _ _ => some .vector
  | .vdot _ _ _ _ => some .vector
  | .pand _ _ _ => some .vector
  | .por _ _ _ => some .vector
  | .pxor _ _ _ => some .vector
  | .pnot _ _ => some .vector
  | .pfirst _ _ _ _ => some .vector
  | .pcnt _ _ _ _ => some .vector
  | .plen _ _ _ _ => some .vector
  | .vpln _ _ _ _ => some .vector
  | .vupln _ _ _ _ => some .vector
  | .vbsc _ _ _ => some .vector
  | .vpop _ _ _ => some .vector
  | .fexp2 _ _ _ => some .special
  | .fexp _ _ _ => some .special
  | .flog2 _ _ _ => some .special
  | .fln _ _ _ => some .special
  | .frcp _ _ _ => some .special
  | .frsq _ _ _ => some .special
  | .fsqrt _ _ _ => some .special
  | .ftanh _ _ _ => some .special
  | .fsigm _ _ _ => some .special
  | .ferf _ _ _ => some .special
  | .fsin _ _ _ => some .special
  | .fcos _ _ _ => some .special
  | .fgelu _ _ _ => some .special
  | .mma _ _ _ _ => some .matrix
  | .mmaz _ _ _ _ => some .matrix
  | .mmaw _ _ _ _ => some .matrix
  | .mmag _ _ _ _ => some .matrix
  | .mdrn _ _ _ _ _ _ => some .matrix
  | .mzero _ => some .matrix
  | .mdld _ _ => some .matrix
  | .mwait _ => some .matrix
  | .mnest _ _ => some .matrix
  | .mqset _ _ => some .matrix
  | .ldv _ _ _ _ => some .copy
  | .stv _ _ _ _ => some .copy
  | .lds _ _ _ _ => some .copy
  | .ldsGlobal _ _ _ _ _ => some .copy
  | .sts _ _ _ _ => some .copy
  | .ldvx _ _ _ _ => some .copy
  | .stvx _ _ _ _ => some .copy
  | .ldp _ _ _ _ => some .copy
  | .stp _ _ _ _ => some .copy
  | .cpin _ _ _ _ _ _ => some .copy
  | .cpout _ _ _ _ _ _ => some .copy
  | .cpmc _ _ _ _ _ _ => some .copy
  | .cpga _ _ _ _ _ _ => some .copy
  | .cpsc _ _ _ _ _ _ => some .copy
  | .cpxf _ _ _ _ _ _ => some .copy
  | .cpqo _ _ _ _ _ _ => some .copy
  | .cpqf _ _ _ _ => some .copy
  | .cpfl _ _ _ _ _ _ => some .copy
  | .wdld _ _ _ _ => some .copy
  | .waitk _ _ => some .copy
  | .testk _ _ _ => some .copy
  | .waitkx _ _ => some .copy
  | .krel _ _ => some .copy
  | .ldg _ _ _ _ _ _ => some .copy
  | .stg _ _ _ _ _ _ => some .copy
  | .amo _ _ _ _ _ _ => some .copy
  | .amoc _ _ _ _ _ _ => some .copy
  | .fence _ _ _ _ => some .copy
  | .binit _ _ _ => some .copy
  | .barv _ _ _ => some .copy
  | .bwait _ _ => some .copy
  | .bexp _ _ _ => some .copy
  | .gbar _ _ _ => some .copy
  | .cflush _ _ _ _ _ => some .copy
  | .arrayOpStart _ => none
  | .arrayOpEnd _ => none
  | .checkpointBundle _ => none
  | .seqfRelease _ _ => none
  | .promiseMissed _ => none
  | .waitSwitchPoint _ => none
  | .saveParkedTask _ => none
  | .saveAreaReserve _ => none
  | .schedulerDecision _ => none
  | .sliceExhausted _ => none
  | .drainMaxExpiry _ => none
  | .gangHoldRequest _ _ => none
  | .operatorHead _ => none
  | .holdPrepare _ => none
  | .moveComplete _ => none
  | .copyComplete _ => none
  | .copyError _ _ => none
  | .transformViolation _ => none
  | .softError _ _ _ => none
  | .ingressAccess _ => none
  | .linkTimeout _ _ => none
  | .flitCrcRetry _ => none
  | .linkDown _ _ => none
  | .hostApertureRead _ _ _ _ => none
  | .hostApertureWrite _ _ _ _ => none
  | .hostAtomicOp _ _ _ _ _ => none
  | .refill _ _ _ _ => none
  | .kill _ _ => none
  | .freeze _ _ => none
  | .thaw _ _ => none
  | .unfreeze _ _ _ => none
  | .ctxsys _ _ _ => none
  | .seqnew _ => none
  | .seqend _ _ => none
  | .seqread _ _ _ => none
  | .ptcreate _ _ => none
  | .recread _ _ _ => none
  | .exportWindow _ _ _ _ _ => none
  | .unexport _ _ => none
  | .importWindow _ _ => none
  | .unimport _ _ => none
  | .intake _ _ => none
  | .intakeComplete _ _ => none
  | .decodeMedia _ _ => none
  | .decodeComplete _ _ => none
  | .attest _ _ _ => none
  | .xfload _ _ => none
  | .qtailWrite _ _ _ => none
  | .qsizeWrite _ _ _ => none
  | .qctlOpen _ _ => none
  | .qctlDisable _ _ => none
  | .fasizeWrite _ _ => none
  | .lfcapWrite _ _ _ => none
  | .rackHiWrite _ _ _ => none
  | .rackLoWrite _ _ _ => none
  | .vbshiftWrite _ _ _ => none
  | .vbretireWrite _ _ _ => none
  | .registerWrite _ _ _ => none
  | .rackBank _ _ _ => none
  | .bankWake _ _ _ => none
  | .layerClockChange _ _ _ => none
  | .vbusEccError _ _ => none
  | .remapTableError _ _ _ => none
  | .rbgHealthFail _ => none
  | .deviceReset => none
  | .cellarLayerPowerOff _ _ => none
  | .cellarLayerPowerOn _ _ => none
  | .hostDeletion _ _ => none
  | .imageLoad _ => none

/-- The slot may carry the operation: its class, the control opcodes in S0 only and the system opcodes in S1 only (R23).
NOP stands in every slot (R20). -/
def Instr.slotOk (i : Instr) (s : Slot) : Bool :=
  match i with
  | .nop => true
  | .br _ _ => s == .s0
  | .call _ _ => s == .s0
  | .ret _ => s == .s0
  | .jr _ _ => s == .s0
  | .loop _ _ _ _ _ _ => s == .s0
  | .lbrk _ => s == .s0
  | .rot _ => s == .s0
  | .yld _ _ => s == .s1
  | .endTask _ => s == .s1
  | .trap _ _ => s == .s1
  | .retc => s == .s1
  | .bgrd _ _ _ => s == .s1
  | .bgtop _ _ _ => s == .s1
  | .bggive _ _ _ _ => s == .s1
  | .estm _ _ => s == .s1
  | .time _ _ => s == .s1
  | .cyc _ _ _ => s == .s1
  | .srd _ _ _ => s == .s1
  | .swr _ _ _ => s == .s1
  | .lnch _ _ _ _ => s == .s1
  | .ljoin _ _ _ => s == .s1
  | .enq _ _ _ _ => s == .s1
  | .ddec _ _ => s == .s1
  | .hint _ _ _ => s == .s1
  | .seqf _ _ _ _ => s == .s1
  | .seqe _ _ => s == .s1
  | .tgrow _ _ _ _ => s == .s1
  | .tdef _ _ _ _ => s == .s1
  | .tfree _ _ => s == .s1
  | i => i.cls == some s.cls

end Sys2Proof
end

