-- ==== Sys2Proof/Decode.lean ====
section
/-! DEFINITION. Decoding: code words (R26 to R28), bundles (R18 to R22), slots (R93 to R109), total on any bits and
rejecting by the item of R41 that is broken; then the encoder. -/

namespace Sys2Proof

/-- What a slot's bits say before the slot itself is looked at: an opcode that R109 assigns to nothing, or a row of the
opcode tables, with whether every reserved bit is zero and the operation, if no field holds a reserved value. -/
inductive Raw
  | unassigned
  | row (resOk : Bool) (i : Option Instr)
  deriving DecidableEq, Repr

/-- The guard of a scalar slot (R94). -/
def gdS (w : Nat) : Guard := ⟨fld w 31 1 == 1, fld w 27 4⟩
/-- The guard of a C slot (R104). -/
def gdC (w : Nat) : Guard := ⟨fld w 24 1 == 1, fld w 25 4⟩
/-- A value placed with its least significant bit at `lo`. -/
def put (v lo : Nat) : Nat := v * 2 ^ lo
def guardS (g : Guard) : Nat := put (bit g.neg) 31 + put g.q 27
def guardC (g : Guard) : Nat := put (bit g.neg) 24 + put g.q 25

/-- W, PG, ET and MD of a vector slot (R99); none where one of them holds a reserved value. -/
def vmodeOf (w : Nat) : Option VMode :=
  match Width.ofCode (fld w 37 2), ET.ofCode (fld w 29 4) with
  | some wd, some et => if fld w 0 2 < 2 then some ⟨wd, fld w 33 4, et, fld w 0 2 == 1⟩ else none
  | _, _ => none
def vmodeBits (f : VMode) : Nat := put f.w.code 37 + put f.pg 33 + put f.et.code 29 + bit f.zero

/-- W, PG, ET and MD of the F slot (R101). -/
def fmodeOf (w : Nat) : Option FMode :=
  match Width.ofCode (fld w 24 2) with
  | some wd => some ⟨wd, fld w 20 4, fld w 19 1 == 1, fld w 0 1 == 1⟩
  | none => none
def fmodeBits (f : FMode) : Nat := put f.w.code 24 + put f.pg 20 + put (bit f.bf) 19 + bit f.zero

/-- A field that counts only when its enable bit is set (CN with the class, MF[7] with n, MF[0] with DA). -/
def optFld (w en lo len : Nat) : Option Nat := if fld w en 1 == 1 then some (fld w lo len) else none
/-- With the enable bit clear, the field is reserved (R103, R104). -/
def optRes (w en lo len : Nat) : Bool := fld w en 1 == 1 || fld w lo len == 0
def optBits (x : Option Nat) (en lo : Nat) : Nat :=
  match x with
  | some v => put 1 en + put v lo
  | none => 0
/-- A field's value read as two's complement. -/
def sread (x len : Nat) : Int := sfld x 0 len

/-- The scalar opcodes (R94 to R98). -/
def rawScalar (w : Nat) : Raw :=
  match fld w 32 8 with
  | 0 => .row (fld w 0 32 == 0) (some .nop)
  | 0x1 => .row (fld w 0 9 == 0) (some (.add (gdS w) (fld w 21 6) (fld w 15 6) (fld w 9 6)))
  | 0x2 => .row (fld w 0 9 == 0) (some (.sub (gdS w) (fld w 21 6) (fld w 15 6) (fld w 9 6)))
  | 0x3 => .row (fld w 0 9 == 0) (some (.mul (gdS w) (fld w 21 6) (fld w 15 6) (fld w 9 6)))
  | 0x4 => .row (fld w 0 9 == 0) (some (.mulh (gdS w) (fld w 21 6) (fld w 15 6) (fld w 9 6)))
  | 0x5 => .row (fld w 0 9 == 0) (some (.div (gdS w) (fld w 21 6) (fld w 15 6) (fld w 9 6)))
  | 0x6 => .row (fld w 0 9 == 0) (some (.rem (gdS w) (fld w 21 6) (fld w 15 6) (fld w 9 6)))
  | 0x7 => .row (fld w 0 9 == 0) (some (.min (gdS w) (fld w 21 6) (fld w 15 6) (fld w 9 6)))
  | 0x8 => .row (fld w 0 9 == 0) (some (.max (gdS w) (fld w 21 6) (fld w 15 6) (fld w 9 6)))
  | 0x9 => .row (fld w 0 9 == 0) (some (.and (gdS w) (fld w 21 6) (fld w 15 6) (fld w 9 6)))
  | 0xA => .row (fld w 0 9 == 0) (some (.or (gdS w) (fld w 21 6) (fld w 15 6) (fld w 9 6)))
  | 0xB => .row (fld w 0 9 == 0) (some (.xor (gdS w) (fld w 21 6) (fld w 15 6) (fld w 9 6)))
  | 0xC => .row (fld w 0 9 == 0) (some (.andn (gdS w) (fld w 21 6) (fld w 15 6) (fld w 9 6)))
  | 0xD => .row (fld w 0 9 == 0) (some (.shl (gdS w) (fld w 21 6) (fld w 15 6) (fld w 9 6)))
  | 0xE => .row (fld w 0 9 == 0) (some (.shr (gdS w) (fld w 21 6) (fld w 15 6) (fld w 9 6)))
  | 0xF => .row (fld w 0 9 == 0) (some (.sra (gdS w) (fld w 21 6) (fld w 15 6) (fld w 9 6)))
  | 0x10 => .row (fld w 0 9 == 0) (some (.rol (gdS w) (fld w 21 6) (fld w 15 6) (fld w 9 6)))
  | 0x11 => .row (fld w 0 15 == 0) (some (.clz (gdS w) (fld w 21 6) (fld w 15 6)))
  | 0x12 => .row (fld w 0 15 == 0) (some (.ctz (gdS w) (fld w 21 6) (fld w 15 6)))
  | 0x13 => .row (fld w 0 15 == 0) (some (.popc (gdS w) (fld w 21 6) (fld w 15 6)))
  | 0x14 => .row (fld w 0 9 == 0) (some (.bfx (gdS w) (fld w 21 6) (fld w 15 6) (fld w 9 6)))
  | 0x15 => .row (fld w 0 9 == 0) (some (.bfi (gdS w) (fld w 21 6) (fld w 15 6) (fld w 9 6)))
  | 0x16 => .row (fld w 4 5 == 0) (some (.sel (gdS w) (fld w 21 6) (fld w 0 4) (fld w 15 6) (fld w 9 6)))
  | 0x17 => .row (fld w 4 5 == 0 && fld w 25 2 == 0) ((Cond.ofCode (fld w 0 4)).bind fun cc => some (.cmp (gdS w) cc (fld w 21 4) (fld w 15 6) (fld w 9 6)))
  | 0x20 => .row (true) (some (.addi (gdS w) (fld w 21 6) (fld w 15 6) (sfld w 0 15)))
  | 0x21 => .row (true) (some (.muli (gdS w) (fld w 21 6) (fld w 15 6) (sfld w 0 15)))
  | 0x22 => .row (true) (some (.andi (gdS w) (fld w 21 6) (fld w 15 6) (fld w 0 15)))
  | 0x23 => .row (true) (some (.ori (gdS w) (fld w 21 6) (fld w 15 6) (fld w 0 15)))
  | 0x24 => .row (true) (some (.xori (gdS w) (fld w 21 6) (fld w 15 6) (fld w 0 15)))
  | 0x25 => .row (fld w 6 9 == 0) (some (.shli (gdS w) (fld w 21 6) (fld w 15 6) (fld w 0 6)))
  | 0x26 => .row (fld w 6 9 == 0) (some (.shri (gdS w) (fld w 21 6) (fld w 15 6) (fld w 0 6)))
  | 0x27 => .row (fld w 6 9 == 0) (some (.srai (gdS w) (fld w 21 6) (fld w 15 6) (fld w 0 6)))
  | 0x28 => .row (fld w 25 2 == 0) ((Cond.ofCode (fld w 11 4)).bind fun cc => some (.cmpi (gdS w) cc (fld w 21 4) (fld w 15 6) (sfld w 0 11)))
  | 0x29 => .row (true) (some (.ldi (gdS w) (fld w 21 6) (sfld w 0 21)))
  | 0x2A => .row (true) (some (.ldih (gdS w) (fld w 21 6) (fld w 0 21)))
  | 0x2B => .row (true) (some (.lea (gdS w) (fld w 21 6) (fld w 15 6) (sfld w 0 12) (fld w 12 3)))
  | 0x30 => .row (fld w 0 9 == 0) (some (.fadd (gdS w) (fld w 21 6) (fld w 15 6) (fld w 9 6)))
  | 0x31 => .row (fld w 0 9 == 0) (some (.fsub (gdS w) (fld w 21 6) (fld w 15 6) (fld w 9 6)))
  | 0x32 => .row (fld w 0 9 == 0) (some (.fmul (gdS w) (fld w 21 6) (fld w 15 6) (fld w 9 6)))
  | 0x33 => .row (fld w 6 3 == 0) (some (.fma (gdS w) (fld w 21 6) (fld w 15 6) (fld w 9 6) (fld w 0 6)))
  | 0x34 => .row (fld w 0 9 == 0) (some (.fmin (gdS w) (fld w 21 6) (fld w 15 6) (fld w 9 6)))
  | 0x35 => .row (fld w 0 9 == 0) (some (.fmax (gdS w) (fld w 21 6) (fld w 15 6) (fld w 9 6)))
  | 0x36 => .row (fld w 4 5 == 0 && fld w 25 2 == 0) ((FCond.ofCode (fld w 0 4)).bind fun cc => some (.fcmp (gdS w) cc (fld w 21 4) (fld w 15 6) (fld w 9 6)))
  | 0x37 => .row (fld w 8 7 == 0) ((ET.ofCode (fld w 4 4)).bind fun dst => (ET.ofCode (fld w 0 4)).bind fun src => if dst.scalarCvt && src.scalarCvt then some (.fcvt (gdS w) dst src (fld w 21 6) (fld w 15 6)) else none)
  | 0x3C => .row (fld w 4 5 == 0 && fld w 13 2 == 0 && fld w 19 2 == 0 && fld w 25 2 == 0) (some (.qop (gdS w) (fld w 21 4) (fld w 15 4) (fld w 9 4) (fld w 0 4)))
  | 0x3D => .row (fld w 0 15 == 0 && fld w 25 2 == 0) (some (.qmov (gdS w) (fld w 21 4) (fld w 15 6)))
  | 0x3E => .row (fld w 0 21 == 0) (some (.movq (gdS w) (fld w 21 6)))
  | 0x40 => .row (fld w 21 6 == 0) (some (.br (gdS w) (sfld w 0 21)))
  | 0x42 => .row (fld w 21 6 == 0) (some (.call (gdS w) (sfld w 0 21)))
  | 0x43 => .row (fld w 0 27 == 0) (some (.ret (gdS w)))
  | 0x44 => .row (fld w 0 15 == 0 && fld w 21 6 == 0) (some (.jr (gdS w) (fld w 15 6)))
  | 0x45 => .row (true) (if fld w 27 5 == 0 && decide (fld w 12 3 < 6) then some (.loop (fld w 21 6) (fld w 15 6 + 1) (fld w 12 3) (fld w 9 3 + 1) (fld w 1 8) (fld w 0 1 == 1)) else none)
  | 0x47 => .row (fld w 0 27 == 0) (some (.lbrk (gdS w)))
  | 0x48 => .row (fld w 0 27 == 0) (some (.rot (gdS w)))
  | 0x60 => .row (true) (if fld w 27 5 == 0 && decide (fld w 21 6 < 16) then some (.yld (fld w 21 6) (sfld w 0 21)) else none)
  | 0x61 => .row (fld w 0 27 == 0) (some (.endTask (gdS w)))
  | 0x62 => .row (fld w 15 12 == 0) (some (.trap (gdS w) (fld w 0 15)))
  | 0x63 => .row (fld w 0 27 == 0) (if fld w 27 5 == 0 then some (.retc) else none)
  | 0x64 => .row (fld w 2 19 == 0) ((BgSel.ofCode (fld w 0 2)).bind fun which => some (.bgrd (gdS w) (fld w 21 6) which))
  | 0x65 => .row (fld w 0 9 == 0 && fld w 21 6 == 0) (some (.bgtop (gdS w) (fld w 15 6) (fld w 9 6)))
  | 0x66 => .row (fld w 1 8 == 0 && fld w 21 6 == 0) (some (.bggive (gdS w) (fld w 15 6) (fld w 9 6) (fld w 0 1 == 1)))
  | 0x67 => .row (fld w 0 15 == 0 && fld w 21 6 == 0) (some (.estm (gdS w) (fld w 15 6)))
  | 0x68 => .row (fld w 0 21 == 0) (some (.time (gdS w) (fld w 21 6)))
  | 0x69 => .row (fld w 2 19 == 0) ((Layer.ofCode (fld w 0 2)).bind fun layer => some (.cyc (gdS w) (fld w 21 6) layer))
  | 0x6A => .row (fld w 12 9 == 0) (if sysIndexOk (fld w 0 12) then some (.srd (gdS w) (fld w 21 6) (fld w 0 12)) else none)
  | 0x6B => .row (fld w 12 3 == 0 && fld w 21 6 == 0) (if sysIndexWritable (fld w 0 12) then some (.swr (gdS w) (fld w 15 6) (fld w 0 12)) else none)
  | 0x6C => .row (fld w 4 11 == 0) (some (.lnch (gdS w) (fld w 21 6) (fld w 0 4) (fld w 15 6)))
  | 0x6D => .row (fld w 4 11 == 0 && fld w 21 6 == 0) (some (.ljoin (gdS w) (fld w 0 4) (fld w 15 6)))
  | 0x6E => .row (fld w 4 5 == 0 && fld w 21 6 == 0) (some (.enq (gdS w) (fld w 0 4) (fld w 15 6) (fld w 9 6)))
  | 0x6F => .row (fld w 0 15 == 0 && fld w 21 6 == 0) (some (.ddec (gdS w) (fld w 15 6)))
  | 0x70 => .row (fld w 21 6 == 0) (some (.hint (gdS w) (fld w 15 6) (fld w 0 15)))
  | 0x71 => .row (fld w 4 11 == 0) (some (.seqf (gdS w) (fld w 21 6) (fld w 0 4) (fld w 15 6)))
  | 0x72 => .row (fld w 0 15 == 0 && fld w 21 6 == 0) (some (.seqe (gdS w) (fld w 15 6)))
  | 0x73 => .row (fld w 8 7 == 0 && fld w 21 6 == 0) (some (.tgrow (gdS w) (fld w 0 4) (fld w 4 4) (fld w 15 6)))
  | 0x74 => .row (fld w 8 7 == 0 && fld w 21 6 == 0) (some (.tdef (gdS w) (fld w 0 4) (fld w 4 4) (fld w 15 6)))
  | 0x75 => .row (fld w 4 23 == 0) (some (.tfree (gdS w) (fld w 0 4)))
  | _ => .unassigned

/-- The vector opcodes (R99, R100). -/
def rawVector (w : Nat) : Raw :=
  match fld w 39 9 with
  | 0 => .row (fld w 0 39 == 0) (some .nop)
  | 0x1 => .row (true) ((vmodeOf w).bind fun f => if (f.et.isInt || f.et.isFloat3) then some (.vadd f (fld w 20 9) (fld w 11 9) (fld w 2 9)) else none)
  | 0x2 => .row (true) ((vmodeOf w).bind fun f => if (f.et.isInt || f.et.isFloat3) then some (.vsub f (fld w 20 9) (fld w 11 9) (fld w 2 9)) else none)
  | 0x3 => .row (true) ((vmodeOf w).bind fun f => if (f.et.isInt || f.et.isFloat3) then some (.vmul f (fld w 20 9) (fld w 11 9) (fld w 2 9)) else none)
  | 0x4 => .row (true) ((vmodeOf w).bind fun f => if f.et.isInt then some (.vmulh f (fld w 20 9) (fld w 11 9) (fld w 2 9)) else none)
  | 0x5 => .row (true) ((vmodeOf w).bind fun f => if f.et.isFloat3 then some (.vfma f (fld w 20 9) (fld w 11 9) (fld w 2 9)) else none)
  | 0x6 => .row (true) ((vmodeOf w).bind fun f => if f.et.isFloat3 then some (.vfms f (fld w 20 9) (fld w 11 9) (fld w 2 9)) else none)
  | 0x7 => .row (true) ((vmodeOf w).bind fun f => if (f.et.isInt || f.et.isFloat3) then some (.vmin f (fld w 20 9) (fld w 11 9) (fld w 2 9)) else none)
  | 0x8 => .row (true) ((vmodeOf w).bind fun f => if (f.et.isInt || f.et.isFloat3) then some (.vmax f (fld w 20 9) (fld w 11 9) (fld w 2 9)) else none)
  | 0x9 => .row (fld w 2 9 == 0) ((vmodeOf w).bind fun f => if (f.et.isInt || f.et.isFloat3) then some (.vabs f (fld w 20 9) (fld w 11 9)) else none)
  | 0xA => .row (fld w 2 9 == 0) ((vmodeOf w).bind fun f => if (f.et.isInt || f.et.isFloat3) then some (.vneg f (fld w 20 9) (fld w 11 9)) else none)
  | 0xB => .row (true) ((vmodeOf w).bind fun f => if f.et.isInt then some (.vadds f (fld w 20 9) (fld w 11 9) (fld w 2 9)) else none)
  | 0xC => .row (true) ((vmodeOf w).bind fun f => if f.et.isInt then some (.vsubs f (fld w 20 9) (fld w 11 9) (fld w 2 9)) else none)
  | 0xD => .row (true) ((vmodeOf w).bind fun f => if f.et.isInt then some (.vavg f (fld w 20 9) (fld w 11 9) (fld w 2 9)) else none)
  | 0x10 => .row (true) ((vmodeOf w).bind fun f => some (.vand f (fld w 20 9) (fld w 11 9) (fld w 2 9)))
  | 0x11 => .row (true) ((vmodeOf w).bind fun f => some (.vor f (fld w 20 9) (fld w 11 9) (fld w 2 9)))
  | 0x12 => .row (true) ((vmodeOf w).bind fun f => some (.vxor f (fld w 20 9) (fld w 11 9) (fld w 2 9)))
  | 0x13 => .row (true) ((vmodeOf w).bind fun f => some (.vandn f (fld w 20 9) (fld w 11 9) (fld w 2 9)))
  | 0x14 => .row (fld w 2 9 == 0) ((vmodeOf w).bind fun f => some (.vnot f (fld w 20 9) (fld w 11 9)))
  | 0x15 => .row (true) ((vmodeOf w).bind fun f => if f.et.isInt then some (.vshl f (fld w 20 9) (fld w 11 9) (fld w 2 9)) else none)
  | 0x16 => .row (true) ((vmodeOf w).bind fun f => if f.et.isInt then some (.vshr f (fld w 20 9) (fld w 11 9) (fld w 2 9)) else none)
  | 0x17 => .row (true) ((vmodeOf w).bind fun f => if f.et.isInt then some (.vsra f (fld w 20 9) (fld w 11 9) (fld w 2 9)) else none)
  | 0x18 => .row (fld w 2 9 == 0) ((vmodeOf w).bind fun f => if f.et.isInt then some (.vclz f (fld w 20 9) (fld w 11 9)) else none)
  | 0x19 => .row (fld w 2 9 == 0) ((vmodeOf w).bind fun f => if f.et.isInt then some (.vpopc f (fld w 20 9) (fld w 11 9)) else none)
  | 0x20 => .row (fld w 0 2 == 0) ((Width.ofCode (fld w 37 2)).bind fun wid => (ET.ofCode (fld w 29 4)).bind fun et => (FCond.ofCode (fld w 24 5)).bind fun cc => if (et.isInt || et.isFloat3) && vcmpOk et cc then some (.vcmp wid (fld w 33 4) et cc (fld w 20 4) (fld w 11 9) (fld w 2 9)) else none)
  | 0x21 => .row (fld w 0 2 == 0) ((Width.ofCode (fld w 37 2)).bind fun wid => (ET.ofCode (fld w 29 4)).bind fun et => some (.vsel wid (fld w 33 4) et (fld w 20 9) (fld w 11 9) (fld w 2 9)))
  | 0x22 => .row (fld w 2 9 == 0) ((vmodeOf w).bind fun f => if f.et.isFloat3 then some (.vclass f (fld w 20 9) (fld w 11 9)) else none)
  | 0x30 => .row (fld w 2 5 == 0) ((vmodeOf w).bind fun f => (ET.ofCode (fld w 7 4)).bind fun src => some (.vcvt f src (fld w 20 9) (fld w 11 9)))
  | 0x31 => .row (fld w 2 5 == 0) ((vmodeOf w).bind fun f => (ET.ofCode (fld w 7 4)).bind fun src => some (.vcvts f src (fld w 20 9) (fld w 11 9)))
  | 0x32 => .row (true) ((vmodeOf w).bind fun f => if f.et.packable then some (.vpack f (fld w 20 9) (fld w 11 9) (fld w 2 9)) else none)
  | 0x33 => .row (fld w 3 8 == 0) ((vmodeOf w).bind fun f => if f.et.packable then some (.vunpk f (fld w 20 9) (fld w 11 9) (fld w 2 1 == 1)) else none)
  | 0x34 => .row (fld w 8 3 == 0) ((vmodeOf w).bind fun f => if f.et.isFloat3 then some (.vscl f (fld w 20 9) (fld w 11 9) (fld w 2 6)) else none)
  | 0x35 => .row (fld w 2 9 == 0) ((vmodeOf w).bind fun f => if f.et.isFloat3 then some (.vrnd f (fld w 20 9) (fld w 11 9)) else none)
  | 0x40 => .row (true) ((vmodeOf w).bind fun f => if f.et.isInt then some (.vaddi f (fld w 20 9) (fld w 11 9) (sfld w 2 9)) else none)
  | 0x41 => .row (true) ((vmodeOf w).bind fun f => if f.et.isInt then some (.vmuli f (fld w 20 9) (fld w 11 9) (sfld w 2 9)) else none)
  | 0x42 => .row (fld w 9 2 == 0) ((vmodeOf w).bind fun f => if f.et.isInt then some (.vshli f (fld w 20 9) (fld w 11 9) (fld w 2 7)) else none)
  | 0x43 => .row (fld w 9 2 == 0) ((vmodeOf w).bind fun f => if f.et.isInt then some (.vshri f (fld w 20 9) (fld w 11 9) (fld w 2 7)) else none)
  | 0x44 => .row (fld w 9 2 == 0) ((vmodeOf w).bind fun f => if f.et.isInt then some (.vsrai f (fld w 20 9) (fld w 11 9) (fld w 2 7)) else none)
  | 0x45 => .row (true) ((vmodeOf w).bind fun f => if f.et.isInt then some (.vandi f (fld w 20 9) (fld w 11 9) (sfld w 2 9)) else none)
  | 0x46 => .row (fld w 8 12 == 0) ((vmodeOf w).bind fun f => some (.vbc f (fld w 20 9) (fld w 2 6)))
  | 0x47 => .row (fld w 11 9 == 0) ((vmodeOf w).bind fun f => if f.et.isInt then some (.vldi f (fld w 20 9) (sfld w 2 9)) else none)
  | 0x50 => .row (true) ((vmodeOf w).bind fun f => some (.vperm f (fld w 20 9) (fld w 11 9) (fld w 2 9)))
  | 0x51 => .row (fld w 8 3 == 0) ((vmodeOf w).bind fun f => some (.vrot f (fld w 20 9) (fld w 11 9) (fld w 2 6)))
  | 0x52 => .row (fld w 8 3 == 0) ((vmodeOf w).bind fun f => some (.vsld f (fld w 20 9) (fld w 11 9) (fld w 2 6)))
  | 0x53 => .row (fld w 8 3 == 0 && fld w 26 3 == 0) ((vmodeOf w).bind fun f => some (.vext f (fld w 20 6) (fld w 11 9) (fld w 2 6)))
  | 0x54 => .row (fld w 8 3 == 0 && fld w 17 3 == 0) ((vmodeOf w).bind fun f => some (.vins f (fld w 20 9) (fld w 11 6) (fld w 2 6)))
  | 0x55 => .row (fld w 2 18 == 0) ((vmodeOf w).bind fun f => if f.et.isInt then some (.viota f (fld w 20 9)) else none)
  | 0x56 => .row (fld w 2 9 == 0) ((vmodeOf w).bind fun f => some (.vcmpr f (fld w 20 9) (fld w 11 9)))
  | 0x57 => .row (fld w 2 9 == 0) ((vmodeOf w).bind fun f => some (.vxpnd f (fld w 20 9) (fld w 11 9)))
  | 0x60 => .row (fld w 2 9 == 0) ((vmodeOf w).bind fun f => if (f.et.isInt || f.et.isFloat3) then some (.vradd f (fld w 20 9) (fld w 11 9)) else none)
  | 0x61 => .row (fld w 2 9 == 0) ((vmodeOf w).bind fun f => if (f.et.isInt || f.et.isFloat3) then some (.vrmax f (fld w 20 9) (fld w 11 9)) else none)
  | 0x62 => .row (fld w 2 9 == 0) ((vmodeOf w).bind fun f => if (f.et.isInt || f.et.isFloat3) then some (.vrmin f (fld w 20 9) (fld w 11 9)) else none)
  | 0x64 => .row (true) ((vmodeOf w).bind fun f => if (f.et.isInt || f.et.isFloat3) then some (.vdot f (fld w 20 9) (fld w 11 9) (fld w 2 9)) else none)
  | 0x70 => .row (fld w 0 2 == 0 && fld w 6 5 == 0 && fld w 15 5 == 0 && fld w 24 13 == 0) (if fld w 37 2 == 0 then some (.pand (fld w 20 4) (fld w 11 4) (fld w 2 4)) else none)
  | 0x71 => .row (fld w 0 2 == 0 && fld w 6 5 == 0 && fld w 15 5 == 0 && fld w 24 13 == 0) (if fld w 37 2 == 0 then some (.por (fld w 20 4) (fld w 11 4) (fld w 2 4)) else none)
  | 0x72 => .row (fld w 0 2 == 0 && fld w 6 5 == 0 && fld w 15 5 == 0 && fld w 24 13 == 0) (if fld w 37 2 == 0 then some (.pxor (fld w 20 4) (fld w 11 4) (fld w 2 4)) else none)
  | 0x73 => .row (fld w 0 11 == 0 && fld w 15 5 == 0 && fld w 24 13 == 0) (if fld w 37 2 == 0 then some (.pnot (fld w 20 4) (fld w 11 4)) else none)
  | 0x74 => .row (fld w 0 11 == 0 && fld w 15 5 == 0 && fld w 24 5 == 0 && fld w 33 4 == 0) ((Width.ofCode (fld w 37 2)).bind fun wid => (ET.ofCode (fld w 29 4)).bind fun et => some (.pfirst wid et (fld w 20 4) (fld w 11 4)))
  | 0x75 => .row (fld w 0 11 == 0 && fld w 15 5 == 0 && fld w 26 3 == 0 && fld w 33 4 == 0) ((Width.ofCode (fld w 37 2)).bind fun wid => (ET.ofCode (fld w 29 4)).bind fun et => some (.pcnt wid et (fld w 20 6) (fld w 11 4)))
  | 0x76 => .row (fld w 0 2 == 0 && fld w 8 12 == 0 && fld w 24 5 == 0 && fld w 33 4 == 0) ((Width.ofCode (fld w 37 2)).bind fun wid => (ET.ofCode (fld w 29 4)).bind fun et => some (.plen wid et (fld w 20 4) (fld w 2 6)))
  | 0x80 => .row (fld w 7 4 == 0) ((vmodeOf w).bind fun f => if f.et.isInt && planeOk f (fld w 2 5) then some (.vpln f (fld w 20 9) (fld w 11 9) (fld w 2 5)) else none)
  | 0x81 => .row (fld w 7 4 == 0) ((vmodeOf w).bind fun f => if f.et.isInt && planeOk f (fld w 2 5) then some (.vupln f (fld w 20 9) (fld w 11 9) (fld w 2 5)) else none)
  | 0x82 => .row (fld w 2 9 == 0) ((vmodeOf w).bind fun f => if f.et.isFloat3 then some (.vbsc f (fld w 20 9) (fld w 11 9)) else none)
  | 0x90 => .row (fld w 2 9 == 0 && fld w 14 6 == 0) ((vmodeOf w).bind fun f => some (.vpop f (fld w 20 9) (fld w 11 3)))
  | _ => .unassigned

/-- The special-function opcodes (R101). -/
def rawSpecial (w : Nat) : Raw :=
  match fld w 26 6 with
  | 0 => .row (fld w 0 26 == 0) (some .nop)
  | 0x1 => .row (true) ((fmodeOf w).bind fun f => some (.fexp2 f (fld w 10 9) (fld w 1 9)))
  | 0x2 => .row (true) ((fmodeOf w).bind fun f => some (.fexp f (fld w 10 9) (fld w 1 9)))
  | 0x3 => .row (true) ((fmodeOf w).bind fun f => some (.flog2 f (fld w 10 9) (fld w 1 9)))
  | 0x4 => .row (true) ((fmodeOf w).bind fun f => some (.fln f (fld w 10 9) (fld w 1 9)))
  | 0x5 => .row (true) ((fmodeOf w).bind fun f => some (.frcp f (fld w 10 9) (fld w 1 9)))
  | 0x6 => .row (true) ((fmodeOf w).bind fun f => some (.frsq f (fld w 10 9) (fld w 1 9)))
  | 0x7 => .row (true) ((fmodeOf w).bind fun f => some (.fsqrt f (fld w 10 9) (fld w 1 9)))
  | 0x8 => .row (true) ((fmodeOf w).bind fun f => some (.ftanh f (fld w 10 9) (fld w 1 9)))
  | 0x9 => .row (true) ((fmodeOf w).bind fun f => some (.fsigm f (fld w 10 9) (fld w 1 9)))
  | 0xA => .row (true) ((fmodeOf w).bind fun f => some (.ferf f (fld w 10 9) (fld w 1 9)))
  | 0xB => .row (true) ((fmodeOf w).bind fun f => some (.fsin f (fld w 10 9) (fld w 1 9)))
  | 0xC => .row (true) ((fmodeOf w).bind fun f => some (.fcos f (fld w 10 9) (fld w 1 9)))
  | 0xD => .row (true) ((fmodeOf w).bind fun f => some (.fgelu f (fld w 10 9) (fld w 1 9)))
  | _ => .unassigned

/-- The matrix opcodes (R102, R103). -/
def rawMatrix (w : Nat) : Raw :=
  match fld w 34 6 with
  | 0 => .row (fld w 0 34 == 0) (some .nop)
  | 0x1 => .row (fld w 0 16 == 0) (if decide (fld w 16 7 > 0) then some (.mma (fld w 31 3) (fld w 27 4) (fld w 23 4) (fld w 16 7)) else none)
  | 0x2 => .row (fld w 0 16 == 0) (if decide (fld w 16 7 > 0) then some (.mmaz (fld w 31 3) (fld w 27 4) (fld w 23 4) (fld w 16 7)) else none)
  | 0x3 => .row (fld w 0 16 == 0) (if decide (fld w 16 7 > 0) then some (.mmaw (fld w 31 3) (fld w 27 4) (fld w 23 4) (fld w 16 7)) else none)
  | 0x4 => .row (fld w 0 16 == 0) (if decide (fld w 16 7 > 0) then some (.mmag (fld w 31 3) (fld w 27 4) (fld w 23 4) (fld w 16 7)) else none)
  | 0x5 => .row (fld w 16 11 == 0 && optRes w 7 1 6 && optRes w 0 27 4) ((DrainFmt.ofCode (fld w 9 4)).bind fun fmt => some (.mdrn (fld w 31 3) (fld w 13 3) fmt (fld w 8 1 == 1) ((optFld w 7 1 6).map (sread · 6)) (optFld w 0 27 4)))
  | 0x6 => .row (fld w 0 31 == 0) (some (.mzero (fld w 31 3)))
  | 0x7 => .row (fld w 31 3 == 0) (some (.mdld (fld w 27 4) (fld w 0 27)))
  | 0x8 => .row (fld w 0 31 == 0) (some (.mwait (fld w 31 3)))
  | 0x9 => .row (fld w 31 3 == 0) (some (.mnest (fld w 27 4) (fld w 0 27)))
  | 0xA => .row (fld w 7 6 == 0 && fld w 16 18 == 0) (if decide (fld w 0 7 < 65) then some (.mqset (fld w 13 3) (fld w 0 7)) else none)
  | _ => .unassigned

/-- The copy and memory opcodes (R104 to R108). -/
def rawCopy (w : Nat) : Raw :=
  match fld w 29 7 with
  | 0 => .row (fld w 0 29 == 0) (some .nop)
  | 0x1 => .row (true) (some (.ldv (gdC w) (fld w 15 9) (fld w 9 6) (fld w 0 9)))
  | 0x2 => .row (true) (some (.stv (gdC w) (fld w 15 9) (fld w 9 6) (fld w 0 9)))
  | 0x3 => if fld w 11 1 == 0 then .row (true) (some (.lds (gdC w) (fld w 18 6) (fld w 12 6) (fld w 0 11))) else .row (fld w 0 3 == 0) (some (.ldsGlobal (gdC w) (fld w 18 6) (fld w 7 4) (fld w 12 6) (optFld w 3 4 3)))
  | 0x4 => .row (fld w 11 1 == 0) (some (.sts (gdC w) (fld w 18 6) (fld w 12 6) (fld w 0 11)))
  | 0x5 => .row (true) (some (.ldvx (gdC w) (fld w 15 9) (fld w 9 6) (fld w 0 9)))
  | 0x6 => .row (true) (some (.stvx (gdC w) (fld w 15 9) (fld w 9 6) (fld w 0 9)))
  | 0x7 => .row (fld w 19 5 == 0) (some (.ldp (gdC w) (fld w 15 4) (fld w 9 6) (fld w 0 9)))
  | 0x8 => .row (fld w 19 5 == 0) (some (.stp (gdC w) (fld w 15 4) (fld w 9 6) (fld w 0 9)))
  | 0x10 => .row (optRes w 0 1 3) (some (.cpin (gdC w) (fld w 20 4) (fld w 16 4) (fld w 10 6) (fld w 4 6) (optFld w 0 1 3)))
  | 0x11 => .row (optRes w 0 1 3) (some (.cpout (gdC w) (fld w 20 4) (fld w 16 4) (fld w 10 6) (fld w 4 6) (optFld w 0 1 3)))
  | 0x12 => .row (optRes w 0 1 3) (some (.cpmc (gdC w) (fld w 20 4) (fld w 16 4) (fld w 10 6) (fld w 4 6) (optFld w 0 1 3)))
  | 0x13 => .row (optRes w 0 1 3) (some (.cpga (gdC w) (fld w 20 4) (fld w 16 4) (fld w 10 6) (fld w 4 6) (optFld w 0 1 3)))
  | 0x14 => .row (optRes w 0 1 3) (some (.cpsc (gdC w) (fld w 20 4) (fld w 16 4) (fld w 10 6) (fld w 4 6) (optFld w 0 1 3)))
  | 0x15 => .row (optRes w 0 1 3) (some (.cpxf (gdC w) (fld w 20 4) (fld w 16 4) (fld w 10 6) (fld w 4 6) (optFld w 0 1 3)))
  | 0x16 => .row (fld w 4 3 == 0 && optRes w 0 1 3) (some (.cpqo (gdC w) (fld w 20 4) (fld w 16 4) (fld w 10 6) (fld w 7 3) (optFld w 0 1 3)))
  | 0x17 => .row (fld w 0 7 == 0 && fld w 20 4 == 0) (some (.cpqf (gdC w) (fld w 16 4) (fld w 10 6) (fld w 7 3)))
  | 0x18 => .row (optRes w 0 1 3) (some (.cpfl (gdC w) (fld w 20 4) (fld w 16 4) (fld w 10 6) (fld w 4 6) (optFld w 0 1 3)))
  | 0x19 => .row (true) (some (.wdld (gdC w) (fld w 20 4) (fld w 14 6) (fld w 0 14)))
  | 0x20 => .row (fld w 0 20 == 0) (some (.waitk (gdC w) (fld w 20 4)))
  | 0x21 => .row (fld w 4 16 == 0) (some (.testk (gdC w) (fld w 0 4) (fld w 20 4)))
  | 0x22 => .row (fld w 0 20 == 0) (some (.waitkx (gdC w) (fld w 20 4)))
  | 0x23 => .row (fld w 0 20 == 0) (some (.krel (gdC w) (fld w 20 4)))
  | 0x28 => .row (optRes w 0 1 3) ((GSize.ofCode (fld w 16 4)).bind fun size => some (.ldg (gdC w) (fld w 20 4) size (fld w 10 6) (fld w 4 6) (optFld w 0 1 3)))
  | 0x29 => .row (optRes w 0 1 3) ((GSize.ofCode (fld w 16 4)).bind fun size => some (.stg (gdC w) (fld w 20 4) size (fld w 10 6) (fld w 4 6) (optFld w 0 1 3)))
  | 0x2A => .row (fld w 0 1 == 0) ((AmoFn.ofCode (fld w 16 4)).bind fun fn => (Scope.ofCode (fld w 1 3)).bind fun scope => some (.amo (gdC w) (fld w 20 4) fn (fld w 10 6) (fld w 4 6) scope))
  | 0x2B => .row (fld w 0 1 == 0) (if (fld w 4 6) % 2 == 0 then (CSize.ofCode (fld w 16 4)).bind fun size => (Scope.ofCode (fld w 1 3)).bind fun scope => some (.amoc (gdC w) (fld w 20 4) size (fld w 10 6) (fld w 4 6) scope) else none)
  | 0x30 => .row (fld w 9 11 == 0) ((Scope.ofCode (fld w 20 4)).bind fun scope => some (.fence (gdC w) scope (fld w 0 8) (fld w 8 1 == 1)))
  | 0x31 => .row (fld w 14 6 == 0) (if decide (fld w 0 14 > 0) then some (.binit (gdC w) (fld w 20 4) (fld w 0 14)) else none)
  | 0x32 => .row (fld w 0 14 == 0) (some (.barv (gdC w) (fld w 20 4) (fld w 14 6)))
  | 0x33 => .row (fld w 0 20 == 0) (some (.bwait (gdC w) (fld w 20 4)))
  | 0x34 => .row (fld w 0 14 == 0) (some (.bexp (gdC w) (fld w 20 4) (fld w 14 6)))
  | 0x35 => .row (fld w 4 16 == 0) (if decide (fld w 20 4 < 8) then some (.gbar (gdC w) (fld w 0 4) (fld w 20 4)) else none)
  | 0x3C => .row (fld w 0 4 == 0) (some (.cflush (gdC w) (fld w 20 4) (fld w 16 4) (fld w 10 6) (fld w 4 6)))
  | _ => .unassigned

/-- The opcode table of a slot's class. -/
def rawSlot (s : Slot) (w : Nat) : Raw :=
  match s.cls with
  | .scalar => rawScalar w
  | .vector => rawVector w
  | .special => rawSpecial w
  | .matrix => rawMatrix w
  | .copy => rawCopy w

/-- An opcode that the slot's class assigns and the slot excludes: a control opcode outside S0 or a system opcode outside
S1 (R23), whatever the operation's fields hold. -/
def excludedOp (s : Slot) (w : Nat) : Bool :=
  let op := fld w 32 8
  s.cls == .scalar && ((decide (0x40 ≤ op) && decide (op ≤ 0x48) && s != .s0) || (decide (0x60 ≤ op) && s != .s1))

/-- The operation in a present slot, or the lowest item of R41 that the slot breaks: 1 a reserved bit, 3 an opcode that is
unassigned or excluded from the slot, 4 a reserved value (R44). -/
def decodeSlot (s : Slot) (w : Nat) : Except Nat Instr :=
  match rawSlot s w with
  | .unassigned => .error 3
  | .row ok (some i) => if !ok then .error 1 else if i.slotOk s then .ok i else .error 3
  | .row ok none => if !ok then .error 1 else if excludedOp s w then .error 3 else .error 4

/-- A decoded bundle: its flags and the operations of its present slots, in slot order (R18 to R21). -/
structure Bundle where
  ck  : Bool
  yd  : Bool
  ops : List (Slot × Instr)
  deriving DecidableEq, Repr

/-- An illegal bundle as the record of R44 names it: the slot number, 0xFF for the bundle as a whole, and the item. -/
structure Illegal where
  slot : Nat
  item : Nat
  deriving DecidableEq, Repr

/-- The place of a slot in the bundle: its mask bit, its lowest bit and its width (R18, R19). -/
def Slot.place : Slot → Nat × Nat × Nat
  | .s0 => (381, 328, 40) | .s1 => (380, 288, 40) | .v0 => (379, 240, 48) | .v1 => (378, 192, 48)
  | .v2 => (377, 144, 48) | .m => (376, 104, 40) | .f => (375, 72, 32) | .c0 => (374, 36, 36) | .c1 => (373, 0, 36)

/-- The slots in the order of R19. -/
def Slot.all : List Slot := [.s0, .s1, .v0, .v1, .v2, .m, .f, .c0, .c1]

/-- The slot's own bits, and whether its mask bit is set. -/
def Slot.bitsOf (s : Slot) (b : Nat) : Bool × Nat :=
  match s.place with
  | (mask, lo, len) => (fld b mask 1 == 1, fld b lo len)

/-- Each slot decoded: nothing for an absent slot of zeros, an offence for an absent slot with a bit set (R20). -/
def slotResult (b : Nat) (s : Slot) : Except Nat (Option Instr) :=
  match s.bitsOf b with
  | (false, w) => if w == 0 then .ok none else .error 1
  | (true, w) =>
    match decodeSlot s w with
    | .ok i => .ok (some i)
    | .error e => .error e

/-- The slots of a bundle decoded in the order of R19: the first offence by slot number, or the present operations. -/
def decodeSlots (b : Nat) : List Slot → Except Illegal (List (Slot × Instr))
  | [] => .ok []
  | s :: rest =>
    match slotResult b s with
    | .error e => .error ⟨s.number, e⟩
    | .ok r =>
      match decodeSlots b rest with
      | .error e => .error e
      | .ok l => .ok (match r with | some i => (s, i) :: l | none => l)

/-- The bundle's operations, or the slot offence of R44 with the lowest slot number, or item 1 for a reserved header bit.
The offences of the bundle as a whole that need the task are judged apart (Machine/Legal.lean). -/
def decodeBundle (b : Nat) : Except Illegal Bundle :=
  match decodeSlots b Slot.all with
  | .error e => .error e
  | .ok ops => if fld b 368 5 == 0 then .ok ⟨fld b 383 1 == 1, fld b 382 1 == 1, ops⟩ else .error ⟨0xFF, 1⟩

/-- The bits of the slot that carries the operation, written from the encoding tables of R94 to R108. A step of the device
has no encoding. -/
def encodeSlot : Instr → Option Nat
  | .nop => some 0
  | .add g sd sa sb => some (put 0x1 32 + guardS g + put sd 21 + put sa 15 + put sb 9)
  | .sub g sd sa sb => some (put 0x2 32 + guardS g + put sd 21 + put sa 15 + put sb 9)
  | .mul g sd sa sb => some (put 0x3 32 + guardS g + put sd 21 + put sa 15 + put sb 9)
  | .mulh g sd sa sb => some (put 0x4 32 + guardS g + put sd 21 + put sa 15 + put sb 9)
  | .div g sd sa sb => some (put 0x5 32 + guardS g + put sd 21 + put sa 15 + put sb 9)
  | .rem g sd sa sb => some (put 0x6 32 + guardS g + put sd 21 + put sa 15 + put sb 9)
  | .min g sd sa sb => some (put 0x7 32 + guardS g + put sd 21 + put sa 15 + put sb 9)
  | .max g sd sa sb => some (put 0x8 32 + guardS g + put sd 21 + put sa 15 + put sb 9)
  | .and g sd sa sb => some (put 0x9 32 + guardS g + put sd 21 + put sa 15 + put sb 9)
  | .or g sd sa sb => some (put 0xA 32 + guardS g + put sd 21 + put sa 15 + put sb 9)
  | .xor g sd sa sb => some (put 0xB 32 + guardS g + put sd 21 + put sa 15 + put sb 9)
  | .andn g sd sa sb => some (put 0xC 32 + guardS g + put sd 21 + put sa 15 + put sb 9)
  | .shl g sd sa sb => some (put 0xD 32 + guardS g + put sd 21 + put sa 15 + put sb 9)
  | .shr g sd sa sb => some (put 0xE 32 + guardS g + put sd 21 + put sa 15 + put sb 9)
  | .sra g sd sa sb => some (put 0xF 32 + guardS g + put sd 21 + put sa 15 + put sb 9)
  | .rol g sd sa sb => some (put 0x10 32 + guardS g + put sd 21 + put sa 15 + put sb 9)
  | .clz g sd sa => some (put 0x11 32 + guardS g + put sd 21 + put sa 15)
  | .ctz g sd sa => some (put 0x12 32 + guardS g + put sd 21 + put sa 15)
  | .popc g sd sa => some (put 0x13 32 + guardS g + put sd 21 + put sa 15)
  | .bfx g sd sa sb => some (put 0x14 32 + guardS g + put sd 21 + put sa 15 + put sb 9)
  | .bfi g sd sa sb => some (put 0x15 32 + guardS g + put sd 21 + put sa 15 + put sb 9)
  | .sel g sd qs sa sb => some (put 0x16 32 + guardS g + put sd 21 + qs + put sa 15 + put sb 9)
  | .cmp g cc qd sa sb => some (put 0x17 32 + guardS g + cc.code + put qd 21 + put sa 15 + put sb 9)
  | .addi g sd sa imm => some (put 0x20 32 + guardS g + put sd 21 + put sa 15 + scode imm 15)
  | .muli g sd sa imm => some (put 0x21 32 + guardS g + put sd 21 + put sa 15 + scode imm 15)
  | .andi g sd sa imm => some (put 0x22 32 + guardS g + put sd 21 + put sa 15 + imm)
  | .ori g sd sa imm => some (put 0x23 32 + guardS g + put sd 21 + put sa 15 + imm)
  | .xori g sd sa imm => some (put 0x24 32 + guardS g + put sd 21 + put sa 15 + imm)
  | .shli g sd sa n => some (put 0x25 32 + guardS g + put sd 21 + put sa 15 + n)
  | .shri g sd sa n => some (put 0x26 32 + guardS g + put sd 21 + put sa 15 + n)
  | .srai g sd sa n => some (put 0x27 32 + guardS g + put sd 21 + put sa 15 + n)
  | .cmpi g cc qd sa imm => some (put 0x28 32 + guardS g + put cc.code 11 + put qd 21 + put sa 15 + scode imm 11)
  | .ldi g sd imm => some (put 0x29 32 + guardS g + put sd 21 + scode imm 21)
  | .ldih g sd imm => some (put 0x2A 32 + guardS g + put sd 21 + imm)
  | .lea g sd sa off sh => some (put 0x2B 32 + guardS g + put sd 21 + put sa 15 + scode off 12 + put sh 12)
  | .fadd g sd sa sb => some (put 0x30 32 + guardS g + put sd 21 + put sa 15 + put sb 9)
  | .fsub g sd sa sb => some (put 0x31 32 + guardS g + put sd 21 + put sa 15 + put sb 9)
  | .fmul g sd sa sb => some (put 0x32 32 + guardS g + put sd 21 + put sa 15 + put sb 9)
  | .fma g sd sa sb sc => some (put 0x33 32 + guardS g + put sd 21 + put sa 15 + put sb 9 + sc)
  | .fmin g sd sa sb => some (put 0x34 32 + guardS g + put sd 21 + put sa 15 + put sb 9)
  | .fmax g sd sa sb => some (put 0x35 32 + guardS g + put sd 21 + put sa 15 + put sb 9)
  | .fcmp g cc qd sa sb => some (put 0x36 32 + guardS g + cc.code + put qd 21 + put sa 15 + put sb 9)
  | .fcvt g dst src sd sa => some (put 0x37 32 + guardS g + put dst.code 4 + src.code + put sd 21 + put sa 15)
  | .qop g qd qa qb t => some (put 0x3C 32 + guardS g + put qd 21 + put qa 15 + put qb 9 + t)
  | .qmov g qd sa => some (put 0x3D 32 + guardS g + put qd 21 + put sa 15)
  | .movq g sd => some (put 0x3E 32 + guardS g + put sd 21)
  | .br g off => some (put 0x40 32 + guardS g + scode off 21)
  | .call g off => some (put 0x42 32 + guardS g + scode off 21)
  | .ret g => some (put 0x43 32 + guardS g)
  | .jr g sa => some (put 0x44 32 + guardS g + put sa 15)
  | .loop sa n level stages margin rs => some (put 0x45 32 + put sa 21 + put (n - 1) 15 + put level 12 + put (stages - 1) 9 + put margin 1 + bit rs)
  | .lbrk g => some (put 0x47 32 + guardS g)
  | .rot g => some (put 0x48 32 + guardS g)
  | .yld carry off => some (put 0x60 32 + put carry 21 + scode off 21)
  | .endTask g => some (put 0x61 32 + guardS g)
  | .trap g code => some (put 0x62 32 + guardS g + code)
  | .retc => some (put 0x63 32)
  | .bgrd g sd which => some (put 0x64 32 + guardS g + put sd 21 + which.code)
  | .bgtop g sa sb => some (put 0x65 32 + guardS g + put sa 15 + put sb 9)
  | .bggive g sa sb bgt => some (put 0x66 32 + guardS g + put sa 15 + put sb 9 + bit bgt)
  | .estm g sa => some (put 0x67 32 + guardS g + put sa 15)
  | .time g sd => some (put 0x68 32 + guardS g + put sd 21)
  | .cyc g sd layer => some (put 0x69 32 + guardS g + put sd 21 + layer.code)
  | .srd g sd idx => some (put 0x6A 32 + guardS g + put sd 21 + idx)
  | .swr g sa idx => some (put 0x6B 32 + guardS g + put sa 15 + idx)
  | .lnch g sd qs sa => some (put 0x6C 32 + guardS g + put sd 21 + qs + put sa 15)
  | .ljoin g qs sa => some (put 0x6D 32 + guardS g + qs + put sa 15)
  | .enq g qs sa sb => some (put 0x6E 32 + guardS g + qs + put sa 15 + put sb 9)
  | .ddec g sa => some (put 0x6F 32 + guardS g + put sa 15)
  | .hint g sa code => some (put 0x70 32 + guardS g + put sa 15 + code)
  | .seqf g sd qs sa => some (put 0x71 32 + guardS g + put sd 21 + qs + put sa 15)
  | .seqe g sa => some (put 0x72 32 + guardS g + put sa 15)
  | .tgrow g h qs sa => some (put 0x73 32 + guardS g + h + put qs 4 + put sa 15)
  | .tdef g h qs sa => some (put 0x74 32 + guardS g + h + put qs 4 + put sa 15)
  | .tfree g h => some (put 0x75 32 + guardS g + h)
  | .vadd f vd va vb => some (put 0x1 39 + vmodeBits f + put vd 20 + put va 11 + put vb 2)
  | .vsub f vd va vb => some (put 0x2 39 + vmodeBits f + put vd 20 + put va 11 + put vb 2)
  | .vmul f vd va vb => some (put 0x3 39 + vmodeBits f + put vd 20 + put va 11 + put vb 2)
  | .vmulh f vd va vb => some (put 0x4 39 + vmodeBits f + put vd 20 + put va 11 + put vb 2)
  | .vfma f vd va vb => some (put 0x5 39 + vmodeBits f + put vd 20 + put va 11 + put vb 2)
  | .vfms f vd va vb => some (put 0x6 39 + vmodeBits f + put vd 20 + put va 11 + put vb 2)
  | .vmin f vd va vb => some (put 0x7 39 + vmodeBits f + put vd 20 + put va 11 + put vb 2)
  | .vmax f vd va vb => some (put 0x8 39 + vmodeBits f + put vd 20 + put va 11 + put vb 2)
  | .vabs f vd va => some (put 0x9 39 + vmodeBits f + put vd 20 + put va 11)
  | .vneg f vd va => some (put 0xA 39 + vmodeBits f + put vd 20 + put va 11)
  | .vadds f vd va vb => some (put 0xB 39 + vmodeBits f + put vd 20 + put va 11 + put vb 2)
  | .vsubs f vd va vb => some (put 0xC 39 + vmodeBits f + put vd 20 + put va 11 + put vb 2)
  | .vavg f vd va vb => some (put 0xD 39 + vmodeBits f + put vd 20 + put va 11 + put vb 2)
  | .vand f vd va vb => some (put 0x10 39 + vmodeBits f + put vd 20 + put va 11 + put vb 2)
  | .vor f vd va vb => some (put 0x11 39 + vmodeBits f + put vd 20 + put va 11 + put vb 2)
  | .vxor f vd va vb => some (put 0x12 39 + vmodeBits f + put vd 20 + put va 11 + put vb 2)
  | .vandn f vd va vb => some (put 0x13 39 + vmodeBits f + put vd 20 + put va 11 + put vb 2)
  | .vnot f vd va => some (put 0x14 39 + vmodeBits f + put vd 20 + put va 11)
  | .vshl f vd va vb => some (put 0x15 39 + vmodeBits f + put vd 20 + put va 11 + put vb 2)
  | .vshr f vd va vb => some (put 0x16 39 + vmodeBits f + put vd 20 + put va 11 + put vb 2)
  | .vsra f vd va vb => some (put 0x17 39 + vmodeBits f + put vd 20 + put va 11 + put vb 2)
  | .vclz f vd va => some (put 0x18 39 + vmodeBits f + put vd 20 + put va 11)
  | .vpopc f vd va => some (put 0x19 39 + vmodeBits f + put vd 20 + put va 11)
  | .vcmp wid pg et cc pd va vb => some (put 0x20 39 + put wid.code 37 + put pg 33 + put et.code 29 + put cc.code 24 + put pd 20 + put va 11 + put vb 2)
  | .vsel wid pg et vd va vb => some (put 0x21 39 + put wid.code 37 + put pg 33 + put et.code 29 + put vd 20 + put va 11 + put vb 2)
  | .vclass f vd va => some (put 0x22 39 + vmodeBits f + put vd 20 + put va 11)
  | .vcvt f src vd va => some (put 0x30 39 + vmodeBits f + put src.code 7 + put vd 20 + put va 11)
  | .vcvts f src vd va => some (put 0x31 39 + vmodeBits f + put src.code 7 + put vd 20 + put va 11)
  | .vpack f vd va vb => some (put 0x32 39 + vmodeBits f + put vd 20 + put va 11 + put vb 2)
  | .vunpk f vd va half => some (put 0x33 39 + vmodeBits f + put vd 20 + put va 11 + put (bit half) 2)
  | .vscl f vd va sb => some (put 0x34 39 + vmodeBits f + put vd 20 + put va 11 + put sb 2)
  | .vrnd f vd va => some (put 0x35 39 + vmodeBits f + put vd 20 + put va 11)
  | .vaddi f vd va imm => some (put 0x40 39 + vmodeBits f + put vd 20 + put va 11 + put (scode imm 9) 2)
  | .vmuli f vd va imm => some (put 0x41 39 + vmodeBits f + put vd 20 + put va 11 + put (scode imm 9) 2)
  | .vshli f vd va n => some (put 0x42 39 + vmodeBits f + put vd 20 + put va 11 + put n 2)
  | .vshri f vd va n => some (put 0x43 39 + vmodeBits f + put vd 20 + put va 11 + put n 2)
  | .vsrai f vd va n => some (put 0x44 39 + vmodeBits f + put vd 20 + put va 11 + put n 2)
  | .vandi f vd va imm => some (put 0x45 39 + vmodeBits f + put vd 20 + put va 11 + put (scode imm 9) 2)
  | .vbc f vd sb => some (put 0x46 39 + vmodeBits f + put vd 20 + put sb 2)
  | .vldi f vd imm => some (put 0x47 39 + vmodeBits f + put vd 20 + put (scode imm 9) 2)
  | .vperm f vd va vb => some (put 0x50 39 + vmodeBits f + put vd 20 + put va 11 + put vb 2)
  | .vrot f vd va sb => some (put 0x51 39 + vmodeBits f + put vd 20 + put va 11 + put sb 2)
  | .vsld f vd va sb => some (put 0x52 39 + vmodeBits f + put vd 20 + put va 11 + put sb 2)
  | .vext f sd va sb => some (put 0x53 39 + vmodeBits f + put sd 20 + put va 11 + put sb 2)
  | .vins f vd sa sb => some (put 0x54 39 + vmodeBits f + put vd 20 + put sa 11 + put sb 2)
  | .viota f vd => some (put 0x55 39 + vmodeBits f + put vd 20)
  | .vcmpr f vd va => some (put 0x56 39 + vmodeBits f + put vd 20 + put va 11)
  | .vxpnd f vd va => some (put 0x57 39 + vmodeBits f + put vd 20 + put va 11)
  | .vradd f vd va => some (put 0x60 39 + vmodeBits f + put vd 20 + put va 11)
  | .vrmax f vd va => some (put 0x61 39 + vmodeBits f + put vd 20 + put va 11)
  | .vrmin f vd va => some (put 0x62 39 + vmodeBits f + put vd 20 + put va 11)
  | .vdot f vd va vb => some (put 0x64 39 + vmodeBits f + put vd 20 + put va 11 + put vb 2)
  | .pand pd pa pb => some (put 0x70 39 + put pd 20 + put pa 11 + put pb 2)
  | .por pd pa pb => some (put 0x71 39 + put pd 20 + put pa 11 + put pb 2)
  | .pxor pd pa pb => some (put 0x72 39 + put pd 20 + put pa 11 + put pb 2)
  | .pnot pd pa => some (put 0x73 39 + put pd 20 + put pa 11)
  | .pfirst wid et pd pa => some (put 0x74 39 + put wid.code 37 + put et.code 29 + put pd 20 + put pa 11)
  | .pcnt wid et sd pa => some (put 0x75 39 + put wid.code 37 + put et.code 29 + put sd 20 + put pa 11)
  | .plen wid et pd sb => some (put 0x76 39 + put wid.code 37 + put et.code 29 + put pd 20 + put sb 2)
  | .vpln f vd va p => some (put 0x80 39 + vmodeBits f + put vd 20 + put va 11 + put p 2)
  | .vupln f vd va p => some (put 0x81 39 + vmodeBits f + put vd 20 + put va 11 + put p 2)
  | .vbsc f vd va => some (put 0x82 39 + vmodeBits f + put vd 20 + put va 11)
  | .vpop f vd rq => some (put 0x90 39 + vmodeBits f + put vd 20 + put rq 11)
  | .fexp2 f vd va => some (put 0x1 26 + fmodeBits f + put vd 10 + put va 1)
  | .fexp f vd va => some (put 0x2 26 + fmodeBits f + put vd 10 + put va 1)
  | .flog2 f vd va => some (put 0x3 26 + fmodeBits f + put vd 10 + put va 1)
  | .fln f vd va => some (put 0x4 26 + fmodeBits f + put vd 10 + put va 1)
  | .frcp f vd va => some (put 0x5 26 + fmodeBits f + put vd 10 + put va 1)
  | .frsq f vd va => some (put 0x6 26 + fmodeBits f + put vd 10 + put va 1)
  | .fsqrt f vd va => some (put 0x7 26 + fmodeBits f + put vd 10 + put va 1)
  | .ftanh f vd va => some (put 0x8 26 + fmodeBits f + put vd 10 + put va 1)
  | .fsigm f vd va => some (put 0x9 26 + fmodeBits f + put vd 10 + put va 1)
  | .ferf f vd va => some (put 0xA 26 + fmodeBits f + put vd 10 + put va 1)
  | .fsin f vd va => some (put 0xB 26 + fmodeBits f + put vd 10 + put va 1)
  | .fcos f vd va => some (put 0xC 26 + fmodeBits f + put vd 10 + put va 1)
  | .fgelu f vd va => some (put 0xD 26 + fmodeBits f + put vd 10 + put va 1)
  | .mma ta da db kb => some (put 0x1 34 + put ta 31 + put da 27 + put db 23 + put kb 16)
  | .mmaz ta da db kb => some (put 0x2 34 + put ta 31 + put da 27 + put db 23 + put kb 16)
  | .mmaw ta da db kb => some (put 0x3 34 + put ta 31 + put da 27 + put db 23 + put kb 16)
  | .mmag ta da db kb => some (put 0x4 34 + put ta 31 + put da 27 + put db 23 + put kb 16)
  | .mdrn ta rq fmt relu shift off => some (put 0x5 34 + put ta 31 + put rq 13 + put fmt.code 9 + put (bit relu) 8 + optBits (shift.map (scode · 6)) 7 1 + optBits off 0 27)
  | .mzero ta => some (put 0x6 34 + put ta 31)
  | .mdld da off => some (put 0x7 34 + put da 27 + off)
  | .mwait ta => some (put 0x8 34 + put ta 31)
  | .mnest da off => some (put 0x9 34 + put da 27 + off)
  | .mqset rq size => some (put 0xA 34 + put rq 13 + size)
  | .ldv g vd sa imm => some (put 0x1 29 + guardC g + put vd 15 + put sa 9 + imm)
  | .stv g vd sa imm => some (put 0x2 29 + guardC g + put vd 15 + put sa 9 + imm)
  | .lds g sd sa imm => some (put 0x3 29 + guardC g + put sd 18 + put sa 12 + imm)
  | .ldsGlobal g sd h sa cls => some (put 0x3 29 + put 1 11 + guardC g + put sd 18 + put h 7 + put sa 12 + optBits cls 3 4)
  | .sts g sd sa imm => some (put 0x4 29 + guardC g + put sd 18 + put sa 12 + imm)
  | .ldvx g vd sa vx => some (put 0x5 29 + guardC g + put vd 15 + put sa 9 + vx)
  | .stvx g vd sa vx => some (put 0x6 29 + guardC g + put vd 15 + put sa 9 + vx)
  | .ldp g pd sa imm => some (put 0x7 29 + guardC g + put pd 15 + put sa 9 + imm)
  | .stp g pd sa imm => some (put 0x8 29 + guardC g + put pd 15 + put sa 9 + imm)
  | .cpin g h k sa sb cls => some (put 0x10 29 + guardC g + put h 20 + put k 16 + put sa 10 + put sb 4 + optBits cls 0 1)
  | .cpout g h k sa sb cls => some (put 0x11 29 + guardC g + put h 20 + put k 16 + put sa 10 + put sb 4 + optBits cls 0 1)
  | .cpmc g h k sa sb cls => some (put 0x12 29 + guardC g + put h 20 + put k 16 + put sa 10 + put sb 4 + optBits cls 0 1)
  | .cpga g h k sa sb cls => some (put 0x13 29 + guardC g + put h 20 + put k 16 + put sa 10 + put sb 4 + optBits cls 0 1)
  | .cpsc g h k sa sb cls => some (put 0x14 29 + guardC g + put h 20 + put k 16 + put sa 10 + put sb 4 + optBits cls 0 1)
  | .cpxf g h k sa sb cls => some (put 0x15 29 + guardC g + put h 20 + put k 16 + put sa 10 + put sb 4 + optBits cls 0 1)
  | .cpqo g h k sa rq cls => some (put 0x16 29 + guardC g + put h 20 + put k 16 + put sa 10 + put rq 7 + optBits cls 0 1)
  | .cpqf g k sa rq => some (put 0x17 29 + guardC g + put k 16 + put sa 10 + put rq 7)
  | .cpfl g h k sa sb cls => some (put 0x18 29 + guardC g + put h 20 + put k 16 + put sa 10 + put sb 4 + optBits cls 0 1)
  | .wdld g wd sa imm => some (put 0x19 29 + guardC g + put wd 20 + put sa 14 + imm)
  | .waitk g k => some (put 0x20 29 + guardC g + put k 20)
  | .testk g qd k => some (put 0x21 29 + guardC g + qd + put k 20)
  | .waitkx g k => some (put 0x22 29 + guardC g + put k 20)
  | .krel g k => some (put 0x23 29 + guardC g + put k 20)
  | .ldg g h size sa sb cls => some (put 0x28 29 + guardC g + put h 20 + put size.code 16 + put sa 10 + put sb 4 + optBits cls 0 1)
  | .stg g h size sa sb cls => some (put 0x29 29 + guardC g + put h 20 + put size.code 16 + put sa 10 + put sb 4 + optBits cls 0 1)
  | .amo g h fn sa sb scope => some (put 0x2A 29 + guardC g + put h 20 + put fn.code 16 + put sa 10 + put sb 4 + put scope.code 1)
  | .amoc g h size sa sb scope => some (put 0x2B 29 + guardC g + put h 20 + put size.code 16 + put sa 10 + put sb 4 + put scope.code 1)
  | .fence g scope mask flush => some (put 0x30 29 + guardC g + put scope.code 20 + mask + put (bit flush) 8)
  | .binit g b count => some (put 0x31 29 + guardC g + put b 20 + count)
  | .barv g b sa => some (put 0x32 29 + guardC g + put b 20 + put sa 14)
  | .bwait g b => some (put 0x33 29 + guardC g + put b 20)
  | .bexp g b sa => some (put 0x34 29 + guardC g + put b 20 + put sa 14)
  | .gbar g qs level => some (put 0x35 29 + guardC g + qs + put level 20)
  | .cflush g h k sa sb => some (put 0x3C 29 + guardC g + put h 20 + put k 16 + put sa 10 + put sb 4)
  | .arrayOpStart _ => none
  | .arrayOpEnd _ => none
  | .checkpointBundle _ => none
  | .seqfRelease _ _ => none
  | .promiseMissed _ => none
  | .waitSwitchPoint _ => none
  | .saveParkedTask _ => none
  | .saveAreaReserve _ => none
  | .schedulerDecision _ => none
  | .sliceExhausted _ => none
  | .drainMaxExpiry _ => none
  | .gangHoldRequest _ _ => none
  | .operatorHead _ => none
  | .holdPrepare _ => none
  | .moveComplete _ => none
  | .copyComplete _ => none
  | .copyError _ _ => none
  | .transformViolation _ => none
  | .softError _ _ _ => none
  | .ingressAccess _ => none
  | .linkTimeout _ _ => none
  | .flitCrcRetry _ => none
  | .linkDown _ _ => none
  | .hostApertureRead _ _ _ _ => none
  | .hostApertureWrite _ _ _ _ => none
  | .hostAtomicOp _ _ _ _ _ => none
  | .refill _ _ _ _ => none
  | .kill _ _ => none
  | .freeze _ _ => none
  | .thaw _ _ => none
  | .unfreeze _ _ _ => none
  | .ctxsys _ _ _ => none
  | .seqnew _ => none
  | .seqend _ _ => none
  | .seqread _ _ _ => none
  | .ptcreate _ _ => none
  | .recread _ _ _ => none
  | .exportWindow _ _ _ _ _ => none
  | .unexport _ _ => none
  | .importWindow _ _ => none
  | .unimport _ _ => none
  | .intake _ _ => none
  | .intakeComplete _ _ => none
  | .decodeMedia _ _ => none
  | .decodeComplete _ _ => none
  | .attest _ _ _ => none
  | .xfload _ _ => none
  | .qtailWrite _ _ _ => none
  | .qsizeWrite _ _ _ => none
  | .qctlOpen _ _ => none
  | .qctlDisable _ _ => none
  | .fasizeWrite _ _ => none
  | .lfcapWrite _ _ _ => none
  | .rackHiWrite _ _ _ => none
  | .rackLoWrite _ _ _ => none
  | .vbshiftWrite _ _ _ => none
  | .vbretireWrite _ _ _ => none
  | .registerWrite _ _ _ => none
  | .rackBank _ _ _ => none
  | .bankWake _ _ _ => none
  | .layerClockChange _ _ _ => none
  | .vbusEccError _ _ => none
  | .remapTableError _ _ _ => none
  | .rbgHealthFail _ => none
  | .deviceReset => none
  | .cellarLayerPowerOff _ _ => none
  | .cellarLayerPowerOn _ _ => none
  | .hostDeletion _ _ => none
  | .imageLoad _ => none

/-- The first slot in the order of R19 that may carry the operation. -/
def Instr.homeSlot (i : Instr) : Slot :=
  match i.cls with
  | none => .s0
  | some .scalar => if i.slotOk .s0 then .s0 else .s1
  | some .vector => .v0
  | some .special => .f
  | some .matrix => .m
  | some .copy => .c0

/-- A bundle with one present slot, as the 384-bit number of R18. The header flags CK and YD are given. -/
def encodeBundle1 (ck yd : Bool) (s : Slot) (bits : Nat) : Nat :=
  match s.place with
  | (mask, lo, _) => bit ck * 2 ^ 383 + bit yd * 2 ^ 382 + 2 ^ mask + bits * 2 ^ lo

/-- Word k of a bundle in a loose leaf, k from 1 to 24: bits [399 - 16k : 384 - 16k] (R28). -/
def leafWord (b k : Nat) : Nat := fld b (384 - 16 * k) 16

/-- The bundle number that 24 words of a loose leaf hold (R28). -/
def leafBundle (words : List Nat) : Nat := words.foldl (fun acc w => acc * 2 ^ 16 + w % 2 ^ 16) 0

/-- The words of a well-formed slot operation alone in a bundle: a loose leaf of 25 code words (R27, R28). YLD carries CK and
YD, as R21 asks. -/
def encode (i : Instr) : Option (List (BitVec 16)) :=
  (encodeSlot i).map fun bits =>
    let y := match i with | .yld _ _ => true | _ => false
    let b := encodeBundle1 y y i.homeSlot bits
    0xFFFF#16 :: (List.range 24).map fun k => BitVec.ofNat 16 (leafWord b (k + 1))

/-- The single operation of a bundle; none where the bundle is illegal or carries no operation or several. -/
def soleOp (b : Nat) : Option Instr :=
  match decodeBundle b with
  | .ok ⟨_, _, [(_, i)]⟩ => some i
  | _ => none

/-- The operation that 25 code words hold: the escape word and a literal bundle with one present slot (R27, R28). -/
def decodeWords (ws : List (BitVec 16)) : Option Instr :=
  match ws with
  | e :: rest => if e == 0xFFFF#16 && rest.length == 24 then soleOp (leafBundle (rest.map BitVec.toNat)) else none
  | [] => none

/-- The k-th code word of an instruction whose bits are numbered from the first word's least significant bit. -/
def tableWords (w : Nat) : List (BitVec 16) := (List.range 25).map fun k => BitVec.ofNat 16 (fld w (16 * k) 16)

/-- The instruction that the decoder reads from the code words of `w`, of which the table gives the low `nbits` bits; every
bit above them is zero. -/
def decodeTableWord (nbits w : Nat) : Option Instr := decodeWords (tableWords (w % 2 ^ nbits))

end Sys2Proof
end

