-- ==== Sys2Proof/Machine/Lanes.lean ====
section
/-! DEFINITION. The results of the vector operations as functions of their sources (R136 to R162): what is written to each
byte of the destination, and the flags. -/

namespace Sys2Proof.Machine

/-- What a vector operation writes to its destination: the bytes, which of them are written, the flags raised. -/
structure VRes where
  val   : VWord
  mask  : PWord
  flags : Flags
  deriving DecidableEq, Repr

/-- Element i of e bits (R48). -/
def elem (v : VWord) (e i : Nat) : Nat := fld v.toNat (e * i) e
/-- Elements packed from index 0 up. -/
def packN (e : Nat) (l : List Nat) : Nat := l.foldr (fun x acc => x % 2 ^ e + acc * 2 ^ e) 0
def packV (e : Nat) (l : List Nat) : VWord := BitVec.ofNat 1024 (packN e l)
/-- The byte lanes of the elements that are marked. -/
def laneMask (e : Nat) (l : List Bool) : PWord :=
  BitVec.ofNat 128 (packN (e / 8) (l.map fun b => if b then 2 ^ (e / 8) - 1 else 0))

/-- Elements that an operation of this width and element size has (R136). -/
def elemCount (w : Width) (e : Nat) : Nat := 8 * w.bytes / e

/-- Element i is active under the predicate (R48, R136). -/
def active (p : PWord) (e i : Nat) : Bool := p.getLsbD (e / 8 * i)

/-- A destination from what each of its elements takes: a value, or nothing. -/
def vresOf (e : Nat) (l : List (Option Nat)) (fl : Flags) : VRes :=
  ⟨packV e (l.map fun o => o.getD 0), laneMask e (l.map Option.isSome), fl⟩

/-- The union of the flags of the active elements. -/
def orFlags (l : List Flags) : Flags := l.foldl (· ||| ·) 0

/-- The rule of R137: active elements take their result, inactive ones merge or are zeroed. -/
def vmap (e n : Nat) (p : PWord) (zero : Bool) (res : Nat → Nat × Flags) : VRes :=
  let rs := (List.range n).map fun i =>
    if active p e i then (some (res i).1, (res i).2) else (if zero then some 0 else none, (0 : Flags))
  vresOf e (rs.map Prod.fst) (orFlags (rs.map Prod.snd))

/-- `vmap` with the fields of a vector slot. -/
def vmapF (f : VMode) (p : PWord) (res : Nat → Nat × Flags) : VRes :=
  vmap f.et.bits (elemCount f.w f.et.bits) p f.zero res

/-- An integer result wrapped, with no flag. -/
def iRes (e : Nat) (x : Int) : Nat × Flags := (wrapBits x e, 0)

/-- A floating result: one rounding into the element format (R138). -/
def eRes (f : Fmt) (t : Tctl) (r : FVal × Flags) : Nat × Flags :=
  match encodeF f t r.1 with
  | (b, fl) => (b, r.2 ||| fl)

/-- An elementwise operation by its integer and its floating meaning. -/
def arith2 (t : Tctl) (f : VMode) (p : PWord) (a b : VWord) (oi : Int → Int → Int)
    (of : Fmt → FVal → FVal → Nat × Flags) : VRes :=
  let e := f.et.bits
  vmapF f p fun i =>
    match ET.fmt f.et with
    | some fm => of fm (srcF fm t (elem a e i)) (srcF fm t (elem b e i))
    | none => iRes e (oi (intOf (elem a e i) e f.et.isSigned) (intOf (elem b e i) e f.et.isSigned))

def vAdd (t : Tctl) (f : VMode) (p : PWord) (a b : VWord) : VRes :=
  arith2 t f p a b (· + ·) fun fm x y => eRes fm t (FVal.add t.rm x y)
def vSub (t : Tctl) (f : VMode) (p : PWord) (a b : VWord) : VRes :=
  arith2 t f p a b (· - ·) fun fm x y => eRes fm t (FVal.add t.rm x y.negate)
def vMul (t : Tctl) (f : VMode) (p : PWord) (a b : VWord) : VRes :=
  arith2 t f p a b (· * ·) fun fm x y => eRes fm t (FVal.mul x y)
def vMulh (t : Tctl) (f : VMode) (p : PWord) (a b : VWord) : VRes :=
  arith2 t f p a b (fun x y => x * y / 2 ^ f.et.bits) fun _ _ _ => (0, 0)
def vMin (t : Tctl) (f : VMode) (p : PWord) (a b : VWord) : VRes :=
  arith2 t f p a b min fun fm x y => (bitsOf fm (FVal.fmin x y), 0)
def vMax (t : Tctl) (f : VMode) (p : PWord) (a b : VWord) : VRes :=
  arith2 t f p a b max fun fm x y => (bitsOf fm (FVal.fmax x y), 0)
def vAdds (t : Tctl) (f : VMode) (p : PWord) (a b : VWord) : VRes :=
  arith2 t f p a b (fun x y => satInt (x + y) f.et.bits f.et.isSigned) fun _ _ _ => (0, 0)
def vSubs (t : Tctl) (f : VMode) (p : PWord) (a b : VWord) : VRes :=
  arith2 t f p a b (fun x y => satInt (x - y) f.et.bits f.et.isSigned) fun _ _ _ => (0, 0)
def vAvg (t : Tctl) (f : VMode) (p : PWord) (a b : VWord) : VRes :=
  arith2 t f p a b (fun x y => (x + y + 1) / 2) fun _ _ _ => (0, 0)

/-- VFMA and VFMS: the old destination is the addend (R139). -/
def vFused (neg : Bool) (t : Tctl) (f : VMode) (p : PWord) (a b d : VWord) : VRes :=
  let e := f.et.bits
  vmapF f p fun i =>
    match ET.fmt f.et with
    | some fm =>
      let z := srcF fm t (elem d e i)
      eRes fm t (FVal.fma t.rm (srcF fm t (elem a e i)) (srcF fm t (elem b e i)) (if neg then z.negate else z))
    | none => (0, 0)

/-- VABS: wrap(|a|) for integers, the sign bit cleared for floating elements (R139, R140). -/
def vAbs (f : VMode) (p : PWord) (a : VWord) : VRes :=
  let e := f.et.bits
  vmapF f p fun i =>
    if f.et.isInt then iRes e ((intOf (elem a e i) e f.et.isSigned).natAbs : Int) else (elem a e i % 2 ^ (e - 1), 0)
/-- VNEG: wrap(−a), or the sign bit inverted. -/
def vNeg (f : VMode) (p : PWord) (a : VWord) : VRes :=
  let e := f.et.bits
  vmapF f p fun i =>
    if f.et.isInt then iRes e (-(intOf (elem a e i) e f.et.isSigned)) else (elem a e i ^^^ 2 ^ (e - 1), 0)

/-- A bitwise or shift operation on element patterns (R141, R142). -/
def bits2 (f : VMode) (p : PWord) (a b : VWord) (o : Nat → Nat → Nat) : VRes :=
  vmapF f p fun i => (o (elem a f.et.bits i) (elem b f.et.bits i), 0)
def bits1 (f : VMode) (p : PWord) (a : VWord) (o : Nat → Nat) : VRes :=
  vmapF f p fun i => (o (elem a f.et.bits i), 0)

def vAnd (f : VMode) (p : PWord) (a b : VWord) : VRes := bits2 f p a b (· &&& ·)
def vOr (f : VMode) (p : PWord) (a b : VWord) : VRes := bits2 f p a b (· ||| ·)
def vXor (f : VMode) (p : PWord) (a b : VWord) : VRes := bits2 f p a b (· ^^^ ·)
def vAndn (f : VMode) (p : PWord) (a b : VWord) : VRes :=
  bits2 f p a b fun x y => x &&& ((2 ^ f.et.bits - 1) ^^^ y)
def vNot (f : VMode) (p : PWord) (a : VWord) : VRes := bits1 f p a fun x => (2 ^ f.et.bits - 1) ^^^ x
def vShl (f : VMode) (p : PWord) (a b : VWord) : VRes := bits2 f p a b fun x c => shlN x c f.et.bits
def vShr (f : VMode) (p : PWord) (a b : VWord) : VRes := bits2 f p a b fun x c => shrN x c f.et.bits
def vSra (f : VMode) (p : PWord) (a b : VWord) : VRes := bits2 f p a b fun x c => sraN x c f.et.bits
def vClz (f : VMode) (p : PWord) (a : VWord) : VRes := bits1 f p a fun x => clzN x f.et.bits
def vPopc (f : VMode) (p : PWord) (a : VWord) : VRes := bits1 f p a fun x => popcN x f.et.bits

/-- What a lane-predicate destination takes: the bits and which of them are written. -/
structure PRes where
  val  : PWord
  mask : PWord
  deriving DecidableEq, Repr

/-- The byte lanes that an operation of this width covers. -/
def widthMask (w : Width) : PWord := BitVec.ofNat 128 (2 ^ w.bytes - 1)

/-- A relation of VCMP on two element patterns (R143). -/
def vRel (t : Tctl) (et : ET) (cc : FCond) (x y : Nat) : Bool :=
  match ET.fmt et with
  | some fm => FCond.holdsF cc (srcF fm t x) (srcF fm t y)
  | none =>
    let a := intOf x et.bits et.isSigned
    let b := intOf y et.bits et.isSigned
    match cc with
    | .eq => a == b | .ne => a != b | .lt => decide (a < b) | .le => decide (a ≤ b)
    | .gt => decide (b < a) | .ge => decide (b ≤ a) | .un => false | .or => true

/-- VCMP (R143). -/
def vCmp (t : Tctl) (w : Width) (p : PWord) (et : ET) (cc : FCond) (a b : VWord) : PRes :=
  let e := et.bits
  ⟨laneMask e ((List.range (elemCount w e)).map fun i => active p e i && vRel t et cc (elem a e i) (elem b e i)),
   widthMask w⟩

/-- VSEL (R144). -/
def vSel (w : Width) (p : PWord) (et : ET) (a b : VWord) : VRes :=
  let e := et.bits
  vresOf e ((List.range (elemCount w e)).map fun i => some (if active p e i then elem a e i else elem b e i)) 0

/-- The class bits of R145 of an encoding. -/
def classBits (fm : Fmt) (x : Nat) : Nat :=
  match fm.decode x with
  | .nan => 1
  | .inf n => if n then 2 else 256
  | .fin n m e =>
    if m = 0 then (if n then 16 else 32)
    else
      let sub := fld x fm.fb fm.eb == 0
      (match n, sub with | true, false => 4 | true, true => 8 | false, true => 64 | false, false => 128) +
        (if tiny m e then 512 else 0)
/-- VCLASS (R145). -/
def vClass (f : VMode) (p : PWord) (a : VWord) : VRes :=
  vmapF f p fun i =>
    match ET.fmt f.et with
    | some fm => (classBits fm (elem a f.et.bits i), 0)
    | none => (0, 0)

/-- VCVT and VCVTS (R146). -/
def vConvert (t : Tctl) (sats : Bool) (f : VMode) (src : ET) (p : PWord) (a : VWord) : VRes :=
  let ed := f.et.bits
  let m := elemCount f.w (max src.bits ed)
  let rs := (List.range (elemCount f.w ed)).map fun i =>
    if m ≤ i then (some 0, (0 : Flags))
    else if active p ed i then
      match convert t sats sats f.et src (elem a src.bits i) with
      | (y, fl) => (some y, fl)
    else (if f.zero then some 0 else none, 0)
  vresOf ed (rs.map Prod.fst) (orFlags (rs.map Prod.snd))

/-- The double type of R147. -/
def doubleType : ET → ET
  | .i8 => .i16 | .i16 => .i32 | .i32 => .i64 | .n8 => .n16 | .n16 => .n32 | .n32 => .n64
  | .bf16 => .fp32 | .fp16 => .fp32 | .e4m3 => .fp16 | .e5m2 => .fp16
  | .i64 => .i64 | .n64 => .n64 | .fp32 => .fp32

/-- VPACK (R147). -/
def vPack (t : Tctl) (f : VMode) (p : PWord) (a b : VWord) : VRes :=
  let e := f.et.bits
  let h := elemCount f.w e / 2
  vmapF f p fun i =>
    convert t true false f.et (doubleType f.et) (if i < h then elem a (2 * e) i else elem b (2 * e) (i - h))

/-- VUNPK (R148), with FTZ as every conversion has it (R79, R81). -/
def vUnpk (t : Tctl) (f : VMode) (p : PWord) (a : VWord) (half : Bool) : VRes :=
  let e := f.et.bits
  let n := elemCount f.w (2 * e)
  vmap (2 * e) n p f.zero fun i =>
    match ET.fmt f.et, ET.fmt (doubleType f.et) with
    | some fs, some fd => encodeF fd t (srcF fs t (elem a e (bit half * n + i)))
    | _, _ => iRes (2 * e) (intOf (elem a e (bit half * n + i)) e f.et.isSigned)

/-- The exact product x × 2^t. From ±4,096 on, a larger |t| changes no rounding of a format of R72, so t is cut there. -/
def scalePow (v : FVal) (t : Int) : FVal :=
  match v with
  | .fin n m e => .fin n m (e + max (-4096) (min t 4096))
  | _ => v
/-- VSCL (R149). -/
def vScl (t : Tctl) (f : VMode) (p : PWord) (a : VWord) (s : Word) : VRes :=
  vmapF f p fun i =>
    match ET.fmt f.et with
    | some fm => encodeF fm t (scalePow (srcF fm t (elem a f.et.bits i)) s.toInt)
    | none => (0, 0)

/-- VRND on one value (R150). -/
def rndVal (fm : Fmt) (rm : RM) (v : FVal) : Nat × Flags :=
  match v with
  | .fin n m e =>
    match roundInt m e n rm with
    | (y, exact) => (bitsOf fm (.fin n y 0), if exact then 0 else Flags.nx)
  | _ => (bitsOf fm v, 0)
def vRnd (t : Tctl) (f : VMode) (p : PWord) (a : VWord) : VRes :=
  vmapF f p fun i =>
    match ET.fmt f.et with
    | some fm => rndVal fm t.rm (srcF fm t (elem a f.et.bits i))
    | none => (0, 0)

/-- VADDI, VMULI and VANDI (R151). -/
def vImm (f : VMode) (p : PWord) (a : VWord) (imm : Int) (o : Int → Int → Int) : VRes :=
  vmapF f p fun i => iRes f.et.bits (o (intOf (elem a f.et.bits i) f.et.bits f.et.isSigned) imm)
def vAndi (f : VMode) (p : PWord) (a : VWord) (imm : Int) : VRes :=
  bits1 f p a fun x => x &&& wrapBits imm f.et.bits
/-- VBC (R151). -/
def vBc (f : VMode) (p : PWord) (s : Word) : VRes := vmapF f p fun _ => (fld s.toNat 0 f.et.bits, 0)
/-- VLDI (R151). -/
def vLdi (f : VMode) (p : PWord) (imm : Int) : VRes := vmapF f p fun _ => iRes f.et.bits imm

/-- Reading source element j: zero unless j < n and element j is active (R152). -/
def pick (a : VWord) (p : PWord) (e n j : Nat) : Nat := if j < n && active p e j then elem a e j else 0

def vPerm (f : VMode) (p : PWord) (a b : VWord) : VRes :=
  let e := f.et.bits
  vmapF f p fun i => (pick a p e (elemCount f.w e) (elem b e i), 0)
def vRot (f : VMode) (p : PWord) (a : VWord) (s : Word) : VRes :=
  let e := f.et.bits
  let n := elemCount f.w e
  vmapF f p fun i => (pick a p e n ((i + s.toNat % n) % n), 0)
def vSld (f : VMode) (p : PWord) (a : VWord) (s : Word) : VRes :=
  let e := f.et.bits
  vmapF f p fun i => (pick a p e (elemCount f.w e) (i + s.toNat), 0)
/-- VEXT (R154). -/
def vExt (f : VMode) (p : PWord) (a : VWord) (s : Word) : Word :=
  let e := f.et.bits
  word (intOf (pick a p e (elemCount f.w e) s.toNat) e f.et.isSigned)
/-- VINS (R154): the elements it writes; the others keep their value. -/
def vIns (f : VMode) (p : PWord) (a s : Word) : VRes :=
  let e := f.et.bits
  vresOf e ((List.range (elemCount f.w e)).map fun i =>
    if active p e i then (if i = s.toNat then some (fld a.toNat 0 e) else none)
    else if f.zero then some 0 else none) 0

/-- Active elements below i. -/
def rankOf (p : PWord) (e i : Nat) : Nat := ((List.range i).filter (active p e)).length
def vIota (f : VMode) (p : PWord) : VRes := vmapF f p fun i => (wrapBits (rankOf p f.et.bits i) f.et.bits, 0)
/-- VCMPR (R155). -/
def vCmpr (f : VMode) (p : PWord) (a : VWord) : VRes :=
  let e := f.et.bits
  let n := elemCount f.w e
  let srcs := ((List.range n).filter (active p e)).map (elem a e)
  vresOf e ((List.range n).map fun i => match srcs[i]? with | some x => some x | none => if f.zero then some 0 else none) 0
/-- VXPND (R155). -/
def vXpnd (f : VMode) (p : PWord) (a : VWord) : VRes :=
  vmapF f p fun i => (elem a f.et.bits (rankOf p f.et.bits i), 0)

/-- Bytes of a result at byte 0, zeros up to the width (R156, R162). -/
def headRes (w : Width) (val : Nat) (fl : Flags) : VRes := ⟨BitVec.ofNat 1024 val, widthMask w, fl⟩

/-- A reduction node on binary32 patterns with the flags so far (R90, R156). -/
def fNode (t : Tctl) (o : FVal → FVal → FVal × Flags) (x y : Nat × Flags) : Nat × Flags :=
  match eRes .fp32 t (o (srcF .fp32 t x.1) (srcF .fp32 t y.1)) with
  | (b, fl) => (b, x.2 ||| y.2 ||| fl)

/-- A node of VRMAX or VRMIN: the larger or the smaller source, flushed under FTZ (R90), with no flag (R80, R156). -/
def fPickNode (t : Tctl) (o : FVal → FVal → FVal) (x y : Nat × Flags) : Nat × Flags :=
  ((encodeF .fp32 t (o (srcF .fp32 t x.1) (srcF .fp32 t y.1))).1, 0)

/-- An integer reduction written as wrap(r, 64) (R156). -/
def reduceI (w : Width) (o : Int → Int → Int) (levels : Nat) (leaves : List Int) : VRes :=
  headRes w (wrapBits ((treeReduce o levels leaves).headD 0) 64) 0
def reduceF (w : Width) (node : Nat × Flags → Nat × Flags → Nat × Flags) (levels : Nat) (leaves : List (Nat × Flags)) : VRes :=
  match (treeReduce node levels leaves).headD (0, 0) with
  | (b, fl) => headRes w b fl

/-- VRADD, VRMAX and VRMIN by their node operations and their identities (R156). -/
def vReduce (f : VMode) (p : PWord) (a : VWord) (oi : Int → Int → Int) (idI : Int)
    (node : Nat × Flags → Nat × Flags → Nat × Flags) (idF : FVal) : VRes :=
  let e := f.et.bits
  let n := elemCount f.w e
  match ET.fmt f.et with
  | some fm => reduceF f.w node (Nat.log2 n) ((List.range n).map fun i =>
      (bitsOf .fp32 (if active p e i then fm.decode (elem a e i) else idF), 0))
  | none => reduceI f.w oi (Nat.log2 n) ((List.range n).map fun i =>
      if active p e i then intOf (elem a e i) e f.et.isSigned else idI)

/-- The least and the greatest integer of a type (R75). -/
def minInt (et : ET) : Int := if et.isSigned then -(2 ^ (et.bits - 1)) else 0
def maxInt (et : ET) : Int := if et.isSigned then 2 ^ (et.bits - 1) - 1 else 2 ^ et.bits - 1

def vRadd (t : Tctl) (f : VMode) (p : PWord) (a : VWord) : VRes :=
  vReduce f p a (· + ·) 0 (fNode t (FVal.add t.rm)) (.zero true)
def vRmax (t : Tctl) (f : VMode) (p : PWord) (a : VWord) : VRes :=
  vReduce f p a max (minInt f.et) (fPickNode t FVal.fmax) (.inf true)
def vRmin (t : Tctl) (f : VMode) (p : PWord) (a : VWord) : VRes :=
  vReduce f p a min (maxInt f.et) (fPickNode t FVal.fmin) (.inf false)

/-- VDOT (R157). -/
def vDot (t : Tctl) (f : VMode) (p : PWord) (a b : VWord) : VRes :=
  let e := f.et.bits
  let n := elemCount f.w e
  match ET.fmt f.et with
  | some fm => reduceF f.w (fNode t (FVal.add t.rm)) (Nat.log2 n) ((List.range n).map fun i =>
      if active p e i then eRes .fp32 t (FVal.mul (srcF fm t (elem a e i)) (srcF fm t (elem b e i)))
      else (bitsOf .fp32 (.zero true), 0))
  | none => reduceI f.w (· + ·) (Nat.log2 n) ((List.range n).map fun i =>
      if active p e i then intOf (elem a e i) e f.et.isSigned * intOf (elem b e i) e f.et.isSigned else 0)

/-- PFIRST (R159). -/
def pFirst (w : Width) (et : ET) (p : PWord) : PRes :=
  let n := elemCount w et.bits
  let k := ((List.range n).find? (active p et.bits)).getD n
  ⟨laneMask et.bits ((List.range n).map fun i => i == k), widthMask w⟩
/-- PCNT (R159). -/
def pCnt (w : Width) (et : ET) (p : PWord) : Word := wordN (rankOf p et.bits (elemCount w et.bits))
/-- PLEN (R159). -/
def pLen (w : Width) (et : ET) (s : Word) : PRes :=
  ⟨laneMask et.bits ((List.range (elemCount w et.bits)).map fun i => decide (i < s.toNat)), widthMask w⟩

/-- The bytes of a register from byte `lo` on. -/
def vBytes (v : VWord) (lo n : Nat) : List Byte := (List.range n).map fun i => BitVec.ofNat 8 (fld v.toNat (8 * (lo + i)) 8)
/-- A number from its bytes, little-endian (R6). -/
def leNat (l : List Byte) : Nat := l.foldr (fun b acc => b.toNat + acc * 256) 0
/-- The n bytes of a number, little-endian. -/
def leBytes (x n : Nat) : List Byte := (List.range n).map fun i => BitVec.ofNat 8 (x / 256 ^ i)

/-- VPLN (R160). -/
def vPln (f : VMode) (pl : Nat) (p : PWord) (a : VWord) : VRes :=
  let e := f.et.bits
  let blk := fun b => planesOf ((List.range 64).map fun k =>
    if active p e (64 * b + k) then satInt (intOf (elem a e (64 * b + k)) e true) pl true else 0) pl
  headRes f.w (leNat (((List.range (8 * f.w.bytes / (64 * e))).map blk).flatten)) 0
/-- VUPLN (R161). -/
def vUpln (f : VMode) (pl : Nat) (p : PWord) (a : VWord) : VRes :=
  vmapF f p fun i => iRes f.et.bits (npRead (vBytes a (8 * pl * (i / 64)) (8 * pl)) pl (i % 64))

/-- VBSC (R162). -/
def vBsc (t : Tctl) (f : VMode) (p : PWord) (a : VWord) : VRes :=
  let e := f.et.bits
  match ET.fmt f.et with
  | some fm =>
    let vs := ((List.range (elemCount f.w e)).filter (active p e)).map fun i => srcF fm t (elem a e i)
    match npEncodeBlock vs 8 t with
    | (sc, _, _) => headRes f.w sc (if vs.any FVal.isInf then Flags.nv else 0)
  | none => headRes f.w 0 0

end Sys2Proof.Machine
end

