-- ==== Sys2Proof/Config.lean ====
section
/-! DEFINITION. What the manual leaves open, as free values: opaque constants with no body, so that no proof can see which
value they take, and a claim holds whatever they are (log entry 1). -/

namespace Sys2Proof.Config

/-- An undefined value (R11) or a value that the manual leaves to the device: the bits of the free value number `k`.
`k` is the counter `State.free` at the moment at which the value came to be, with an index for the places it fills. -/
opaque freeNat : Nat → Nat → Nat

/-- The landing clock that a result takes within its window t+1 to t+L (R37): the offset into the window. -/
opaque landing : Nat → Nat

/-- The binary32 value that a special function other than FRCP and FSQRT delivers, among those within the bound of R168:
by function and source bits. A value outside the bound is not taken. -/
opaque fPick : Nat → Nat → Nat

/-- A choice among outcomes that a rule leaves open (R12), by the number of the choice. -/
opaque choice : Nat → Nat → Nat

/-- Which of the values that race for a byte of a window a read returns, or a join leaves (R206, R274): by time, slot and address. -/
opaque raced : Nat → Nat → Nat → Nat

/-- Whether the coded stream of a tile of these bytes fits 160 bytes: the lossless coding is the controller's own (R325). -/
opaque packable : List (BitVec 8) → Bool

/-- The bodies of the shipped transform images, in load order (R216, R382). -/
opaque shippedImages : List (List (BitVec 8))

/-- The bits of free value `k`, place `i`, at a width. -/
def freeBits (w k i : Nat) : BitVec w := BitVec.ofNat w (freeNat k i)

end Sys2Proof.Config
end

