-- ==== Sys2Proof/Machine/Sha3.lean ====
section
/-! DEFINITION. SHA3-256, SHAKE128 and SHAKE256 as FIPS 202 defines them (R383, R384, log entry 83). -/

namespace Sys2Proof.Machine

/-- The 25 lanes of the sponge's permutation, the lane of column x and plane y at place 5y + x. -/
abbrev Sponge := List (BitVec 64)
def Sponge.lane (a : Sponge) (x y : Nat) : BitVec 64 := a.getD (5 * (y % 5) + x % 5) 0
/-- A state given lane by lane. -/
def Sponge.of (f : Nat → Nat → BitVec 64) : Sponge := ((List.range 5).map fun y => (List.range 5).map fun x => f x y).flatten

/-- x^t modulo x^8 + x^6 + x^5 + x^4 + 1 over GF(2). -/
def spongeLfsr : Nat → Nat
  | 0 => 1
  | t + 1 => let r := 2 * spongeLfsr t; if r < 256 then r else r ^^^ 0x171
/-- What iota adds to lane (0, 0) in round i: bit 2^j - 1 is the low bit of x^(j + 7i). -/
def spongeIota (i : Nat) : BitVec 64 :=
  BitVec.ofNat 64 ((List.range 7).foldl (fun acc j => acc + spongeLfsr (7 * i + j) % 2 * 2 ^ (2 ^ j - 1)) 0)
/-- The walk of rho and pi: step t moves lane p, rotated by (t + 1)(t + 2)/2, to the place that the walk reaches next. Each entry: the lane's
new place, its old one, the rotation. -/
def spongeWalk : Nat → Nat → Nat × Nat → List (Nat × (Nat × Nat) × Nat)
  | 0, _, _ => []
  | n + 1, t, p =>
    let q := (p.2, (2 * p.1 + 3 * p.2) % 5)
    (5 * q.2 + q.1, p, (t + 1) * (t + 2) / 2 % 64) :: spongeWalk n (t + 1) q
/-- Rho and pi as a table: for each place, the lane that comes there and its rotation. Lane (0, 0) stays. -/
def spongeMoves : List ((Nat × Nat) × Nat) :=
  let w := spongeWalk 24 0 (1, 0)
  (List.range 25).map fun i => match w.find? (·.1 == i) with | some m => m.2 | none => ((0, 0), 0)

/-- Theta, rho and pi, chi, and iota of a round. -/
def Sponge.theta (a : Sponge) : Sponge :=
  let sums := (List.range 5).map fun x => a.lane x 0 ^^^ a.lane x 1 ^^^ a.lane x 2 ^^^ a.lane x 3 ^^^ a.lane x 4
  let mix := (List.range 5).map fun x => sums.getD ((x + 4) % 5) 0 ^^^ (sums.getD ((x + 1) % 5) 0).rotateLeft 1
  Sponge.of fun x y => a.lane x y ^^^ mix.getD x 0
def Sponge.shuffle (a : Sponge) (moves : List ((Nat × Nat) × Nat)) : Sponge := moves.map fun m => (a.lane m.1.1 m.1.2).rotateLeft m.2
def Sponge.chi (a : Sponge) : Sponge := Sponge.of fun x y => a.lane x y ^^^ (a.lane (x + 2) y &&& ~~~a.lane (x + 1) y)
def Sponge.iota (a : Sponge) (c : BitVec 64) : Sponge := match a with | l :: rest => (l ^^^ c) :: rest | [] => []
/-- The permutation: 24 rounds. -/
def Sponge.permute (a : Sponge) : Sponge :=
  let moves := spongeMoves
  (List.range 24).foldl (fun (s : Sponge) i => ((s.theta.shuffle moves).chi).iota (spongeIota i)) a

/-- A block of bytes added to the first lanes. -/
def Sponge.addBlock (a : Sponge) (block : List Byte) : Sponge :=
  ((List.range 25).zip a).map fun l => l.2 ^^^ BitVec.ofNat 64 (leNat ((block.drop (8 * l.1)).take 8))
/-- The bytes of the lanes. -/
def Sponge.bytes (a : Sponge) : List Byte := (a.map fun l => leBytes l.toNat 8).flatten
/-- Blocks of a rate taken in. -/
def Sponge.absorb (rate : Nat) (a : Sponge) (m : List Byte) : Nat → Sponge
  | 0 => a
  | n + 1 => ((a.addBlock (m.take rate)).permute).absorb rate (m.drop rate) n
/-- So many blocks of a rate given out. -/
def Sponge.squeeze (rate : Nat) (a : Sponge) : Nat → List Byte
  | 0 => []
  | n + 1 => a.bytes.take rate ++ a.permute.squeeze rate n
/-- A message brought to whole blocks: the suffix of the function with the first padding bit, zeros, and the last padding bit. -/
def spongePad (rate suffix : Nat) (m : List Byte) : List Byte :=
  let room := rate - m.length % rate
  m ++ ((List.range room).map fun i => BitVec.ofNat 8 ((if i = 0 then suffix else 0) + (if i + 1 = room then 0x80 else 0)))
/-- The first n bytes that a message gives under a rate and a suffix. -/
def spongeOf (rate suffix n : Nat) (m : List Byte) : List Byte :=
  ((Sponge.of fun _ _ => 0).absorb rate (spongePad rate suffix m) (m.length / rate + 1) |>.squeeze rate ((n + rate - 1) / rate)).take n
def shake128 (n : Nat) (m : List Byte) : List Byte := spongeOf 168 0x1F n m
def shake256 (n : Nat) (m : List Byte) : List Byte := spongeOf 136 0x1F n m
/-- SHA3-256: the digest as a number, its first byte in bits 7 to 0. -/
def sha3 (m : List Byte) : BitVec 256 := BitVec.ofNat 256 (leNat (spongeOf 136 0x06 32 m))

end Sys2Proof.Machine
end

