-- ==== Sys2Proof/Machine/MlDsa.lean ====
section
/-! DEFINITION. ML-DSA-44 as FIPS 204 defines it (R383, R384, log entry 83): key generation, signing, verification. -/

namespace Sys2Proof.Machine

/-- The modulus, and the parameters of ML-DSA-44: d, tau, gamma1, gamma2, beta, omega; its matrix is 4 by 4 and eta is 2. -/
def dsaQ : Nat := 8380417
def dsaD : Nat := 13
def dsaTau : Nat := 39
def dsaGamma1 : Nat := 131072
def dsaGamma2 : Nat := 95232
def dsaBeta : Nat := 78
def dsaOmega : Nat := 80

/-- A polynomial of degree below 256, its coefficients modulo q; a vector of four. -/
abbrev Poly := List Nat
abbrev PolyVec := List Poly
def Poly.add (a b : Poly) : Poly := List.zipWith (fun x y => (x + y) % dsaQ) a b
def Poly.sub (a b : Poly) : Poly := List.zipWith (fun x y => (x + dsaQ - y) % dsaQ) a b
def Poly.mul (a b : Poly) : Poly := List.zipWith (fun x y => x * y % dsaQ) a b
def Poly.scale (c : Nat) (a : Poly) : Poly := a.map fun x => c * x % dsaQ
def Poly.zero : Poly := List.replicate 256 0

/-- 1753^n modulo q. -/
def dsaRoot : Nat → Nat
  | 0 => 1
  | n + 1 => 1753 * dsaRoot n % dsaQ
/-- The eight bits of a number in reverse. -/
def rev8 (k : Nat) : Nat := (List.range 8).foldl (fun acc i => acc + k / 2 ^ i % 2 * 2 ^ (7 - i)) 0
/-- The powers of 1753 below its order, 512. -/
def dsaRoots : List Nat := (List.range 512).map dsaRoot
/-- The transform of a piece of a polynomial: node k of the tree of butterflies, of so many levels. -/
def nttNode (roots : List Nat) : Nat → Nat → Poly → Poly
  | 0, _, a => a
  | n + 1, k, a =>
    let lo := a.take (2 ^ n)
    let hi := Poly.scale (roots.getD (rev8 k) 0) (a.drop (2 ^ n))
    nttNode roots n (2 * k) (Poly.add lo hi) ++ nttNode roots n (2 * k + 1) (Poly.sub lo hi)
/-- Its inverse, but for the factor 2 of each level. -/
def inttNode (roots : List Nat) : Nat → Nat → Poly → Poly
  | 0, _, a => a
  | n + 1, k, a =>
    let lo := inttNode roots n (2 * k) (a.take (2 ^ n))
    let hi := inttNode roots n (2 * k + 1) (a.drop (2 ^ n))
    Poly.add lo hi ++ Poly.scale (roots.getD (512 - rev8 k) 0) (Poly.sub lo hi)
def Poly.ntt (a : Poly) : Poly := nttNode dsaRoots 8 1 a
/-- 8347681 is the inverse of 256. -/
def Poly.intt (a : Poly) : Poly := Poly.scale 8347681 (inttNode dsaRoots 8 1 a)

/-- Numbers of b bits packed into bytes, the first lowest, and unpacked. -/
def packBits (b : Nat) (xs : List Nat) : List Byte := leBytes (xs.foldr (fun x acc => x + 2 ^ b * acc) 0) (b * xs.length / 8)
def unpackBits (b n : Nat) (bs : List Byte) : List Nat :=
  let x := leNat bs
  (List.range n).map fun i => x / 2 ^ (b * i) % 2 ^ b
/-- Coefficients from `top` down, packed as their distance from it. -/
def packFrom (top b : Nat) (a : Poly) : List Byte := packBits b (a.map fun x => (top + dsaQ - x) % dsaQ)
def unpackFrom (top b : Nat) (bs : List Byte) : Poly := (unpackBits b 256 bs).map fun x => (top + dsaQ - x) % dsaQ
/-- The pieces of n bytes of a list, so many of them. -/
def bytePieces (n k : Nat) (bs : List Byte) : List (List Byte) := (List.range k).map fun i => (bs.drop (n * i)).take n

/-- The coefficients below q among groups of three bytes, 23 bits of each. -/
def dsaUniform : List Byte → List Nat
  | a :: b :: c :: rest =>
    let z := a.toNat + 256 * b.toNat + 65536 * (c.toNat % 128)
    if z < dsaQ then z :: dsaUniform rest else dsaUniform rest
  | _ => []
/-- The coefficients between -2 and 2 among half bytes. -/
def dsaSmall (bs : List Byte) : List Nat :=
  ((bs.map fun b => [b.toNat % 16, b.toNat / 16]).flatten).filterMap fun h => if h < 15 then some ((2 + dsaQ - h % 5) % dsaQ) else none
/-- The matrix that a seed gives, row by row, in the transformed domain. From 1,344 bytes of the stream come 256 coefficients but with a
chance that FIPS 204 neglects (log entry 83). -/
def dsaMatrix (rho : List Byte) : List PolyVec :=
  (List.range 4).map fun r => (List.range 4).map fun c =>
    (dsaUniform (shake128 1344 (rho ++ [BitVec.ofNat 8 c, BitVec.ofNat 8 r]))).take 256
/-- The secret polynomial of a number. -/
def dsaSecret (seed : List Byte) (i : Nat) : Poly := (dsaSmall (shake256 544 (seed ++ leBytes i 2))).take 256
/-- The masking polynomial of a number. -/
def dsaMask (seed : List Byte) (i : Nat) : Poly := unpackFrom dsaGamma1 18 (shake256 576 (seed ++ leBytes i 2))
/-- The challenge's polynomial: coefficient i changes place with one at or below it, as the bytes name it, for the last 39 of them. -/
def dsaBallStep (signs : Nat) : Nat → Nat → Poly → List Byte → Poly
  | _, _, c, [] => c
  | 0, _, c, _ => c
  | n + 1, i, c, j :: rest =>
    if i < j.toNat then dsaBallStep signs (n + 1) i c rest
    else dsaBallStep signs n (i + 1) ((c.set i (c.getD j.toNat 0)).set j.toNat (if signs.testBit (i + dsaTau - 256) then dsaQ - 1 else 1)) rest
def dsaBall (seed : List Byte) : Poly :=
  let s := shake256 408 seed
  dsaBallStep (leNat (s.take 8)) dsaTau (256 - dsaTau) Poly.zero (s.drop 8)

/-- A row of the matrix times a vector, both transformed. -/
def dsaDot (a b : PolyVec) : Poly := (List.zipWith Poly.mul a b).foldl Poly.add Poly.zero
/-- The matrix times a vector, transformed back. -/
def dsaApply (m : List PolyVec) (v : PolyVec) : PolyVec := m.map fun row => (dsaDot row v).intt
/-- The magnitude of a coefficient, and the greatest of a vector. -/
def dsaMag (x : Nat) : Nat := min x (dsaQ - x)
def PolyVec.norm (v : PolyVec) : Nat := v.flatten.foldl (fun m x => max m (dsaMag x)) 0

/-- High part, and low part between -gamma2 and gamma2, of a coefficient. -/
def dsaDecompose (r : Nat) : Nat × Int :=
  let a := 2 * dsaGamma2
  let lo : Int := if r % a ≤ dsaGamma2 then (r % a : Nat) else (r % a : Nat) - (a : Int)
  if (r : Int) - lo = (dsaQ : Int) - 1 then (0, lo - 1) else (((r : Int) - lo).toNat / a, lo)
def dsaHigh (r : Nat) : Nat := (dsaDecompose r).1
/-- The high part corrected by a hint: one of 44, the next where the low part is positive. -/
def dsaUseHint (h : Bool) (r : Nat) : Nat :=
  match dsaDecompose r with
  | (hi, lo) => if h then (if 0 < lo then (hi + 1) % 44 else (hi + 43) % 44) else hi
/-- The bytes of the high parts. -/
def dsaHighBytes (v : PolyVec) : List Byte := (v.map (packBits 6)).flatten

/-- A public key read: its seed, and the high part of t times 2^d. -/
def dsaPublic (key : List Byte) : List Byte × PolyVec :=
  (key.take 32, (bytePieces 320 4 (key.drop 32)).map fun p => Poly.scale (2 ^ dsaD) (unpackBits 10 256 p))
/-- The hints of a signature: for each polynomial, the places of its ones, rising; none where they are not laid out so. -/
def dsaHintsFrom (y : List Nat) : Nat → Nat → Nat → Option (List (List Nat))
  | 0, _, first => if (y.take dsaOmega).drop first |>.all (· == 0) then some [] else none
  | n + 1, i, first =>
    let last := y.getD (dsaOmega + i) 0
    if last < first ∨ dsaOmega < last then none
    else
      let ones := (y.drop first).take (last - first)
      if (List.zipWith (fun a b => decide (a < b)) ones (ones.drop 1)).all id then (dsaHintsFrom y n (i + 1) last).map (ones :: ·) else none
def dsaHints (y : List Byte) : Option (List (List Nat)) := dsaHintsFrom (y.map (·.toNat)) 4 0 0
/-- The message as the pure form with an empty context string has it, under a public key's digest: the representative that is signed. -/
def dsaRepr (tr m : List Byte) : List Byte := shake256 64 (tr ++ [0, 0] ++ m)
/-- A signature verifies: public key, message, signature. -/
def dsaVerify (key m sig : List Byte) : Bool :=
  let pk := dsaPublic key
  let c0 := sig.take 32
  let z : PolyVec := (bytePieces 576 4 (sig.drop 32)).map (unpackFrom dsaGamma1 18)
  decide (key.length = 1312) && decide (sig.length = 2420) && match dsaHints (sig.drop 2336) with
  | none => false
  | some hints =>
    let c := (dsaBall c0).ntt
    let az := (dsaMatrix pk.1).map fun row => dsaDot row (z.map Poly.ntt)
    let w := List.zipWith (fun a t => (Poly.sub a (Poly.mul c (Poly.ntt t))).intt) az pk.2
    let w1 := List.zipWith (fun (p : Poly) (h : List Nat) => ((List.range 256).zip p).map fun x => dsaUseHint (h.contains x.1) x.2) w hints
    decide (z.norm < dsaGamma1 - dsaBeta) && shake256 32 (dsaRepr (shake256 64 key) m ++ dsaHighBytes w1) == c0

/-- A coefficient cut at 2^d: the high part, and the low one above -2^(d-1). -/
def dsaCut (r : Nat) : Nat × Nat :=
  let lo := r % 2 ^ dsaD
  if lo ≤ 2 ^ (dsaD - 1) then (r / 2 ^ dsaD, lo) else (r / 2 ^ dsaD + 1, (lo + dsaQ - 2 ^ dsaD) % dsaQ)
/-- What a seed of 32 bytes gives: the matrix seed, the signing seed, and the vectors s1, s2 and t. -/
structure DsaKey where
  rho  : List Byte
  k    : List Byte
  s1   : PolyVec
  s2   : PolyVec
  t    : PolyVec
def dsaKey (seed : List Byte) : DsaKey :=
  let x := shake256 128 (seed ++ [4, 4])
  let small := (List.range 8).map (dsaSecret ((x.drop 32).take 64))
  let s1 := small.take 4
  ⟨x.take 32, x.drop 96, s1, small.drop 4, List.zipWith Poly.add (dsaApply (dsaMatrix (x.take 32)) (s1.map Poly.ntt)) (small.drop 4)⟩
/-- The public key of a key pair. -/
def DsaKey.public (k : DsaKey) : List Byte := k.rho ++ (k.t.map fun p => packBits 10 (p.map fun r => (dsaCut r).1)).flatten
/-- One attempt at a signature with the masks from a number on; none where it must be made again. -/
def DsaKey.attempt (k : DsaKey) (mu masks : List Byte) (kappa : Nat) : Option (List Byte) :=
  let y := (List.range 4).map fun r => dsaMask masks (kappa + r)
  let w := dsaApply (dsaMatrix k.rho) (y.map Poly.ntt)
  let c0 := shake256 32 (mu ++ dsaHighBytes (w.map fun p => p.map dsaHigh))
  let c := (dsaBall c0).ntt
  let by_ := fun (v : PolyVec) => v.map fun p => (Poly.mul c p.ntt).intt
  let z : PolyVec := List.zipWith Poly.add y (by_ k.s1)
  let ws : PolyVec := List.zipWith Poly.sub w (by_ k.s2)
  let lows := ws.flatten.foldl (fun m r => max m (dsaDecompose r).2.natAbs) 0
  let t0 : PolyVec := by_ (k.t.map fun p => p.map fun r => (dsaCut r).2)
  let hints := List.zipWith (fun (a b : Poly) => ((List.range 256).zip (a.zip b)).filterMap fun x =>
    if dsaHigh x.2.1 ≠ dsaHigh ((x.2.1 + x.2.2) % dsaQ) then some x.1 else none) ws t0
  let ends := (List.range 4).map fun i => ((hints.take (i + 1)).map List.length).sum
  let count := ends.getD 3 0
  if dsaGamma1 - dsaBeta ≤ z.norm ∨ dsaGamma2 - dsaBeta ≤ lows ∨ dsaGamma2 ≤ t0.norm ∨ dsaOmega < count then none
  else some (c0 ++ (z.map (packFrom dsaGamma1 18)).flatten
    ++ (hints.flatten ++ List.replicate (dsaOmega - count) 0 ++ ends).map (BitVec.ofNat 8))
/-- Attempts until one gives a signature, at most so many. -/
def DsaKey.tries (k : DsaKey) (mu masks : List Byte) (kappa : Nat) : Nat → Option (List Byte)
  | 0 => none
  | n + 1 => (k.attempt mu masks kappa).orElse fun _ => k.tries mu masks (kappa + 4) n
/-- The signature of a message with 32 random bytes; none after 814 attempts, the least bound that FIPS 204 allows (log entry 83). -/
def DsaKey.sign (k : DsaKey) (m random : List Byte) : Option (List Byte) :=
  let mu := dsaRepr (shake256 64 k.public) m
  k.tries mu (shake256 64 (k.k ++ random ++ mu)) 0 814

end Sys2Proof.Machine
end

