-- ==== Sys2Proof/Machine/Store.lean ====
section
/-! DEFINITION. The plain containers of the state: numbered places in one canonical form (indices strictly rising, no entry
equal to what an unlisted index reads as), tables by number, and memory as a list of cells in the same form. -/

namespace Sys2Proof.Machine

/-- Numbered places: those listed hold their value, every other one the default. -/
abbrev Store (α : Type) := List (Nat × α)

/-- The value at an index. -/
def Store.get {α : Type} (d : α) : Store α → Nat → α
  | [], _ => d
  | (k, v) :: rest, i => if k = i then v else Store.get d rest i

/-- A value put at an index, as an entry. -/
def Store.put {α : Type} (i : Nat) (v : α) : Store α → Store α
  | [] => [(i, v)]
  | (k, w) :: rest =>
    if i < k then (i, v) :: (k, w) :: rest
    else if k = i then (k, v) :: rest
    else (k, w) :: Store.put i v rest

/-- The entry at an index taken away. -/
def Store.del {α : Type} (i : Nat) : Store α → Store α
  | [] => []
  | (k, w) :: rest => if k = i then rest else (k, w) :: Store.del i rest

/-- A value written at an index; the default removes the entry. -/
def Store.set {α : Type} [DecidableEq α] (d : α) (m : Store α) (i : Nat) (v : α) : Store α :=
  if v = d then Store.del i m else Store.put i v m

/-- The entry at an index, if the table has one. -/
def Store.look {α : Type} : Store α → Nat → Option α
  | [], _ => none
  | (k, v) :: rest, i => if k = i then some v else Store.look rest i

/-- Indices strictly rising. -/
def Store.sorted {α : Type} : Store α → Bool
  | [] => true
  | [_] => true
  | (a, _) :: (b, v) :: rest => decide (a < b) && Store.sorted ((b, v) :: rest)

/-- The lowest index below `n` that the table does not list. -/
def Store.fresh {α : Type} (m : Store α) (lo : Nat) : Nat → Option Nat
  | 0 => none
  | n + 1 => if (Store.look m lo).isNone then some lo else Store.fresh m (lo + 1) n

/-- Memory: bytes by address; an unlisted address reads as 0 (R309, R351: a page never allocated and a tensor never
written read as zero). -/
abbrev Memory := List Host.Cell

/-- What an unlisted address reads as. -/
def Memory.unlisted : BitVec 8 := 0

def Memory.byte (m : Memory) (a : Nat) : BitVec 8 := Store.get Memory.unlisted m a
def Memory.setByte (m : Memory) (a : Nat) (b : BitVec 8) : Memory := Store.set Memory.unlisted m a b
/-- Bytes from an address upwards. -/
def Memory.setBytes (m : Memory) (a : Nat) : List (BitVec 8) → Memory
  | [] => m
  | b :: rest => Memory.setBytes (Memory.setByte m a b) (a + 1) rest
def Memory.bytes (m : Memory) (a n : Nat) : List (BitVec 8) := (List.range n).map fun i => Memory.byte m (a + i)
/-- Every listed byte of a range taken away, so that the range reads as zero. -/
def Memory.clear (m : Memory) (lo hi : Nat) : Memory := m.filter fun c => decide (c.1 < lo) || decide (hi ≤ c.1)
/-- The canonical form. -/
def Memory.wf (m : Memory) : Bool := Store.sorted m && m.all fun c => c.2 != Memory.unlisted

end Sys2Proof.Machine
end

