-- ==== Sys2Proof/Machine/TaskState.lean ====
section
/-! DEFINITION. The state of a task (R45 to R59, R246 to R265), of its copies (R197 to R218) and of the work it belongs to
(R287 to R308). -/

namespace Sys2Proof.Machine

/-- An entry of a hold list, or the range of a handle (R50, R247). Mode: 1 r, 2 w, 3 rw. -/
structure Hold where
  id    : Nat
  first : Nat
  count : Nat
  mode  : Nat
  deriving DecidableEq, Repr

/-- What a handle is bound to; `own` marks a tensor that TDEF created (R50, R241). -/
structure Binding where
  hold : Hold
  own  : Bool
  deriving DecidableEq, Repr

/-- The task header of R246. -/
structure Header where
  topup   : Bool
  seq     : Bool
  sys     : Bool
  restart : Bool
  tv      : Bool
  frame   : Nat
  window  : Nat
  tiles   : Nat
  plan    : List Nat
  span    : Nat
  tctl    : Nat
  bgi     : Nat
  bgt     : Nat
  code    : Nat
  blend   : Nat
  carry   : Nat
  entry   : Nat
  trap    : Nat
  cont    : Nat
  holds   : List Hold
  deriving DecidableEq, Repr

def Header.blank : Header :=
  ⟨false, false, false, false, false, 128, 65536, 0, [], 1, 0, 1, 1, 0, 0, 0, 0, 0, 0, []⟩

/-- The state of a completion token (R209). -/
inductive TokSt | free | pending | done
  deriving DecidableEq, Repr

/-- A token: its state, the copies written to it that no wait has joined yet, and the latest promise of those of its set that
something else has joined (R209). -/
structure Token where
  st     : TokSt
  copies : List Nat
  promise : Nat
  deriving DecidableEq, Repr
def Token.init : Token := ⟨.free, [], 0⟩

/-- A result queue (R189): capacity in 4 KiB units, the landed bytes, the bytes promised by drains that have not landed, the
bytes popped since the last checkpoint. -/
structure ResQ where
  cap      : Nat
  data     : List Byte
  promised : Nat
  retained : Nat
  deriving DecidableEq, Repr
def ResQ.init : ResQ := ⟨0, [], 0, 0⟩

/-- An active loop (R128, R135): the code positions of its body, the position after it, count, i0, stop, k, stages, margin,
level. -/
structure Loop where
  body   : List Nat
  after  : Nat
  level  : Nat
  count  : Nat
  i0     : Nat
  stop   : Nat
  k      : Nat
  stages : Nat
  margin : Nat
  deriving DecidableEq, Repr

/-- What a taken branch or LBRK does after its delay bundles (R33, R134), a LOOP after its bundle, which starts its first pass, or none inside a
body (R128), a RETC (R233, R387), an END whose waits go on (R232). -/
inductive Redirect
  | none
  | enter
  | jump (target : Int)
  | leave
  | skip (last : Nat)
  | back
  | finish
  deriving DecidableEq, Repr

/-- The delay bundles that remained where a task was switched out between a branch and its target, and what comes after them: they
are due again when issue reaches the resume target (R263, log entry 26). -/
structure Owed where
  target   : Int
  delay    : Nat
  redirect : Redirect
  deriving DecidableEq, Repr

/-- An accumulator tile: its elements as binary32 patterns in row-major order; the empty list is the tile of zeros. -/
abbrev Tile := List (BitVec 32)

/-- The state that a rollback restores (R253). `made`: the tensors that the task has created with TDEF and not freed, with their extents of
dimension 0 (R241). `seen`: what happens before all that the task does from now on (R275; the model's own): for a task, the last of its stamps, for a
copy that somebody has joined, 1. -/
structure Arch where
  s     : Store Word
  q     : BitVec 16
  p     : Store PWord
  v     : Store VWord
  tiles : Store Tile
  rq    : Store ResQ
  od    : Store (Option (BitVec 512))
  nest  : Store (Option (BitVec 512))
  wd    : Store (Option (BitVec 512))
  h     : Store (Option Binding)
  made  : Store Nat
  seen  : Store Nat
  k     : Store Token
  b     : Store (BitVec 128)
  lc    : Store (BitVec 32)
  lix   : BitVec 32
  rho   : Nat
  bgi   : Int
  bgt   : Int
  bgs   : Nat
  tctl  : Tctl
  tstat : Flags
  trapRec   : BitVec 32
  gi    : Nat
  gt    : Nat
  gbar  : Store Nat
  exhausted : Bool
  clip  : Bool
  loops : List Loop
  owed  : Option Owed
  deriving DecidableEq, Repr

/-- Every register at its value at first dispatch, but for those that R45, R47 and R57 take from the task. -/
def Arch.init : Arch :=
  { s := [], q := 1, p := [(0, BitVec.allOnes 128)], v := [], tiles := [], rq := [], od := [], nest := [], wd := [], h := [], made := [], seen := [],
    k := [], b := [], lc := [], lix := 0, rho := 0, bgi := 1, bgt := 1, bgs := 0, tctl := 0, tstat := 0, trapRec := 65472,
    gi := 0, gt := 0, gbar := [], exhausted := false, clip := false, loops := [], owed := none }

/-- A range of window bytes that holds undefined values (R231). -/
structure Hole where
  lo    : Nat
  hi    : Nat
  epoch : Nat
  deriving DecidableEq, Repr

/-- A write that a read of a byte of a window may return (R206, R274): the byte's address and the value; the copy that made it, 0 once
it comes before every later read of the task; the copies in flight that it does not come before. -/
structure Race where
  copy : Nat
  addr : Nat
  byte : Byte
  late : List Nat
  deriving DecidableEq, Repr

/-- A copy that writes or reads a window and is not joined (R206): its task, the bytes that bound its footprint, the barrier that it
credits, whether it has (R215), whether a phase has counted that, and what had happened before its fork, as `Arch.seen` says it. -/
structure Flow where
  copy     : Nat
  task     : Nat
  lo       : Nat
  hi       : Nat
  bar      : Option Nat
  credited : Bool
  counted  : Bool
  clock    : Store Nat
  deriving DecidableEq, Repr

/-- Window bytes that the task has written, at a stamp of its own, or that a copy had written which the task joined at that stamp (0: none). -/
structure Fresh where
  lo    : Nat
  hi    : Nat
  stamp : Nat
  copy  : Nat
  deriving DecidableEq, Repr

/-- What races in a task's window: the copies that write it and those that read it; where a byte has more than one write that a read
may return, or one that a copy in flight does not follow, those writes; those writes and the copies as they were at the checkpoint; the writes that a
join has settled since, and the copies that it has joined; by reading copy, the values that bytes have had since its fork. -/
structure Races where
  inbound  : List Flow
  outbound : List Flow
  alts     : List Race
  kept     : List Race
  flows    : List Flow
  past     : List Race
  pastIn   : List Flow
  sources  : List (Nat × Nat × Byte)
  deriving DecidableEq, Repr
def Races.init : Races := ⟨[], [], [], [], [], [], [], []⟩

/-- A scratchpad window (R53): its bytes, zero where unlisted, and its undefined ranges, disjoint from the listed bytes. -/
structure Window where
  bytes : Memory
  holes : List Hole
  deriving DecidableEq, Repr

/-- Where a result in flight lands (R37). Registers are named by storage slot (R132). -/
inductive Dest
  | s (slot : Nat) (val : Word)
  | q (i : Nat) (val : Bool)
  | p (i : Nat) (val mask : PWord)
  | v (slot : Nat) (val : VWord) (mask : PWord)
  | tctl (val : Tctl)
  | tstat (val : Flags)
  | trapRec (val : BitVec 32)
  | lix (val : BitVec 32)
  | od (i : Nat) (val : Option (BitVec 512))
  | nest (i : Nat) (val : BitVec 512)
  | wd (i : Nat) (val : BitVec 512)
  | handle (i : Nat) (val : Option Binding)
  | qcap (i cap : Nat)
  | rot
  | store (a : Nat) (bytes : List Byte)
  | flags
  deriving DecidableEq, Repr

/-- A result in flight: issued at control clock `clk` with latency bound `bound`; `undef` marks a result that overlaps
another one (R38); `tag` names its landing clock; `flags` land with it (R60). -/
structure Pend where
  clk   : Nat
  bound : Nat
  dest  : Dest
  flags : Flags
  undef : Bool
  tag   : Nat
  deriving DecidableEq, Repr

/-- The array operations of R178. -/
inductive ArrayKind
  | mma (zero : Bool) (a b : Nat) (kb : Nat) (nest : Option (BitVec 512)) (da db : BitVec 512) (index : List Nat)
  | drain (rq : Nat) (fmt : DrainFmt) (relu : Bool) (shift : Option Int) (offset : Option Nat)
  | zero
  deriving DecidableEq, Repr

/-- An array operation issued and not ended: its tile, the matrix clocks it runs, those done, whether it has started, TCTL
and the window as they were at issue, the values that bytes of the window have taken between, the trailer that an np8 drain has
formed so far, the flags of its results, the number of its free choices. -/
structure ArrayOp where
  kind    : ArrayKind
  tile    : Nat
  clocks  : Nat
  done    : Nat
  started : Bool
  tctl    : Tctl
  snap    : Window
  mids    : List (Nat × Byte)
  rest    : List Byte
  flags   : Flags
  tag     : Nat
  deriving DecidableEq, Repr

/-- A command held until a checkpoint releases it (R204, R236; `nothing`: one without an effect, R362), with the code position of the bundle that issued it. -/
inductive HeldKind
  | copy (id : Nat)
  | lnch (die entry : Nat)
  | enq (queue : Nat) (record : List Byte)
  | ddec (ref : Nat)
  | seqf (parent child : Nat)
  | seqe (seq : Nat)
  | tfree (tensor : Nat)
  | nothing
  deriving DecidableEq, Repr
structure Held where
  kind : HeldKind
  pos  : Nat
  deriving DecidableEq, Repr

/-- A line of the undo log: the line's number and its bytes before the first write of the interval (R254). -/
structure UndoLine where
  line : Nat
  old  : List Byte
  deriving DecidableEq, Repr

/-- The states of a task (R251, R290, R320). -/
inductive TaskSt
  | waiting | holding | suspended | ready | running | parked | saved | ended | faulted | killed
  deriving DecidableEq, Repr

/-- A wait that parked a task by a full switch (R260, R303). -/
inductive Wait
  | token (k : Nat) (promised : Bool)
  | barrier (b : Nat)
  | gbar (level : Nat)
  | join (id : Nat)
  deriving DecidableEq, Repr

/-- A store of nonzero alias class that the global order does not hold yet (R270): its class, its place in the program order of
the task's stores and fences, the tensor, the byte offset, the bytes, TIME at its issue, and the slot and the position that issued it. -/
structure PStore where
  cls    : Nat
  place  : Nat
  tensor : Nat
  offset : Nat
  bytes  : List Byte
  time   : Nat
  slot   : Nat
  pos    : Nat
  deriving DecidableEq, Repr

/-- A cause that a slot raises: cause code, slot number, detail words, the position when it is not the issuing bundle's. -/
structure Raise where
  cause : Nat
  slot  : Nat
  words : List Nat
  pos   : Option Nat
  deriving DecidableEq, Repr

/-- A FENCE that stands behind a store of the task which the global order does not hold yet (R225, R270): its place and its mask. -/
structure FenceAt where
  place : Nat
  mask  : Nat
  deriving DecidableEq, Repr

/-- The code of a task as its core has read it: bytes of the code tensor and of the blend tensor as they stood when the core
loaded them, and the number of the free choice between those and the bytes as they stand (R29, R30, log entry 62). An empty
list is one that the core has not loaded. -/
structure CodeImage where
  code  : List Byte
  blend : List Byte
  tag   : Nat
  deriving DecidableEq, Repr
def CodeImage.blank : CodeImage := ⟨[], [], 0⟩
/-- A position of a pinned body in the loop buffer (R35): its code word, and its bundle with the words that it takes. -/
structure Pin where
  pos    : Nat
  word   : Option Nat
  bundle : Option (Nat × Nat)
  deriving DecidableEq, Repr

/-- What the members of a group knew together at a GBAR: its level and generation, and that knowledge (R228; the model's own). -/
structure Meeting where
  level : Nat
  gen   : Nat
  seen  : Store Nat
  deriving DecidableEq, Repr

/-- A tile task (R246 to R265). `news`: the window bytes that it has written, and its present stamp is `stamp`; `meets`: the GBARs that its group has
passed since the checkpoint. `stop`: the scheduler asks it to stop at its next yield bundle (R231, R251); `again`: a
fresh instance of a killed or re-issued task (R302, R368); `met`: an error that a store of its has met in flight, raised before its next
bundle issues (R207, R326). -/
structure Task where
  id      : Nat
  status  : TaskSt
  work    : Nat
  inst    : Nat
  level   : Nat
  core    : Nat
  queue   : Nat
  entry   : Nat
  seq     : Nat
  owner   : Nat
  prio    : Nat
  hdr     : Header
  holds   : List Hold
  held0   : Bool
  reserved : List Nat
  arch    : Arch
  shadow  : Arch
  ckpt    : Nat
  ckptDelay : Nat
  ckptRedirect : Redirect
  win     : Window
  undo    : List UndoLine
  pend    : List Pend
  array   : List ArrayOp
  heldq   : List Held
  stores  : List PStore
  fences  : List FenceAt
  place   : Nat
  races   : Races
  news    : List Fresh
  stamp   : Nat
  meets   : List Meeting
  handler : Bool
  trapRet : Nat
  aside   : List Loop
  asideDelay : Nat
  asideRedirect : Redirect
  pc      : Int
  delay   : Nat
  redirect : Redirect
  wait    : List Wait
  waitAt  : Option Nat
  began   : Bool
  est     : Nat
  estAt   : Nat
  slice   : Int
  age     : Nat
  serial  : Nat
  lastRun : Nat
  cont    : List Byte
  contPos : Int
  carry   : Nat
  full    : Bool
  kept    : Nat
  saveArea : Nat
  gbarSeen : Store Nat
  prepared : Bool
  waitsOn : List Nat
  reissued : Bool
  img     : CodeImage
  pins    : List Pin
  asidePins : List Pin
  stop    : Bool
  again   : Bool
  met     : Option Raise
  deriving DecidableEq, Repr

/-- No task: what the focus holds while no core runs one. -/
def Task.idle : Task :=
  { id := 0, status := .ended, work := 0, inst := 0, level := 0, core := 0, queue := 0, entry := 0, seq := 0, owner := 0,
    prio := 0, hdr := Header.blank, holds := [], held0 := false, reserved := [], arch := Arch.init, shadow := Arch.init, ckpt := 0, ckptDelay := 0,
    ckptRedirect := .none,
    win := ⟨[], []⟩, undo := [], pend := [], array := [], heldq := [], stores := [], fences := [], place := 0, races := Races.init, news := [], stamp := 1, meets := [], handler := false, trapRet := 0, aside := [],
    asideDelay := 0, asideRedirect := .none, pc := 0, delay := 0, redirect := .none, wait := [], waitAt := none, began := false, est := 0, estAt := 0,
    slice := 0, age := 0, serial := 0, lastRun := 0, cont := [], contPos := 0, carry := 255, full := false, kept := 0, saveArea := 0,
    gbarSeen := [], prepared := false, waitsOn := [], reissued := false, img := CodeImage.blank, pins := [], asidePins := [], stop := false, again := false, met := none }

/-- The kinds of copy (R200, R244). -/
inductive CopyKind | cpin | cpout | cpmc | cpga | cpsc | cpxf | cpqo | cpqf | cpfl | cflush
  deriving DecidableEq, Repr

/-- held: in the queue of R204; active: forked, not complete. A copy that is complete and joined leaves the state. -/
inductive CopySt | held | active | done
  deriving DecidableEq, Repr

/-- One element access of a copy (R199, R273): the tensor's byte offset, the scratchpad offset, none for a side that the copy
does not have there, and bytes the copy brings of its own. -/
structure Access where
  tens : Option Nat
  spad : Option Nat
  data : List Byte
  deriving DecidableEq, Repr

/-- A copy (R200 to R208): the number of its token and descriptor, its task, core, bundle position, token while it has one, range, class, element size, the accesses
not yet made, targets, the barrier it credits, its bytes, its promise, whether it was issued in the current interval, the
chain blocks of a CPXF with what it has read and where its output goes, its place in fork order, its fork's place among the stores of
its task (R272), the accesses sent through a proxy whose reply is still to come, with TIME at their sending (R346), and how many links of
its chain have run. -/
structure Copy where
  id       : Nat
  num      : Nat
  kind     : CopyKind
  st       : CopySt
  task     : Nat
  core     : Nat
  pos      : Nat
  slot     : Nat
  hold     : Hold
  cls      : Nat
  esz      : Nat
  todo     : List (Nat × Access)
  targets  : List Nat
  barrier  : Option Nat
  bytes    : Nat
  lat      : Nat
  xf       : Nat
  promise  : Nat
  fresh    : Bool
  chain    : List (List Byte)
  read     : List (Nat × List Byte)
  order    : Nat
  dest     : Nat
  forkAt   : Nat
  sent     : List (Nat × Nat)
  links    : Nat
  deriving DecidableEq, Repr

/-- Where a work item comes from: a queue entry (R290), the pending-launch pool (R307), the recompute lane (R320). -/
inductive WorkKind
  | queue (q entry : Nat)
  | pool (die entry gen launcher : Nat)
  | lane (die : Nat)
  deriving DecidableEq, Repr

/-- The domain instance that a scheduler has chosen for a gang, with the cores, where the domain spans several dies (R295). -/
structure Home where
  gang  : Nat
  inst  : Nat
  cores : List Nat
  deriving DecidableEq, Repr
/-- An operator, a launch or a recompute whose tile tasks exist: its records, instance count, counter, what
has ended, the bound of the chain of recomputes that it is in, once it has been read (R322), the gangs' broken levels and the last record 0x1A of each gang with the stack and the clock of its fault (R373); `passed`: QRET has passed it, and
re-issued tasks of it still run (R290, R368); `after`: tasks, each with the place among its stores up to
which they come before every access of this work (R272, R275). -/
structure Work where
  id      : Nat
  kind    : WorkKind
  record  : List Byte
  launch  : List Byte
  total   : Nat
  prio    : Nat
  est     : Nat
  queue   : Nat
  entry   : Nat
  owner   : Nat
  permit  : Nat
  level   : Nat
  depth   : Nat
  bound   : Option Nat
  seq     : Nat
  counter : Nat
  waiting : Bool
  head    : Bool
  age     : Nat
  ended   : Nat
  failed  : Bool
  retired : Bool
  passed  : Bool
  epochs  : List (Nat × Nat)
  broken  : List (Nat × Nat)
  gangRec : List (Nat × Nat × Nat × List Byte)
  targets : List Nat
  waiters : List Nat
  unusedI : Nat
  unusedT : Nat
  homes   : List Home
  after   : List (Nat × Nat)
  deriving DecidableEq, Repr

end Sys2Proof.Machine
end

