-- ==== Sys2Proof/Machine/DeviceState.lean ====
section
/-! DEFINITION. The state of the device outside its tasks: stacks, queues, tensors, pages, keys, sequences, the Trellis, the
host bridge, intake and decoders (R284 to R388). -/

namespace Sys2Proof.Machine

/-- One quantum of time is this fraction of a nanosecond, so that every layer clock of R375 is a whole number of quanta. -/
def quantaPerNs : Nat := 2329089562800

/-- A temperature sensor of a layer (R374, R377): what it reads, in units of 1/8 °C, and the TIME since when it has read at or below
RACK_LO. Bank i of a cellar layer has sensor i. -/
structure Sensor where
  temp  : Nat
  since : Nat
  deriving DecidableEq, Repr
def Sensor.init : Sensor := ⟨0, 0⟩

/-- A layer of a stack (R3, R374 to R376): its clock in steps of 25 MHz, the quantum of its next edge, its counter, whether it
runs, LFCAP in MHz, its sensors, and the racked banks of a cellar layer. -/
structure LayerSt where
  freq   : Nat
  edge   : Nat
  cyc    : Nat
  on     : Bool
  cap    : Nat
  sensors : Store Sensor
  racked : BitVec 64
  deriving DecidableEq, Repr
/-- A layer after reset: 600 MHz (log entry 4), LFCAP 750. -/
def LayerSt.init : LayerSt := ⟨24, 0, 0, true, 750, [], 0⟩

/-- A line that the cellar of a stack holds (R2, R377): the place in memory whose data it is, as page entry and byte offset in the
page, the bank of which layer (`upper`: K1) holds it, and whether it is dirty. -/
structure CellarLine where
  entry : Nat
  off   : Nat
  upper : Bool
  bank  : Nat
  dirty : Bool
  deriving DecidableEq, Repr
/-- Bytes of a cellar line (log entry 78). -/
def cellarLineBytes : Nat := 64
/-- Bytes of a cellar layer (R2) and of each of its 64 banks. -/
def cellarRoom : Nat := 160 * 2 ^ 20
def bankRoom : Nat := cellarRoom / 64

/-- The registers that exist once per stack (R57, R374), the residency engine's position and counters, the lines of the cellar, and
the banks whose lines are leaving them. -/
structure Stack where
  m : LayerSt
  c : LayerSt
  k0 : LayerSt
  k1 : LayerSt
  slice : Nat
  waitth : Nat
  lease : Nat
  drainMax : Nat
  killTokens : Nat
  costSpill : Nat
  costFetch : Nat
  costPack : Nat
  costDecomp : Nat
  costDrop : Nat
  wnext : Nat
  depth : Nat
  rackHi : Nat
  rackLo : Nat
  vbidx : Nat
  vbshift : Store Nat
  vbretire : Nat
  cellstat : Nat
  pos : Nat
  hbm : Nat
  lpddr : Nat
  nextEntry : Nat
  lines : List CellarLine
  racking : List (Bool × Nat)
  deriving DecidableEq, Repr

/-- Bytes of HBM of a stack that tensors and save areas may take: 96 GiB less the reserved areas (log entry 5). -/
def hbmRoom : Nat := 96 * 2 ^ 30 - 2 ^ 29
/-- Bytes of LPDDR of a die (R2). -/
def lpddrRoom : Nat := 256 * 2 ^ 30

def Stack.init : Stack :=
  { m := LayerSt.init, c := LayerSt.init, k0 := LayerSt.init, k1 := LayerSt.init, slice := 2 ^ 20, waitth := 20000, lease := 64,
    drainMax := 50000, killTokens := 4, costSpill := 4, costFetch := 4, costPack := 1, costDecomp := 1, costDrop := 2, wnext := 1,
    depth := 4, rackHi := 840, rackLo := 720, vbidx := 0, vbshift := [], vbretire := 0, cellstat := 0, pos := 0, hbm := hbmRoom,
    lpddr := lpddrRoom, nextEntry := 1, lines := [], racking := [] }

/-- A routine of another signed image at work in a transform core (R216 to R218): the copy, the chain block of its link, what is still to be
streamed into it, what it has produced. -/
structure XfRun where
  copy  : Nat
  block : List Byte
  left  : List Byte
  out   : List Byte
  deriving DecidableEq, Repr
/-- The transform core of a walk engine (R216): its registers as RV64IMC and V at VLEN 512 give them, `vcsr` with vxrm and vxsat, the four
stream buffers, the chain buffer, the routine that it runs, and the control clock in which its last instruction was executed. Its instruction
memory, the same in every core, is `State.xfMem`. -/
structure XfCore where
  pc     : Nat
  x      : Store (BitVec 64)
  v      : Store (BitVec 512)
  vl     : Nat
  vtype  : Nat
  vstart : Nat
  vcsr   : Nat
  stream : List (List Byte)
  chain  : List Byte
  run    : Option XfRun
  ranAt  : Option Nat
  deriving DecidableEq, Repr
def XfCore.init : XfCore := ⟨0, [], [], 0, 0, 0, 0, [[], [], [], []], [], none, none⟩

/-- A single-element access made ahead of its bundle (R268, R270): the slot, where the access lay, the value that it gave. -/
structure Early where
  slot : Nat
  id   : Nat
  off  : Nat
  val  : Nat
  deriving DecidableEq, Repr
/-- A core outside its tasks: the running task (0 for none), the gang it is held idle for, the gangs for which a leading scheduler wants
it once it is free, in the order of the requests (R295), the frozen masters of R370, the control clock in which it last issued, the transform core of its walk engine, the error that the single-element access of the bundle
it issues next meets in flight (the model's own: where errors arise, the world outside decides, log entry 71), the one that its fetch meets,
TIME at which the access of that bundle through a proxy was sent, where its reply is still to come (R346), and the access of
that bundle already made, where another one is still to be made (R268, R270). -/
structure CoreSt where
  task    : Nat
  heldFor : Option (Nat × Nat)
  wanted  : List (Nat × Nat)
  frozen  : Bool
  walkFrozen : Bool
  xfFrozen : Bool
  issued  : Option Nat
  drainAt : Option Nat
  xf      : XfCore
  meets   : Option AccessErr
  fetchErr : Option AccessErr
  sentAt  : Option Nat
  early   : Option Early
  deriving DecidableEq, Repr
def CoreSt.init : CoreSt := ⟨0, none, [], false, false, false, none, none, XfCore.init, none, none, none, none⟩

/-- The states of an operator queue (R285). -/
inductive QState | disabled | opened | frozen
  deriving DecidableEq, Repr

/-- An operator queue (R284, R285): its registers and the reservations of ENQs. -/
structure OpQueue where
  base  : Nat
  size  : Nat
  tail  : Nat
  disp  : Nat
  ret   : Nat
  owner : Nat
  permit : Nat
  st    : QState
  resv  : Nat
  headBad : Bool
  deriving DecidableEq, Repr
def OpQueue.init : OpQueue := ⟨0, 0, 0, 0, 0, 0, 0, .disabled, 0, false⟩

/-- The states of a tensor record (R310). -/
inductive TState | absent | resident | packed | spilled | dropped | void | poisoned | moving
  deriving DecidableEq, Repr
def TState.code : TState → Nat
  | .absent => 0 | .resident => 1 | .packed => 2 | .spilled => 3 | .dropped => 4 | .void => 5 | .poisoned => 6 | .moving => 7

/-- What a MOVING tensor waits to do when the move completes (R311): `poison`, one of its tiles has been lost meanwhile (R326). -/
inductive AfterMove | stay | poison | delete | void
  deriving DecidableEq, Repr

/-- A tensor record (R309) with its page list (`root`: the frame number of its root, 0 while no page is allocated), the class of its pages, the move in progress, and whether its sequence has
cut its holds off (R341). -/
structure Tensor where
  id : Nat
  fmt : Nat
  rank : Nat
  e0 : Nat
  rest : Nat
  size : Nat
  pgsz : Nat
  cap0 : Nat
  seq : Nat
  keyslot : Nat
  st : TState
  paged : Bool
  ro : Bool
  tdef : Bool
  nodrop : Bool
  nopack : Bool
  nospill : Bool
  rcp : Bool
  ridx : Nat
  rtemplate : Nat
  epoch : Nat
  next : Nat
  holds : Nat
  dropdep : Nat
  poison : Nat
  coh : Nat
  root : Nat
  pages : Store Nat
  moveSpill : Bool
  after : AfterMove
  voidAt : Nat
  cut : Bool
  deriving DecidableEq, Repr

/-- A page entry (R336) with the tiles of its page whose code is POISONED (R325). `frame`: the frame number of the page in its tier. -/
structure PageEnt where
  frame : Nat
  lpddr : Bool
  pk : Bool
  coh : Nat
  key : Nat
  kgen : Nat
  ref : Nat
  fill : Nat
  bad : List Nat
  bytes : Nat
  deriving DecidableEq, Repr

/-- A recipe table entry (R318): the operator record, the recorded epochs, the records that name it. -/
structure Recipe where
  record : List Byte
  inputs : List (Nat × Nat)
  outputs : List Nat
  deriving DecidableEq, Repr

/-- A store to an NC page that some agent may not see yet (R277): its bytes, the writer's stack, the widest scope it has
reached, the writing task, and the copy that made it while that copy is not joined. -/
structure NcStore where
  addr : Nat
  bytes : List Byte
  stack : Nat
  reach : Nat
  task : Nat
  copy : Option Nat
  deriving DecidableEq, Repr

/-- A DDEC or an ENQ released for a queue entry whose operator has no tasks yet (R239, R275): the releasing task, and the place among
its stores up to which they come before every access of that operator. -/
structure Fork where
  queue : Nat
  entry : Nat
  task  : Nat
  place : Nat
  deriving DecidableEq, Repr

/-- An entry of a die's pending-launch pool (R306). -/
inductive PoolSt | free | reserved | live | ended
  deriving DecidableEq, Repr
structure PoolEnt where
  st : PoolSt
  gen : Nat
  launcher : Nat
  launcherDone : Bool
  joined : Bool
  record : List Byte
  work : Nat
  ok : Bool
  unusedI : Nat
  unusedT : Nat
  deriving DecidableEq, Repr
def PoolEnt.init : PoolEnt := ⟨.free, 1, 0, false, false, [], 0, true, 0, 0⟩

/-- The states of a key slot (R332). -/
inductive KeySt | free | live | closing
  deriving DecidableEq, Repr
structure KeySlot where
  st : KeySt
  readers : Nat
  gen : Nat
  pair : BitVec 512
  deriving DecidableEq, Repr
def KeySlot.init : KeySlot := ⟨.free, 0, 1, 0⟩

/-- A sequence (R330, R331). `reserved`: a SEQF holds the id; `released`: that SEQF waits for write holds to end (R340). -/
inductive SeqSt | reserved | released | live | ended
  deriving DecidableEq, Repr
structure SeqRec where
  st : SeqSt
  owner : Nat
  slot : Nat
  parent : Nat
  readers : List Nat
  deriving DecidableEq, Repr

/-- An entry of the ingress import table (R344). -/
structure ExportEnt where
  live : Bool
  tensor : Nat
  first : Nat
  count : Nat
  key : Nat
  gen : Nat
  perms : Nat
  owner : Nat
  deriving DecidableEq, Repr

/-- An entry of a remote window table (R345). -/
structure ImportEnt where
  member : Nat
  index : Nat
  key : Nat
  count : Nat
  fmt : Nat
  perms : Nat
  owner : Nat
  epoch : Nat
  gen : Nat
  deriving DecidableEq, Repr

/-- A request of the host to an export that waits for room, or behind one that does (R351, R386): entry, offset, and what it does. -/
inductive HostOp
  | write (index offset : Nat) (data : List Byte)
  | read (index offset bytes : Nat)
  | atomic (index offset bytes : Nat) (op : Rmw)
  deriving DecidableEq, Repr

/-- A bridge function (R348, R350): registers, whether a command runs, records held, records lost, freeze, MSI-X signals sent,
requests that wait. -/
structure Fn where
  cmdbuf : Nat
  busy : Bool
  status : Nat
  result : Nat
  fabase : Nat
  fasize : Nat
  fahead : Nat
  fatail : Nat
  heldRecs : List (List Byte)
  lost : Nat
  lastAt : Option Nat
  msix : Nat
  frozen : Bool
  posted : List HostOp
  deriving DecidableEq, Repr
def Fn.init : Fn := ⟨0, false, 0, 0, 0, 0, 0, 0, [], 0, none, 0, false, []⟩

/-- How a drive or a decoder has ended a job. -/
inductive JobEnd
  | intake (e : IntakeEnd)
  | decode (e : DecodeEnd)
  deriving DecidableEq, Repr
/-- An intake or decode in progress (R353, R355): its destination range, whether it is held, the dispatch serial at which it
began (R367), and how it has ended, while its output waits for the hold. -/
inductive JobKind
  | intake (r : IntakeRec)
  | decode (r : DecodeRec) (decoder : Nat)
  deriving DecidableEq, Repr
structure Job where
  kind : JobKind
  hold : Hold
  held : Bool
  serial : Nat
  result : Option JobEnd
  deriving DecidableEq, Repr

/-- A write-mode hold that has reached the engine of its pages and waits to be prepared there (R360): the task, or the job where that is 0, the
index of the range, the range. -/
structure Claim where
  task  : Nat
  job   : Nat
  range : Nat
  hold  : Hold
  deriving DecidableEq, Repr

/-- A state of a Trellis link (R343): retries of the flit at its head, and TIME when it last passed one. -/
structure LinkSt where
  retries : Nat
  last    : Nat
  deriving DecidableEq, Repr
def LinkSt.init : LinkSt := ⟨0, 0⟩
/-- The Trellis links of a device (R2). -/
def linkCount : Nat := 18

/-- The one-time fuses (R383): the digest of the key that signs firmware, and the least security version accepted. -/
structure Fuses where
  keyDigest  : BitVec 256
  minVersion : Nat
  deriving DecidableEq, Repr
/-- What a device is made with (R383, R384): its serial number, the seed from which its identity key pair was generated, and the certificate
of the public half. -/
structure Identity where
  serial      : BitVec 64
  seed        : BitVec 256
  certificate : List Byte
  deriving DecidableEq, Repr
/-- The identity key pair, and its public half. -/
def Identity.key (i : Identity) : DsaKey := dsaKey (leBytes i.seed.toNat 32)
def Identity.publicKey (i : Identity) : List Byte := i.key.public

/-- What start-up meets outside the rules of R382: the firmware image in flash (R383), memory training, the random bit
generator, the faults of the vertical buses' lines, links that fail (link, member), the member number, the
ingress epoch, the number of devices in the group, the static routes (R343: for a member, its
links in order), and the drives behind port B with their logical block sizes (R352). -/
structure BootEnv where
  image : FwImage
  memory : Bool
  rbg : Bool
  lines : List LineFault
  linksDown : List (Nat × Nat)
  member : Nat
  epoch : Nat
  devices : Nat
  routes : Store (List Nat)
  drives : Store Nat
  deriving DecidableEq, Repr
def BootEnv.good : BootEnv := ⟨⟨[], [], [], 0⟩, true, true, [], [], 0, 1, 1, [], []⟩

end Sys2Proof.Machine
end

