-- ==== Sys2Proof/Machine/State.lean ====
section
/-! DEFINITION. The state of the machine, the reasons a step can stop, and the state after reset. -/

namespace Sys2Proof.Machine

/-- What stops the machine. The faults and traps of the device's own tasks are next states (R257, R366). -/
inductive Fault
  /-- Start-up failed at a step of R382, whose code BOOTSTAT holds: the device does nothing more until a reset. Raised by
  `step` while BOOTSTAT is 1 to 4 and nothing is on the agenda. Safe: the manual says that the device stops. -/
  | startupFailed (code : Nat)
  deriving DecidableEq, Repr

/-- What the model refuses. -/
inductive Refusal
  /-- An instruction without a meaning; no arm raises it. Safe. -/
  | notModelled (mnemonic : String)
  deriving DecidableEq, Repr

/-- How the slot operation that was executed last came out: it ran, it holds its bundle at issue (R40), or it raised. -/
inductive Ran
  | ran
  | held
  | raised (r : Raise)
  deriving DecidableEq, Repr

/-- The bundle that is issuing (the model's own, log entry 3): the slot being executed, the bundle's code position and the
position after it, the budgets before its charge (R111), whether its checkpoint is taken, how the last slot came out. -/
structure Ctx where
  slot : Slot
  pos  : Nat
  next : Nat
  bgi  : Int
  bgt  : Int
  bgs  : Nat
  ckpt : Bool
  out  : Ran
  deriving DecidableEq, Repr

/-- What a device of the group tells of a gang's member that runs there (the model's own, log entry 84): it has arrived at a GBAR, it has ended
with budgets left, it has faulted. -/
inductive MemberNews
  | arrived (level gen : Nat)
  | ended (bgi bgt : Int)
  | faulted (cause slot : Nat) (words : List Nat) (pos : Nat)
  deriving DecidableEq, Repr

/-- What comes from outside the machine and no row of the opcode table names (the model's own, log entry 2): what the next start-up will
meet (R382); the management function assigns a context to a function (R347); a sensor reads (R374, R377); a cellar takes or gives up a
line (R377); a link passes a flit (R343); the next single-element access of a core, or its next fetch, meets an error (R326, R346); a scheduler of another
device holds a core for a gang led here, or needs one held here no longer, or tells of a member (R295); an access through a proxy goes out and waits
for its reply (R346). -/
inductive Outside
  | boot (b : BootEnv)
  | assign (ctx fn : Nat)
  | sensor (stack : Nat) (layer : Layer) (n temp : Nat)
  | cellar (stack : Nat) (line : CellarLine) (kept : Bool)
  | flit (link : Nat)
  | error (core : Nat) (e : AccessErr)
  | fetchError (core : Nat) (e : AccessErr)
  | granted (core : Nat)
  | released (core : Nat)
  | member (task : Nat) (m : MemberNews)
  | sentHead (core : Nat)
  | sentCopy (copy ordinal : Nat)
  deriving DecidableEq, Repr

/-- Who moves at a step (the model's own, log entry 2): a step of the device, a core, one single-element access of the bundle that a core
issues next, which has two of them (R268), the clocks, one element access of a copy, one store of a task that the global order does not hold yet, the scheduler's request that a core's task stop at its next
yield bundle (R231, R251), the oldest request of a function that waits, a request of another device that waits, a job, the racking of a
stack's cellar, an instruction of a transform core (R216), the command of a function that is busy, the world outside. -/
inductive Turn
  | event (i : Instr)
  | core (n : Nat)
  | first (n : Nat) (second : Bool)
  | tick
  | access (copy ordinal : Nat)
  | drain (task index : Nat)
  | stop (core : Nat)
  | host (fn : Nat)
  | remote (index : Nat)
  | job (n : Nat)
  | rack (stack : Nat)
  | xf (core : Nat)
  | command (fn : Nat)
  | outside (o : Outside)
  deriving DecidableEq, Repr

/-- A write of a register of a stack on its way: it lands at the next edge of the stack's control clock (R57, R60). -/
structure StackWrite where
  stack : Nat
  idx   : Nat
  val   : Nat
  deriving DecidableEq, Repr

/-- The machine. `cur` is the task in focus, the one that core `core` runs; every other task is in `tasks`. -/
structure State where
  free    : Nat
  agenda  : List Turn
  auto    : Bool
  ctx     : Ctx
  now     : Nat
  core    : Nat
  cur     : Task
  tasks   : List Task
  works   : List Work
  copies  : List Copy
  nextTask : Nat
  nextWork : Nat
  nextCopy : Nat
  serial  : Nat
  cores   : Store CoreSt
  dies    : Store Stack
  landing : List StackWrite
  queues  : Store OpQueue
  forks   : List Fork
  pool    : Store PoolEnt
  tensors : Store Tensor
  pages   : Store PageEnt
  mem     : Memory
  hostMem : Memory
  nc      : List NcStore
  recipes : Store Recipe
  seqs    : Store SeqRec
  lastSeq : Nat
  keys    : Store KeySlot
  exports : Store ExportEnt
  imports : Store ImportEnt
  ingress : List RemoteReq
  fns     : Store Fn
  ctxFn   : Store Nat
  ctxSys  : List Nat
  tlto    : Nat
  bootstat : Nat
  jobs    : Store Job
  claims  : List Claim
  nextJob : Nat
  decFrozen : List Nat
  rbgOk   : Bool
  routines : List Nat
  xfBytes : Nat
  xfMem   : List Byte
  linksDown : List (Nat × Nat)
  links   : Store LinkSt
  routes  : Store (List Nat)
  drives  : Store Nat
  granted : List Nat
  boot    : BootEnv
  run     : Option BootEnv
  fuses   : Fuses
  identity : Identity
  xfImages : List (BitVec 256)
  deriving DecidableEq, Repr

/-- The device slot of R332: LIVE from start-up, no readers, generation 1. -/
def deviceSlot : KeySlot := ⟨.live, 0, 1, 0⟩

/-- The machine right after reset, before start-up (R382): BOOTSTAT 0xFF, every queue DISABLED, no task, no tensor, no
sequence, every key slot at generation 1. -/
def State.reset : State :=
  { free := 0, agenda := [], auto := true, ctx := ⟨.s0, 0, 0, 0, 0, 0, false, .ran⟩, now := 0, core := 0, cur := Task.idle,
    tasks := [], works := [], copies := [], nextTask := 1, nextWork := 1, nextCopy := 1, serial := 0, cores := [], dies := [], landing := [],
    queues := [], forks := [], pool := [], tensors := [], pages := [], mem := [], hostMem := [], nc := [], recipes := [], seqs := [],
    lastSeq := 0, keys := [(0, deviceSlot)], exports := [], imports := [], ingress := [], fns := [], ctxFn := [], ctxSys := [], tlto := 100000,
    bootstat := 0xFF, jobs := [], claims := [], nextJob := 1, decFrozen := [], rbgOk := true, routines := [], xfBytes := 0, xfMem := [], linksDown := [],
    links := [], routes := [], drives := [],
    granted := [], boot := BootEnv.good, run := none, fuses := ⟨0, 0⟩, identity := ⟨0, 0, []⟩, xfImages := [] }

end Sys2Proof.Machine
end

