-- ==== Sys2Proof/Machine/Mem.lean ====
section
/-! DEFINITION. Tensors and memory: where a tensor's byte lies, reading and writing it, what an access meets (keys, poisoned
tiles, R326, R336), non-coherent pages (R277), the clocks. -/

namespace Sys2Proof.Machine

/-- One field of the state's stacks, cores and slots, by number. -/
def State.stackOf (s : State) (n : Nat) : Stack := Store.get Stack.init s.dies n
def State.setStack (s : State) (n : Nat) (k : Stack) : State := { s with dies := Store.set Stack.init s.dies n k }
def State.coreOf (s : State) (n : Nat) : CoreSt := Store.get CoreSt.init s.cores n
def State.setCore (s : State) (n : Nat) (c : CoreSt) : State := { s with cores := Store.set CoreSt.init s.cores n c }
def State.keyOf (s : State) (n : Nat) : KeySlot := Store.get KeySlot.init s.keys n
def State.setKey (s : State) (n : Nat) (k : KeySlot) : State := { s with keys := Store.set KeySlot.init s.keys n k }
def State.queueOf (s : State) (n : Nat) : OpQueue := Store.get OpQueue.init s.queues n
def State.setQueue (s : State) (n : Nat) (q : OpQueue) : State := { s with queues := Store.set OpQueue.init s.queues n q }
def State.poolOf (s : State) (n : Nat) : PoolEnt := Store.get PoolEnt.init s.pool n
def State.setPool (s : State) (n : Nat) (p : PoolEnt) : State := { s with pool := Store.set PoolEnt.init s.pool n p }
def State.fnOf (s : State) (n : Nat) : Fn := Store.get Fn.init s.fns n
def State.setFn (s : State) (n : Nat) (f : Fn) : State := { s with fns := Store.set Fn.init s.fns n f }

/-- A value that nothing constrains, and the state in which the next one is another (log entry 1). -/
def State.freshTag (s : State) : Nat × State := (s.free, { s with free := s.free + 1 })

/-- A list in an order of the device's choice, each member put at some place among those before it (log entry 1). -/
def shuffled {α : Type} (tag : Nat) (l : List α) : List α :=
  l.foldl (fun acc x => acc.insertIdx (Config.choice tag acc.length % (acc.length + 1)) x) []
/-- One of the places that the device may choose from; which one, the manual does not say (log entry 1). -/
def State.pick (s : State) (l : List Nat) : Option Nat := if l.isEmpty then none else l[Config.choice s.free 0 % l.length]?
def State.used (s : State) : State := { s with free := s.free + 1 }

/-- What start-up has met: it stands from step 7 of R382 on, whatever the next start-up will meet. -/
def State.env (s : State) : BootEnv := s.run.getD BootEnv.good

/-- TIME (R57, R376). -/
def State.time (s : State) : Nat := s.now / quantaPerNs
/-- The stack of the core in focus (R3), and its control clock. -/
def State.stackNo (s : State) : Nat := s.core / 12
def State.clk (s : State) : Nat := (s.stackOf s.stackNo).c.cyc
/-- A layer of a stack by its code in CYC (R95). -/
def Stack.layer (k : Stack) : Layer → LayerSt
  | .m => k.m | .c => k.c | .k0 => k.k0 | .k1 => k.k1
def Stack.setLayer (k : Stack) (l : Layer) (x : LayerSt) : Stack :=
  match l with
  | .m => { k with m := x } | .c => { k with c := x } | .k0 => { k with k0 := x } | .k1 => { k with k1 := x }

/-- The scope in which the agents lie that a store of stack X reaches: `stack` is where the agent lies, `scope` the least
scope of another stack that contains it (R276, R277). -/
structure Agent where
  stack : Option Nat
  scope : Nat
  deriving DecidableEq, Repr
def Agent.onStack (n : Nat) : Agent := ⟨some n, 3⟩
def Agent.device : Agent := ⟨none, 3⟩
def Agent.group : Agent := ⟨none, 4⟩
def Agent.host : Agent := ⟨none, 5⟩

/-- The size of an element in bytes; 1 for a format with no element of 1, 2, 4 or 8 bytes (R199, R220). -/
def elemBytes (fmt : Nat) : Nat := match ET.ofCode fmt with | some t => t.bits / 8 | none => 1
/-- A format code that R240 lists. -/
def fmtOk (fmt : Nat) : Bool := decide (fmt ≤ 12) || (decide (0x12 ≤ fmt) && decide (fmt ≤ 0x18)) || fmt == 0x20
/-- The bytes of n elements (R82 for nested planes: a block of 8p bytes holds 64 elements; format 0x20 is NP16). -/
def fmtSize (fmt n : Nat) : Nat :=
  if fmt ≤ 12 then n * elemBytes fmt else (n + 63) / 64 * (8 * (if fmt = 0x20 then 16 else fmt - 0x10))

def Tensor.pageBytes (t : Tensor) : Nat := t.pgsz * 4096
/-- The page entry of a page; 0 for a page that is not allocated (R335). -/
def Tensor.entry (t : Tensor) (page : Nat) : Nat := Store.get 0 t.pages page
/-- The home stack of an id (R309). -/
def homeOf (id : Nat) : Nat := fld id 30 2
/-- A proxy id (R335, R345). -/
def isProxy (id : Nat) : Bool := fld id 28 2 == 3

/-- The place of a proxy in the remote window tables (R345). -/
def importKey (id : Nat) : Nat := homeOf id * 4096 + id % 4096

/-- The address of a byte of a page entry: each entry has 64 KiB of the address space. -/
def pageAddr (entry off : Nat) : Nat := entry * 65536 + off

/-- A record that exists. -/
def State.tensor (s : State) (id : Nat) : Option Tensor :=
  match Store.look s.tensors id with
  | some t => if t.st = .absent then none else some t
  | none => none
def State.setTensor (s : State) (t : Tensor) : State := { s with tensors := Store.put t.id t s.tensors }
/-- The format of a tensor or of the window that a proxy names; 0xFF where neither exists. -/
def State.fmtOf (s : State) (id : Nat) : Nat :=
  if isProxy id then (match Store.look s.imports (importKey id) with | some e => e.fmt | none => 0xFF)
  else match s.tensor id with | some t => t.fmt | none => 0xFF
def State.page (s : State) (e : Nat) : Option PageEnt := Store.look s.pages e
def State.setPage (s : State) (e : Nat) (p : PageEnt) : State := { s with pages := Store.put e p s.pages }

/-- The store of the log that covers a byte and that the agent sees; the later entries win (R277). -/
def NcStore.sees (n : NcStore) (g : Agent) : Bool :=
  (match g.stack with | some x => x == n.stack | none => false) || decide (g.scope ≤ n.reach)
def NcStore.covers (n : NcStore) (a : Nat) : Bool := decide (n.addr ≤ a) && decide (a < n.addr + n.bytes.length)

/-- A byte of memory as an agent sees it (R267, R277). -/
def State.readByte (s : State) (g : Agent) (a : Nat) : Byte :=
  s.nc.foldl (fun acc n => if n.covers a && n.sees g then n.bytes.getD (a - n.addr) 0 else acc) (Memory.byte s.mem a)

/-- The stores that every agent sees, from the oldest on, leave the log for memory. -/
def ncFold (mem : Memory) : List NcStore → Memory × List NcStore
  | [] => (mem, [])
  | n :: rest => if n.reach = 5 then ncFold (Memory.setBytes mem n.addr n.bytes) rest else (mem, n :: rest)
def State.ncSettle (s : State) : State :=
  match ncFold s.mem s.nc with
  | (m, l) => { s with mem := m, nc := l }

/-- A store at its point in the global order: to memory, or to the log of an NC page (R277). -/
def State.writeBytes (s : State) (nc : Bool) (g : Agent) (task : Nat) (copy : Option Nat) (a : Nat) (bs : List Byte) : State :=
  if nc then
    State.ncSettle { s with nc := s.nc ++ [⟨a, bs, g.stack.getD 4, if g.stack.isSome then 2 else 5, task, copy⟩] }
  else { s with mem := Memory.setBytes s.mem a bs }

/-- What a byte of a tensor reads as: zero where the page is not allocated (R309). -/
def State.tensorByte (s : State) (g : Agent) (t : Tensor) (off : Nat) : Byte :=
  let e := t.entry (off / t.pageBytes)
  if e = 0 then 0 else s.readByte g (pageAddr e (off % t.pageBytes))
def State.tensorBytes (s : State) (g : Agent) (t : Tensor) (off n : Nat) : List Byte :=
  (List.range n).map fun i => s.tensorByte g t (off + i)

/-- A store of bytes that lie in one page. -/
def State.writePage (s : State) (g : Agent) (task : Nat) (copy : Option Nat) (t : Tensor) (off : Nat) (bs : List Byte) : State :=
  let e := t.entry (off / t.pageBytes)
  match s.page e with
  | none => s
  | some p => s.writeBytes (p.coh == 0) g task copy (pageAddr e (off % t.pageBytes)) bs
/-- A store of bytes to a tensor. -/
def State.writeTensor (s : State) (g : Agent) (task : Nat) (copy : Option Nat) (t : Tensor) (off : Nat) (bs : List Byte) : State :=
  let room := t.pageBytes - off % t.pageBytes
  if bs.length ≤ room then s.writePage g task copy t off bs
  else (s.writePage g task copy t off (bs.take room)).writePage g task copy t (off + room) (bs.drop room)
/-- A cause that an access in flight meets, with its detail words (R207, R326, R336). -/
structure Meet where
  cause : Nat
  words : List Nat
  deriving DecidableEq, Repr

/-- The tile of 256 bytes that holds a byte of a page (R324). -/
def tileOf (off : Nat) : Nat := off / 256

/-- Key revoked and poisoned data, for one byte of a tensor (R326, R336, R341). -/
def State.meetByte (s : State) (t : Tensor) (off : Nat) : Option Meet :=
  let page := off / t.pageBytes
  let key := fun k g => some ⟨0x17, [t.id, page, k, g]⟩
  if t.cut then
    match s.page (t.entry page) with
    | some p => key p.key p.kgen
    | none => key t.keyslot (s.keyOf t.keyslot).gen
  else
    match s.page (t.entry page) with
    | none => none
    | some p =>
      if p.kgen ≠ (s.keyOf p.key).gen ∨ (s.keyOf p.key).st = .free then key p.key p.kgen
      else if p.bad.contains (tileOf (off % t.pageBytes)) then
        some ⟨0x0F, [t.id, page, tileOf (off % t.pageBytes), 3]⟩
      else none
def State.meet (s : State) (t : Tensor) (off n : Nat) : Option Meet :=
  (List.range n).findSome? fun i => s.meetByte t (off + i)

/-- Bytes of a tensor by id, as system agents of the device read them (records, headers, lists): free where the key is revoked or the tile
POISONED (log entry 1); zeros without a record. -/
def State.idBytes (s : State) (id off n : Nat) : List Byte :=
  match s.tensor id with
  | some t => (List.range n).map fun i =>
      if (s.meetByte t (off + i)).isSome then Config.freeBits 8 s.free (off + i) else s.tensorByte Agent.device t (off + i)
  | none => List.replicate n 0
/-- The cause that an error in flight gives an access to a byte of the device's own memory (R326, R329, R356): `read`, the access reads; a
page that is not PACKED always decodes. None where the error is no such one. -/
def State.localError (s : State) (t : Tensor) (off : Nat) (read : Bool) (e : AccessErr) : Option Meet :=
  let page := off / t.pageBytes
  let tile := tileOf (off % t.pageBytes)
  match s.page (t.entry page), e with
  | some x, .decode n => if read && x.pk then some ⟨0x0E, [t.id, page, tile, n]⟩ else none
  | some _, .data => if read then some ⟨0x0F, [t.id, page, tile, 1]⟩ else none
  | some _, .metadata => some ⟨0x0F, [t.id, page, tile, 2]⟩
  | _, _ => none

/-- The records of the tensors that name a page entry, changed: they share its page (R335). -/
def State.onSharers (s : State) (e : Nat) (f : Tensor → Tensor) : State :=
  { s with tensors := s.tensors.map fun kv => if e ≠ 0 ∧ kv.2.pages.any (fun x => x.2 == e) then (kv.1, f kv.2) else kv }
/-- A tile gets the code POISONED (R310, R326): POISON rises by one in each record whose page it lies in, and the tensor is POISONED, a
MOVING one when its move is done. -/
def State.poisonTile (s : State) (id page tile : Nat) : State :=
  match s.tensor id with
  | none => s
  | some t =>
    match s.page (t.entry page) with
    | none => s
    | some p =>
      if p.bad.contains tile then s
      else (s.setPage (t.entry page) { p with bad := p.bad ++ [tile] }).onSharers (t.entry page) fun t =>
        { t with poison := min 65535 (t.poison + 1), st := match t.st with | .resident | .packed | .spilled => .poisoned | x => x
                 after := if t.st = .moving ∧ t.after = .stay then .poison else t.after }

/-- The metadata code of a tile (R325): 3 POISONED, 0 for a tile of zeros, else 1 where its coded stream fits 160 bytes and 2 where it
does not, as the controller's coding has it for the tile's bytes (log entry 70). -/
def State.tileCode (s : State) (e i : Nat) : Nat :=
  let bs := Memory.bytes s.mem (pageAddr e (256 * i)) 256
  if (match s.page e with | some p => p.bad.contains i | none => false) then 3
  else if bs.all (· == 0) then 0 else if Config.packable bs then 1 else 2
/-- The tiles of a page that lie in the overflow area of its packed form (R324). -/
def rawTiles (s : State) (e n : Nat) : Nat := ((List.range n).filter fun i => s.tileCode e i == 2).length
/-- The bytes that a page of so many tiles takes when it is packed (R324). -/
def packedBytes (tiles raw : Nat) : Nat := 4096 * ((160 * tiles + 256 * raw + 4095) / 4096)

/-- The page summary of R310. -/
def State.summary (s : State) (t : Tensor) : TState :=
  let ps := t.pages.filterMap fun kv => s.page kv.2
  if ps.any (·.lpddr) then .spilled else if ps.any (·.pk) then .packed else .resident

/-- The page summaries of the tensors that name one of these page entries (R310). -/
def State.resummarize (s : State) (entries : List Nat) : State :=
  { s with tensors := s.tensors.map fun kv =>
      match kv.2.st with
      | .resident | .packed | .spilled =>
        if kv.2.pages.any fun x => entries.contains x.2 then (kv.1, { kv.2 with st := s.summary kv.2 }) else kv
      | _ => kv }

/-- HBM and LPDDR bytes that the pages and the save areas of a stack take. -/
def State.hbmUsed (s : State) (stack : Nat) : Nat :=
  (s.pages.foldl (fun acc kv => if kv.1 / 2 ^ 24 = stack && !kv.2.lpddr then acc + kv.2.bytes else acc) 0) +
    ((s.cur :: s.tasks).foldl (fun acc t => if t.core / 12 = stack then acc + t.saveArea else acc) 0)
def State.lpddrUsed (s : State) (stack : Nat) : Nat :=
  s.pages.foldl (fun acc kv => if kv.1 / 2 ^ 24 = stack && kv.2.lpddr then acc + kv.2.bytes else acc) 0

/-- Lines that a bank of the cellar holds. -/
def Stack.bankLines (k : Stack) (b : Bool × Nat) : Nat := (k.lines.filter fun l => l.upper == b.1 && l.bank == b.2).length
/-- A bank of a cellar that runs: neither racked nor being racked, with a free way (R2, R377). -/
def Stack.bankOpen (k : Stack) (b : Bool × Nat) : Bool :=
  let l := if b.1 then k.k1 else k.k0
  l.on && !l.racked.getLsbD b.2 && !k.racking.contains b && decide ((k.bankLines b + 1) * cellarLineBytes ≤ bankRoom)
/-- The 128 banks of a stack's cellar: the layer (true: K1) and the number. -/
def cellarBanks : List (Bool × Nat) := (List.range 128).map fun i => (decide (64 ≤ i), i % 64)
/-- A line taken into the cellar of a stack, while it is enabled, in a bank of the device's choice (log entry 78). -/
def State.fillLine (s : State) (stack entry off : Nat) (dirty : Bool) : State :=
  let k := s.stackOf stack
  if k.cellstat ≠ 1 ∨ k.lines.any (fun l => l.entry == entry && l.off == off) then s
  else match s.pick (cellarBanks.filter k.bankOpen |>.map fun b => b.2 + (if b.1 then 64 else 0)) with
    | some b => s.used.setStack stack { k with lines := k.lines ++ [⟨entry, off, decide (64 ≤ b), b % 64, dirty⟩] }
    | none => s
/-- The lines of a byte range of a tensor: page entry and offset. -/
def Tensor.linesOf (t : Tensor) (off n : Nat) : List (Nat × Nat) :=
  (if n = 0 then [] else List.range ((off + n - 1) / cellarLineBytes - off / cellarLineBytes + 1)).filterMap fun i =>
    let a := (off / cellarLineBytes + i) * cellarLineBytes
    if t.entry (a / t.pageBytes) = 0 then none else some (t.entry (a / t.pageBytes), a % t.pageBytes)
/-- The cellar lines of some places changed, or taken away (R242, R244). -/
def State.onLines (s : State) (stack : Nat) (places : List (Nat × Nat)) (f : CellarLine → Option CellarLine) : State :=
  let k := s.stackOf stack
  if k.lines.isEmpty then s
  else s.setStack stack { k with lines := k.lines.filterMap fun l => if places.contains (l.entry, l.off) then f l else some l }

/-- A page entry that no page list names is freed with its bytes (R341). -/
def State.freePage (s : State) (e : Nat) : State :=
  { s with pages := Store.del e s.pages, mem := Memory.clear s.mem (pageAddr e 0) (pageAddr e 65536)
           nc := s.nc.filter fun n => decide (n.addr / 65536 ≠ e) }
/-- A page list loses its reference (R341). -/
def State.dropRef (s : State) (e : Nat) : State :=
  match s.page e with
  | none => s
  | some p => if p.ref ≤ 1 then s.freePage e else s.setPage e { p with ref := p.ref - 1 }
/-- Every page of a tensor given up. -/
def State.freePages (s : State) (t : Tensor) : State :=
  (t.pages.foldl (fun s kv => s.dropRef kv.2) s).setTensor { t with pages := [], root := 0 }

/-- A page entry of a stack that no page list names (R335): entries 1 to 2^24 − 1 of its pool, those never used first. -/
def State.freeEntry (s : State) (st : Nat) : Option Nat :=
  let n := (s.stackOf st).nextEntry
  if n < 2 ^ 24 then some (st * 2 ^ 24 + n) else (List.range (2 ^ 24)).findSome? fun i =>
    if i ≠ 0 ∧ (s.page (st * 2 ^ 24 + i)).isNone then some (st * 2 ^ 24 + i) else none
/-- Page entries that a stack's pool has left. -/
def State.entriesLeft (s : State) (st : Nat) : Nat := 2 ^ 24 - 1 - (s.pages.filter fun kv => kv.1 / 2 ^ 24 == st).length
/-- A new page entry for a tensor: zeros, under the tensor's key (R336, R338), in a frame of the device's choice. The first one gives the
page list its root. -/
def State.newPage (s : State) (t : Tensor) (page : Nat) (key : Nat) : State :=
  let st := homeOf t.id
  match s.freeEntry st with
  | none => s
  | some e =>
    let k := s.stackOf st
    let p : PageEnt := { frame := Config.freeNat s.free 1 % 2 ^ 40, lpddr := false, pk := false, coh := t.coh, key := key
                         kgen := (s.keyOf key).gen, ref := 1, fill := 0, bad := [], bytes := t.pageBytes }
    let root := if t.pages.isEmpty then Config.freeNat s.free 0 % 2 ^ 40 else t.root
    ((s.used.setStack st { k with nextEntry := min (2 ^ 24) (k.nextEntry + 1) }).setPage e p).setTensor { t with root := root, pages := Store.put page e t.pages }
/-- A page in its new form or tier (R324, R336): it lies in another frame, of the device's choice. -/
def State.refit (s : State) (e : Nat) (p : PageEnt) : State := s.used.setPage e { p with frame := Config.freeNat s.free 1 % 2 ^ 40 }

/-- A page decrypted and encrypted again under another slot (R338). -/
def State.rekey (s : State) (e key : Nat) : State :=
  match s.page e with
  | none => s
  | some p => s.setPage e { p with key := key, kgen := (s.keyOf key).gen }

/-- Copy-on-write (R338). -/
def State.copyPage (s : State) (t : Tensor) (page key : Nat) : State :=
  let e := t.entry page
  match s.page e with
  | none => s
  | some p =>
    let s1 := s.newPage t page key
    match s1.tensor t.id with
    | none => s1
    | some t1 =>
      let f := t1.entry page
      let s2 := match s1.page f with
        | some pf => s1.setPage f { pf with fill := p.fill, bad := p.bad }
        | none => s1
      let cells : Memory := s2.mem.filterMap fun (c : Host.Cell) =>
        if c.1 / 65536 = e then some (pageAddr f (c.1 % 65536), c.2) else none
      let log := s2.nc.filterMap fun n =>
        if n.addr / 65536 = e then some { n with addr := pageAddr f (n.addr % 65536) } else none
      ({ s2 with mem := cells.foldl (fun (m : Memory) (c : Host.Cell) => Memory.setByte m c.1 c.2) s2.mem
                 nc := s2.nc ++ log }).setPage e { p with ref := p.ref - 1 }

/-- A PACKED page unpacked into a PLAIN frame of its tier, so that a write reaches a PLAIN page (R324). -/
def State.plainPage (s : State) (t : Tensor) (page : Nat) : State :=
  match s.page (t.entry page) with
  | some p => if p.pk then (s.refit (t.entry page) { p with pk := false, bytes := t.pageBytes }).resummarize [t.entry page] else s
  | none => s
/-- The steps of R338 and R386 for one page that is about to be written, apart from its form; for a tensor without PAGED, a missing page is
allocated under KEYSLOT. -/
def State.claimPage (s : State) (id page : Nat) : State :=
  match s.tensor id with
  | none => s
  | some t =>
    let e := t.entry page
    if e = 0 then s.newPage t page t.keyslot
    else
      match s.page e with
      | none => s
      | some p =>
        if p.ref > 1 then s.copyPage t page t.keyslot
        else if t.paged && p.key != t.keyslot then s.rekey e t.keyslot
        else s
/-- A page made a tensor's own and PLAIN before it is written (R324, R338, R386). -/
def State.ownPage (s : State) (id page : Nat) : State :=
  let s := s.claimPage id page
  match s.tensor id with
  | some t => s.plainPage t page
  | none => s

/-- A store of the device or of the host to a tensor that no task holds, byte by byte: a missing page is
allocated (R309). -/
def State.writeId (s : State) (id off : Nat) (bs : List Byte) : State :=
  ((List.range bs.length).zip bs).foldl (fun s p => match s.tensor id with
    | none => s
    | some t => (s.ownPage id ((off + p.1) / t.pageBytes)).writePage Agent.device 0 none
        (((s.ownPage id ((off + p.1) / t.pageBytes)).tensor id).getD t) (off + p.1) [p.2]) s

/-- Every page that a byte range covers. -/
def Tensor.pagesOf (t : Tensor) (off n : Nat) : List Nat :=
  if n = 0 then [] else (List.range ((off + n - 1) / t.pageBytes - off / t.pageBytes + 1)).map (· + off / t.pageBytes)

/-- The bytes of a range of elements. -/
def Tensor.byteRange (t : Tensor) (h : Hold) : Nat × Nat := (h.first * elemBytes t.fmt, h.count * elemBytes t.fmt)

end Sys2Proof.Machine
end

