-- ==== Sys2Proof/Machine/Operands.lean ====
section
/-! DEFINITION. Operands: registers and their results in flight (R37, R38, R46, R132), guards (R55), the scratchpad window and
its undo log (R53, R193, R254). -/

namespace Sys2Proof.Machine

/-- The storage slot of a scalar name under a rotation count (R132). -/
def sSlot (rho i : Nat) : Nat := if 40 ≤ i ∧ i < 56 then 40 + (i - 40 + 16 - rho % 16) % 16 else i
/-- The storage slot of a vector name in a frame of f registers (R132). -/
def vSlot (f rho i : Nat) : Nat :=
  if f - 64 ≤ i ∧ i < f then f - 64 + (i - (f - 64) + 64 - rho % 64) % 64 else i

/-- The register that a result writes, for the overlap rule of R38; none for what lands in the next clock. -/
def Dest.key : Dest → Option (Nat × Nat)
  | .s i _ => some (0, i)
  | .q i _ => some (1, i)
  | .p i _ _ => some (2, i)
  | .v i _ _ => some (3, i)
  | .handle i _ => some (4, i)
  | _ => none

/-- The clock by which a result has landed for certain (R37). -/
def Pend.last (p : Pend) : Nat := p.clk + p.bound
/-- The result has landed by clock u (R37); within its window this is the device's choice. -/
def Pend.landed (p : Pend) (u : Nat) : Bool :=
  if p.bound ≤ 1 then decide (p.clk + 1 ≤ u) else decide (p.clk + 1 + Config.landing p.tag % p.bound ≤ u)

/-- Merge the written bytes of a register into its old value. -/
def mergeV (old val : VWord) (mask : PWord) : VWord :=
  packV 8 ((List.range 128).map fun i => if mask.getLsbD i then fld val.toNat (8 * i) 8 else fld old.toNat (8 * i) 8)
/-- Merge the written bits of a predicate. -/
def mergeP (old val mask : PWord) : PWord := (old &&& ~~~mask) ||| (val &&& mask)

/-- A hole of a window without the bytes from a on, n of them. -/
def Hole.cut (a n : Nat) (h : Hole) : List Hole :=
  (if h.lo < min a h.hi then [{ h with hi := min a h.hi }] else []) ++
    (if max (a + n) h.lo < h.hi then [{ h with lo := max (a + n) h.lo }] else [])

/-- A byte of a window (R53); undefined in a hole. -/
def Window.byte (w : Window) (a : Nat) : Byte :=
  match w.holes.find? fun h => decide (h.lo ≤ a) && decide (a < h.hi) with
  | some h => Config.freeBits 8 h.epoch a
  | none => Memory.byte w.bytes a
def Window.read (w : Window) (a n : Nat) : List Byte := (List.range n).map fun i => w.byte (a + i)
def Window.write (w : Window) (a : Nat) (bs : List Byte) : Window :=
  ⟨Memory.setBytes w.bytes a bs, (w.holes.map (Hole.cut a bs.length)).flatten⟩
/-- A range that holds undefined values from now on (R231). -/
def Window.spoil (w : Window) (lo hi epoch : Nat) : Window :=
  if lo < hi then ⟨Memory.clear w.bytes lo hi, (w.holes.map (Hole.cut lo (hi - lo))).flatten ++ [⟨lo, hi, epoch⟩]⟩ else w

/-- The bindings that an undefined handle may be made of (R11): what the task's handles are bound to or may come to be, and the ranges that it holds. -/
def Task.bindings (t : Task) : List Binding :=
  t.holds.map (fun h => ⟨h, false⟩) ++ t.arch.h.filterMap (·.2) ++ t.pend.filterMap fun p => match p.dest with | .handle _ b => b | _ => none
/-- What an undefined handle is bound to (R11, R37, R38): nothing, or a part of a range that the task may use, in some of its modes (log entry 63). -/
def Task.anyBinding (t : Task) (tag k : Nat) : Option Binding :=
  let c := fun (i : Nat) => Config.choice tag (8 * k + i)
  (t.bindings[c 0 % (t.bindings.length + 1)]?).map fun b =>
    let lo := c 1 % (b.hold.count + 1)
    ⟨{ b.hold with first := b.hold.first + lo, count := c 2 % (b.hold.count - lo + 1), mode := b.hold.mode &&& c 3 }, b.own⟩
/-- A result lands in its register; an undefined one as a free value. -/
def Arch.land (a : Arch) (d : Dest) (undef : Bool) (tag : Nat) : Arch :=
  match d with
  | .s i v => { a with s := if undef then Store.put i (Config.freeBits 64 tag 0) a.s else Store.set 0 a.s i v }
  | .q i v =>
    let x := if undef then (Config.freeNat tag 0) % 2 == 1 else v
    { a with q := if x then a.q ||| (1#16 <<< i) else a.q &&& ~~~(1#16 <<< i) }
  | .p i v m =>
    { a with p := if undef then Store.put i (Config.freeBits 128 tag 0) a.p else Store.set 0 a.p i (mergeP (Store.get 0 a.p i) v m) }
  | .v i v m =>
    { a with v := if undef then Store.put i (Config.freeBits 1024 tag 0) a.v
                  else Store.set 0 a.v i (if m = BitVec.allOnes 128 then v else mergeV (Store.get 0 a.v i) v m) }
  | .tctl v => { a with tctl := v }
  | .tstat v => { a with tstat := v }
  | .trapRec v => { a with trapRec := v }
  | .lix v => { a with lix := v }
  | .od i v => { a with od := Store.set none a.od i v }
  | .nest i v => { a with nest := Store.set none a.nest i (some v) }
  | .wd i v => { a with wd := Store.set none a.wd i (some v) }
  | .handle i v => { a with h := Store.set none a.h i v }
  | .qcap i c => { a with rq := Store.set ResQ.init a.rq i { Store.get ResQ.init a.rq i with cap := c } }
  | .store _ _ => a
  | .rot => { a with rho := a.rho + 1 }
  | .flags => a

/-- The landing clock of a result. -/
def Pend.landAt (p : Pend) : Nat := if p.bound ≤ 1 then p.clk + 1 else p.clk + 1 + Config.landing p.tag % p.bound

/-- A write of TSTAT among results: the clock in which it lands and its value. -/
def tstatWrite (ps : List Pend) : Option (Nat × Flags) :=
  ps.foldl (fun acc p => match p.dest with | .tstat v => some (p.clk + 1, v) | _ => acc) none
/-- TSTAT after results have landed: a write replaces what landed before its clock (R60). -/
def landFlags (old : Flags) (ps : List Pend) : Flags :=
  match tstatWrite ps with
  | none => ps.foldl (fun acc p => acc ||| p.flags) old
  | some (w, v) => ps.foldl (fun acc p => if w ≤ p.landAt then acc ||| p.flags else acc) v
/-- Flags of results in flight that landed before a write of TSTAT are replaced by it (R60). -/
def replaced (ps : List Pend) (rest : List Pend) : List Pend :=
  match tstatWrite ps with
  | none => rest
  | some (w, _) => rest.map fun p => if p.landAt < w then { p with flags := 0 } else p

/-- A byte lies in a copy's footprint. -/
def Flow.covers (f : Flow) (a : Nat) : Bool := decide (f.lo ≤ a) && decide (a < f.hi)
/-- The writes to a byte that a read of the task may return (R274), where the window holds `now`. -/
def Races.live (r : Races) (a : Nat) (now : Byte) : List Race :=
  match r.alts.filter (·.addr == a) with
  | [] => [⟨0, a, now, []⟩]
  | l => l
/-- Those writes replaced. One that every read follows, and every copy in flight, needs no entry; a copy that reads the byte may carry
what is replaced (R206). -/
def Races.settle (r : Races) (a : Nat) (old new : List Race) : Races :=
  let plain := match new with | [x] => x.copy == 0 && x.late.isEmpty | _ => false
  let gone := old.filter fun x => !new.contains x
  { r with alts := r.alts.filter (·.addr != a) ++ (if plain then [] else new)
           sources := r.sources ++ (gone.map fun x => (r.outbound.filter (·.covers a)).map fun (f : Flow) => (f.copy, a, x.byte)).flatten }
/-- A byte of the window, `now` before, is written by the task (0) or by a copy. The task's write follows those of the task and of joined
copies; no copy in flight over the byte follows either (R206). -/
def Races.write (r : Races) (who a : Nat) (now new : Byte) : Races :=
  let old := r.live a now
  let late := (r.inbound.filter fun (f : Flow) => f.covers a && f.copy != who).map (·.copy)
  r.settle a old ((if who = 0 then old.filter (·.copy != 0) else old) ++ [⟨who, a, new, if who = 0 then late else who :: late⟩])
/-- No copy that is not joined touches the window. -/
def Races.idle (r : Races) : Bool := r.inbound.isEmpty && r.outbound.isEmpty && r.alts.isEmpty
/-- A range that the task has written at a stamp, or that a copy has, beside the others: one that it continues is one with it, and those that it
covers are superseded (R275). -/
def noteFresh (l : List Fresh) (new : Fresh) : List Fresh :=
  match l with
  | [] => [new]
  | f :: rest =>
    if f.stamp = new.stamp ∧ f.copy = new.copy ∧ f.lo ≤ new.lo ∧ new.lo ≤ f.hi then { f with hi := max f.hi new.hi } :: rest
    else new :: (f :: rest).filter fun g => !(decide (new.lo ≤ g.lo) && decide (g.hi ≤ new.hi))
/-- The places of a task and of a copy in what somebody knows. -/
def taskKey (id : Nat) : Nat := 2 * id
def copyKey (id : Nat) : Nat := 2 * id + 1
/-- What two know together. -/
def mergeSeen (a b : Store Nat) : Store Nat := b.foldl (fun m kv => Store.put kv.1 (max kv.2 (Store.get 0 m kv.1)) m) a
/-- What happens before an act of the task now: what it knows, and all that it has done. -/
def Task.clock (t : Task) : Store Nat := Store.put (taskKey t.id) t.stamp t.arch.seen
/-- Whoever knows `seen` follows the writing of bytes of a task's window. -/
def Fresh.known (n : Fresh) (seen : Store Nat) (id : Nat) : Bool :=
  decide (n.stamp ≤ Store.get 0 seen (taskKey id)) || (n.copy != 0 && decide (1 ≤ Store.get 0 seen (copyKey n.copy)))
/-- Bytes written to the window by a store of the task or by a copy; array operations under way may read what they were before (R179). -/
def Task.put (t : Task) (who : Option Nat) (a : Nat) (bs : List Byte) : Task :=
  let old := (List.range bs.length).map fun i => (a + i, t.win.byte (a + i))
  { t with win := t.win.write a bs
           array := if t.array.isEmpty then [] else t.array.map fun o => { o with mids := o.mids ++ old }
           races := if t.races.idle then t.races else (old.zip bs).foldl (fun r x => r.write (who.getD 0) x.1.1 x.1.2 x.2) t.races
           news := if who.isNone && !bs.isEmpty then noteFresh t.news ⟨a, a + bs.length, t.stamp, 0⟩ else t.news }
/-- A byte of the window as the task reads it at a time in a slot: one of the writes that race for it (R206, R274). -/
def Task.racedByte (t : Task) (now slot a : Nat) : Byte :=
  let l := t.races.live a (t.win.byte a)
  ((l[Config.raced now slot a % l.length]?).map (·.byte)).getD 0
/-- The writes to a byte once copies are joined: none that comes before the write of a joined copy is read any more (R272, R274). -/
def joinWrites (ids : List Nat) (l : List Race) : List Race :=
  (l.filter fun z => !l.any fun y => ids.contains y.copy && !z.late.contains y.copy).map fun z =>
    { z with copy := if ids.contains z.copy then 0 else z.copy, late := z.late.filter fun c => !ids.contains c }
/-- Copies joined, for one byte: of the writes that every later read follows, it keeps one (R206). What raced before is kept for a rollback; of a line
that the undo log holds, what copies wrote. -/
def Task.joinByte (now : Nat) (ids : List Nat) (t : Task) (a : Nat) : Task :=
  let old := t.races.live a (t.win.byte a)
  let l := joinWrites ids old
  let done := l.filter (·.copy == 0)
  let new := l.filter (·.copy != 0) ++ (done[Config.raced now 16 a % done.length]?).toList
  let logged := t.undo.any (·.line == a / 64)
  let past := (if logged then old.filter (·.copy != 0) else old).filter fun x => !t.races.past.contains x
  match new.getLast? with
  | some x => { t with win := t.win.write a [x.byte], races := { t.races with past := t.races.past ++ past }.settle a old new }
  | none => t
/-- Copies joined for a task (R206, R274). The task knows what came before the copies of others; the bytes that the copies wrote are its own to make
known (R275). -/
def Task.joinRaces (t : Task) (now : Nat) (ids : List Nat) : Task :=
  let mine := t.races.alts.filter fun x => ids.contains x.copy || x.late.any fun c => ids.contains c
  let t1 := ((mine.map (·.addr)).eraseDups).foldl (Task.joinByte now ids) t
  let r := t1.races
  let own := r.inbound.filter fun (f : Flow) => ids.contains f.copy
  let seen := own.foldl (fun m (f : Flow) => if f.task = t.id then m else Store.put (copyKey f.copy) 1 (mergeSeen m f.clock)) t1.arch.seen
  { t1 with races := { r with inbound := r.inbound.filter fun f => !ids.contains f.copy, outbound := r.outbound.filter fun f => !ids.contains f.copy
                              pastIn := r.pastIn ++ own, sources := r.sources.filter fun x => !ids.contains x.1 }
            arch := { t1.arch with seen := seen }
            news := (t.races.alts.filter fun x => ids.contains x.copy).foldl (fun l x => noteFresh l ⟨x.addr, x.addr + 1, t.stamp, x.copy⟩) t1.news }
/-- A copy that writes the window forks (R272). Of the writes that may still be read it follows the task's own, but for the `loose`
bytes, and those of copies that its task has joined (`known`). -/
def Races.fork (r : Races) (f : Flow) (win : Window) (known : Nat → Bool) (loose : List Fresh) : Races :=
  let isLoose := fun (a : Nat) => loose.any fun n => decide (n.lo ≤ a) && decide (a < n.hi)
  let bare := ((loose.map fun n => (List.range (min n.hi f.hi - max n.lo f.lo)).map (· + max n.lo f.lo)).flatten.eraseDups).filter fun a =>
    !r.alts.any (·.addr == a)
  { r with inbound := r.inbound ++ [f]
           alts := (r.alts.map fun (x : Race) =>
               if f.covers x.addr && (if x.copy = 0 then isLoose x.addr else !known x.copy) then { x with late := x.late ++ [f.copy] } else x)
             ++ bare.map fun a => ⟨0, a, win.byte a, [f.copy]⟩ }
/-- The writes to a byte that race after a rollback (R204 to R206, R255): those of copies that the rollback does not discard, made before the checkpoint
or since, whose joins are still to be made again; and what the task's byte was at the checkpoint, on a line that the log restores. -/
def Races.undoByte (r : Races) (lost : List Nat) (win : Window) (logged : Bool) (a : Nat) : List Race :=
  let at_ := fun (l : List Race) => (l.filter fun (x : Race) => x.addr == a && !lost.contains x.copy).map fun (x : Race) =>
    { x with late := x.late.filter fun c => !lost.contains c }
  let copies := ((at_ r.kept ++ at_ r.past ++ at_ r.alts).filter (·.copy != 0)).eraseDups
  let base := (at_ r.kept ++ at_ r.past ++ if logged then [] else at_ r.alts).filter (·.copy == 0)
  (if base.isEmpty then [⟨0, a, win.byte a, (copies.map (·.copy)).eraseDups⟩] else base.eraseDups) ++ copies
/-- What races in a window after a rollback has discarded copies and restored lines. A copy joined since the checkpoint is joined no longer, and one
that a phase counted since is not counted (R215). -/
def Races.undo (r : Races) (lost : List Nat) (win : Window) (lines : List Nat) : Races :=
  let back := fun (f : Flow) => { f with counted := r.flows.any fun (g : Flow) => g.copy == f.copy && g.counted }
  let still := fun (l : List Flow) => (l.filter fun (f : Flow) => !lost.contains f.copy).map back
  let bytes := ((r.kept ++ r.past ++ r.alts).filter fun (x : Race) => !lost.contains x.copy).map (·.addr)
  let alts := (bytes.eraseDups.map fun a => r.undoByte lost win (lines.contains (a / 64)) a).filter fun l =>
    match l with | [x] => !(x.copy == 0 && x.late.isEmpty) | _ => true
  { r with inbound := still (r.inbound ++ r.pastIn), outbound := still r.outbound, alts := alts.flatten, past := [], pastIn := []
           sources := r.sources.filter fun x => !lost.contains x.1 }
/-- What races as a checkpoint keeps it. -/
def Races.keep (r : Races) : Races := { r with kept := r.alts, flows := r.inbound ++ r.outbound, past := [], pastIn := [] }

/-- One result whose window has ended. -/
def Task.land (t : Task) (p : Pend) : Task :=
  match p.dest with
  | .store ad bs => t.put none ad bs
  | .tstat _ => t
  | .handle i v => { t with arch := t.arch.land (.handle i (if p.undef then t.anyBinding p.tag 0 else v)) false 0 }
  | d => { t with arch := t.arch.land d p.undef p.tag }

/-- Every result whose window has ended by clock u lands, in issue order. -/
def Task.settle (t : Task) (u : Nat) : Task :=
  let due := t.pend.filter fun p => decide (p.last ≤ u)
  if due.isEmpty then t
  else
    let t1 := due.foldl Task.land { t with pend := replaced due (t.pend.filter fun p => !decide (p.last ≤ u)) }
    { t1 with arch := { t1.arch with tstat := landFlags t1.arch.tstat due } }

/-- The results in flight to a register that were issued before clock u. -/
def Task.flight (t : Task) (u : Nat) (key : Nat × Nat) : List Pend :=
  t.pend.filter fun p => decide (p.clk < u) && p.dest.key == some key

/-- What a read of a register returns (R37): the register where nothing is in flight to it; the one result in flight if it
has landed; otherwise an undefined value. -/
def readReg {w : Nat} (u : Nat) (base : BitVec w) (val : Dest → BitVec w) : List Pend → BitVec w
  | [] => base
  | [p] => if !p.undef && p.landed u then val p.dest else Config.freeBits w p.tag (u + 1)
  | p :: _ => Config.freeBits w p.tag (u + 1)

/-- A scalar register (R46, R132). -/
def State.rdS (s : State) (i : Nat) : Word :=
  if i = 0 then 0
  else
    let j := sSlot s.cur.arch.rho i
    let base := Store.get 0 s.cur.arch.s j
    readReg s.clk base (fun d => match d with | .s _ v => v | _ => base) (s.cur.flight s.clk (0, j))

/-- A scalar predicate (R46). -/
def State.rdQ (s : State) (i : Nat) : Bool :=
  if i = 0 then true
  else
    let base := BitVec.ofBool (s.cur.arch.q.getLsbD i)
    (readReg s.clk base (fun d => match d with | .q _ v => BitVec.ofBool v | _ => base) (s.cur.flight s.clk (1, i))).getLsbD 0

/-- A lane predicate (R46). -/
def State.rdP (s : State) (i : Nat) : PWord :=
  if i = 0 then BitVec.allOnes 128
  else
    let base := Store.get 0 s.cur.arch.p i
    readReg s.clk base (fun d => match d with | .p _ v m => mergeP base v m | _ => base) (s.cur.flight s.clk (2, i))

/-- A vector register (R132). -/
def State.rdV (s : State) (i : Nat) : VWord :=
  let j := vSlot s.cur.hdr.frame s.cur.arch.rho i
  let base := Store.get 0 s.cur.arch.v j
  readReg s.clk base (fun d => match d with | .v _ v m => mergeV base v m | _ => base) (s.cur.flight s.clk (3, j))

/-- TSTAT with the flags that have landed (R60). -/
def State.rdTstat (s : State) : Flags :=
  s.cur.pend.foldl (fun acc p => if p.flags = 0 then acc else if decide (p.clk < s.clk) && p.landed s.clk then acc ||| p.flags else acc)
    s.cur.arch.tstat

/-- What a handle is bound to (R50). While a result of TDEF, TGROW or TFREE is on its way to it, a read finds that result, if it has landed, or
an undefined handle (R37). -/
def State.handleOf (s : State) (h : Nat) : Option Binding :=
  match s.cur.flight s.clk (4, h) with
  | [] => Store.get none s.cur.arch.h h
  | [p] => if !p.undef && p.landed s.clk then (match p.dest with | .handle _ v => v | _ => none) else s.cur.anyBinding p.tag (s.clk + 1)
  | p :: _ => s.cur.anyBinding p.tag (s.clk + 1)

/-- The guard of a slot is true (R55). -/
def State.guardOn (s : State) (g : Guard) : Bool := s.rdQ g.q != g.neg

/-- A result set on its way at the clock of the issuing bundle. Results that overlap leave the register undefined (R38). -/
def Task.emit (t : Task) (u tag : Nat) (d : Dest) (bound : Nat) (fl : Flags) : Task :=
  let olap := t.pend.filter fun p => d.key.isSome && p.dest.key == d.key && decide (u + 1 ≤ p.last)
  if olap.isEmpty then { t with pend := t.pend ++ [⟨u, bound, d, fl, false, tag⟩] }
  else
    let last := olap.foldl (fun acc p => max acc p.last) (u + bound)
    { t with pend := (t.pend.map fun p => if d.key.isSome && p.dest.key == d.key && decide (u + 1 ≤ p.last) then { p with undef := true } else p)
                ++ [⟨u, last - u, d, 0, true, tag⟩, ⟨u, bound, .flags, fl, false, tag⟩] }
def State.emit (s : State) (d : Dest) (bound : Nat) (fl : Flags) : State :=
  { s with cur := s.cur.emit s.clk s.free d bound fl, free := s.free + 1 }

/-- A result to a scalar register; s0 discards it (R46). The flags land all the same. -/
def State.emitS (s : State) (i : Nat) (v : Word) (bound : Nat) (fl : Flags) : State :=
  if i = 0 then s.emit .flags bound fl else s.emit (.s (sSlot s.cur.arch.rho i) v) bound fl
def State.emitQ (s : State) (i : Nat) (v : Bool) (bound : Nat) : State :=
  if i = 0 then s else s.emit (.q i v) bound 0
def State.emitP (s : State) (i : Nat) (r : PRes) (bound : Nat) : State :=
  if i = 0 then s else s.emit (.p i r.val r.mask) bound 0
def State.emitV (s : State) (i : Nat) (r : VRes) (bound : Nat) : State :=
  s.emit (.v (vSlot s.cur.hdr.frame s.cur.arch.rho i) r.val r.mask) bound r.flags

/-- The outcome of a slot that ran. -/
def State.ran (s : State) : Host.Outcome State Fault Refusal := .next { s with ctx := { s.ctx with out := .ran } }
/-- The outcome of a slot that holds its bundle at issue (R40). -/
def State.hold (s : State) : Host.Outcome State Fault Refusal := .next { s with ctx := { s.ctx with out := .held } }

/-- The slot number of the slot that executes (R19). -/
def State.slotNo (s : State) : Nat := s.ctx.slot.number
/-- A cause that the executing slot raises. -/
def State.raise (s : State) (cause : Nat) (words : List Nat) : Raise := ⟨cause, s.slotNo, words, none⟩

/-- Scratchpad-window fault: some byte of the access lies at or beyond the window size (R53, R196). -/
def State.winFault (s : State) (a n : Nat) : Option Raise :=
  if n = 0 ∨ a + n ≤ s.cur.hdr.window then none
  else some (s.raise 4 [max a s.cur.hdr.window, s.cur.hdr.window, 0xFF, s.slotNo])

/-- The 64-byte lines that a range of window bytes touches (R254). -/
def linesOf (a n : Nat) : List Nat := if n = 0 then [] else (List.range ((a + n - 1) / 64 - a / 64 + 1)).map (· + a / 64)
/-- Those of the lines that the undo log does not hold yet. -/
def Task.newLines (t : Task) (ls : List Nat) : List Nat :=
  ls.foldl (fun acc l => if acc.contains l || t.undo.any (·.line == l) then acc else acc ++ [l]) []
/-- The lines logged with their old bytes (R254). -/
def Task.log (t : Task) (ls : List Nat) : Task :=
  { t with undo := t.undo ++ (t.newLines ls).map fun l => ⟨l, t.win.read (64 * l) 64⟩ }
/-- Withhold overflow: the undo log is full (R254, R208). -/
def State.logFault (s : State) (ls : List Nat) : Option Raise :=
  if s.cur.undo.length + (s.cur.newLines ls).length ≤ 4096 then none
  else some (s.raise 9 [1, s.cur.undo.length, 4096, s.slotNo])

/-- A store to the window: logged now, read by every later bundle (R193, R254). -/
def State.store (s : State) (a : Nat) (bs : List Byte) : State :=
  { s with cur := s.cur.log (linesOf a bs.length) }.emit (.store a bs) 1 0

/-- The bytes of the window as they stand at issue (R193), or as copies that are not joined leave them (R206). -/
def State.spad (s : State) (a n : Nat) : List Byte :=
  if s.cur.races.alts.isEmpty then s.cur.win.read a n else (List.range n).map fun i => s.cur.racedByte s.now s.slotNo (a + i)
/-- A little-endian field of the window. -/
def State.spadNat (s : State) (a n : Nat) : Nat := leNat (s.spad a n)

/-- A change to the registers of the task in focus that no later slot of the bundle can tell from one at the next clock. -/
def State.arch (s : State) (f : Arch → Arch) : State := { s with cur := { s.cur with arch := f s.cur.arch } }

def Arch.tile (a : Arch) (i : Nat) : Tile := Store.get [] a.tiles i
def Arch.queue (a : Arch) (i : Nat) : ResQ := Store.get ResQ.init a.rq i
def Arch.token (a : Arch) (i : Nat) : Token := Store.get Token.init a.k i
def Arch.handle (a : Arch) (i : Nat) : Option Binding := Store.get none a.h i
def Arch.barrier (a : Arch) (i : Nat) : BitVec 128 := Store.get 0 a.b i
def Arch.setTile (a : Arch) (i : Nat) (t : Tile) : Arch := { a with tiles := Store.set [] a.tiles i t }
def Arch.setQueue (a : Arch) (i : Nat) (q : ResQ) : Arch := { a with rq := Store.set ResQ.init a.rq i q }
def Arch.setToken (a : Arch) (i : Nat) (t : Token) : Arch := { a with k := Store.set Token.init a.k i t }
def Arch.setBarrier (a : Arch) (i : Nat) (b : BitVec 128) : Arch := { a with b := Store.set 0 a.b i b }

/-- A bit field of a descriptor, as a number. -/
def bf {w : Nat} (d : BitVec w) (lo len : Nat) : Nat := fld d.toNat lo len
/-- A field of a record of bytes, little-endian. -/
def recF (r : List Byte) (off n : Nat) : Nat := leNat ((r.drop off).take n)
/-- Every byte of a range of a record is zero. -/
def recZero (r : List Byte) (off n : Nat) : Bool := ((r.drop off).take n).all (· == 0)
/-- The offset of a field that should be zero and is not. -/
def recField (r : List Byte) (off n : Nat) : Option Nat := if recZero r off n then none else some off
/-- The offset of the first nonzero byte of a range. -/
def recFirst (r : List Byte) (off n : Nat) : Option Nat := ((List.range n).find? fun i => r.getD (off + i) 0 != 0).map (· + off)

end Sys2Proof.Machine
end

