-- ==== Sys2Proof/Machine/Legal.lean ====
section
/-! DEFINITION. What a bundle may hold (R41 to R43, R127) and what it charges (R95 to R110). -/

namespace Sys2Proof.Machine

/-- The ports and places that an operation uses: scalar sources and destinations (R42), other destinations as kind and
number (R41 item 6: 1 q, 2 p, 3 v, 4 tile, 5 token, 6 wd, 7 barrier, 8 lc, 9 budget, 10 system register; a LOOP, which may write LIX, counts as a write of its lc register alone, log entry 64), the v registers
it names in field order and the tile (R43), its charge against BGI but for the MMA family's, its lane groups (R25). -/
structure Uses where
  reads  : List Nat := []
  writes : List Nat := []
  res    : List (Nat × Nat) := []
  vregs  : List Nat := []
  tile   : Option Nat := none
  charge : Nat := 1
  groups : Nat := 0

/-- The uses of each operation, from the tables of R95, R97, R100, R101, R103 and R106. SB of AMO counts as a read and as a write, as its row
of R106 has it (log entry 86). -/
def usesOf : Instr → Uses
  | .nop => { charge := 0 }
  | .add _ sd sa sb => { reads := [sa, sb], writes := [sd] }
  | .sub _ sd sa sb => { reads := [sa, sb], writes := [sd] }
  | .mul _ sd sa sb => { reads := [sa, sb], writes := [sd] }
  | .mulh _ sd sa sb => { reads := [sa, sb], writes := [sd] }
  | .div _ sd sa sb => { reads := [sa, sb], writes := [sd], charge := 4 }
  | .rem _ sd sa sb => { reads := [sa, sb], writes := [sd], charge := 4 }
  | .min _ sd sa sb => { reads := [sa, sb], writes := [sd] }
  | .max _ sd sa sb => { reads := [sa, sb], writes := [sd] }
  | .and _ sd sa sb => { reads := [sa, sb], writes := [sd] }
  | .or _ sd sa sb => { reads := [sa, sb], writes := [sd] }
  | .xor _ sd sa sb => { reads := [sa, sb], writes := [sd] }
  | .andn _ sd sa sb => { reads := [sa, sb], writes := [sd] }
  | .shl _ sd sa sb => { reads := [sa, sb], writes := [sd] }
  | .shr _ sd sa sb => { reads := [sa, sb], writes := [sd] }
  | .sra _ sd sa sb => { reads := [sa, sb], writes := [sd] }
  | .rol _ sd sa sb => { reads := [sa, sb], writes := [sd] }
  | .clz _ sd sa => { reads := [sa], writes := [sd] }
  | .ctz _ sd sa => { reads := [sa], writes := [sd] }
  | .popc _ sd sa => { reads := [sa], writes := [sd] }
  | .bfx _ sd sa sb => { reads := [sa, sb], writes := [sd] }
  | .bfi _ sd sa sb => { reads := [sd, sa, sb], writes := [sd] }
  | .sel _ sd _ sa sb => { reads := [sa, sb], writes := [sd] }
  | .cmp _ _ qd sa sb => { reads := [sa, sb], res := [(1, qd)] }
  | .addi _ sd sa _ => { reads := [sa], writes := [sd] }
  | .muli _ sd sa _ => { reads := [sa], writes := [sd] }
  | .andi _ sd sa _ => { reads := [sa], writes := [sd] }
  | .ori _ sd sa _ => { reads := [sa], writes := [sd] }
  | .xori _ sd sa _ => { reads := [sa], writes := [sd] }
  | .shli _ sd sa _ => { reads := [sa], writes := [sd] }
  | .shri _ sd sa _ => { reads := [sa], writes := [sd] }
  | .srai _ sd sa _ => { reads := [sa], writes := [sd] }
  | .cmpi _ _ qd sa _ => { reads := [sa], res := [(1, qd)] }
  | .ldi _ sd _ => { writes := [sd] }
  | .ldih _ sd _ => { reads := [sd], writes := [sd] }
  | .lea _ sd sa _ _ => { reads := [sa], writes := [sd] }
  | .fadd _ sd sa sb => { reads := [sa, sb], writes := [sd] }
  | .fsub _ sd sa sb => { reads := [sa, sb], writes := [sd] }
  | .fmul _ sd sa sb => { reads := [sa, sb], writes := [sd] }
  | .fma _ sd sa sb sc => { reads := [sa, sb, sc], writes := [sd] }
  | .fmin _ sd sa sb => { reads := [sa, sb], writes := [sd] }
  | .fmax _ sd sa sb => { reads := [sa, sb], writes := [sd] }
  | .fcmp _ _ qd sa sb => { reads := [sa, sb], res := [(1, qd)] }
  | .fcvt _ _ _ sd sa => { reads := [sa], writes := [sd] }
  | .qop _ qd _ _ _ => { res := [(1, qd)] }
  | .qmov _ qd sa => { reads := [sa], res := [(1, qd)] }
  | .movq _ sd => { writes := [sd] }
  | .br _ _ => { }
  | .call _ _ => { writes := [63] }
  | .ret _ => { reads := [63] }
  | .jr _ sa => { reads := [sa] }
  | .loop sa _ level _ _ _ => { reads := [sa], res := [(8, level)] }
  | .lbrk _ => { }
  | .rot _ => { }
  | .yld _ _ => { }
  | .endTask _ => { }
  | .trap _ _ => { }
  | .retc => { }
  | .bgrd _ sd _ => { writes := [sd] }
  | .bgtop _ sa sb => { reads := [sa, sb], res := [(9, 0), (9, 1)] }
  | .bggive _ sa sb bgt => { reads := [sa, sb], res := [(9, bit bgt)] }
  | .estm _ sa => { reads := [sa] }
  | .time _ sd => { writes := [sd] }
  | .cyc _ sd _ => { writes := [sd] }
  | .srd _ sd _ => { writes := [sd] }
  | .swr _ sa idx => { reads := [sa], res := [(10, idx)] }
  | .lnch _ sd qs sa => { reads := [sa], writes := [sd], res := [(1, qs)], charge := 8 }
  | .ljoin _ qs sa => { reads := [sa], res := [(1, qs)] }
  | .enq _ qs sa sb => { reads := [sa, sb], res := [(1, qs)] }
  | .ddec _ sa => { reads := [sa] }
  | .hint _ sa _ => { reads := [sa] }
  | .seqf _ sd qs sa => { reads := [sa], writes := [sd], res := [(1, qs)] }
  | .seqe _ sa => { reads := [sa] }
  | .tgrow _ _ qs sa => { reads := [sa], res := [(1, qs)] }
  | .tdef _ _ qs sa => { reads := [sa], res := [(1, qs)] }
  | .tfree _ _ => { }
  | .vadd f vd va vb => { res := [(3, vd)], vregs := [vd, va, vb], groups := f.w.groups }
  | .vsub f vd va vb => { res := [(3, vd)], vregs := [vd, va, vb], groups := f.w.groups }
  | .vmul f vd va vb => { res := [(3, vd)], vregs := [vd, va, vb], groups := f.w.groups }
  | .vmulh f vd va vb => { res := [(3, vd)], vregs := [vd, va, vb], groups := f.w.groups }
  | .vfma f vd va vb => { res := [(3, vd)], vregs := [vd, va, vb], groups := f.w.groups }
  | .vfms f vd va vb => { res := [(3, vd)], vregs := [vd, va, vb], groups := f.w.groups }
  | .vmin f vd va vb => { res := [(3, vd)], vregs := [vd, va, vb], groups := f.w.groups }
  | .vmax f vd va vb => { res := [(3, vd)], vregs := [vd, va, vb], groups := f.w.groups }
  | .vabs f vd va => { res := [(3, vd)], vregs := [vd, va], groups := f.w.groups }
  | .vneg f vd va => { res := [(3, vd)], vregs := [vd, va], groups := f.w.groups }
  | .vadds f vd va vb => { res := [(3, vd)], vregs := [vd, va, vb], groups := f.w.groups }
  | .vsubs f vd va vb => { res := [(3, vd)], vregs := [vd, va, vb], groups := f.w.groups }
  | .vavg f vd va vb => { res := [(3, vd)], vregs := [vd, va, vb], groups := f.w.groups }
  | .vand f vd va vb => { res := [(3, vd)], vregs := [vd, va, vb], groups := f.w.groups }
  | .vor f vd va vb => { res := [(3, vd)], vregs := [vd, va, vb], groups := f.w.groups }
  | .vxor f vd va vb => { res := [(3, vd)], vregs := [vd, va, vb], groups := f.w.groups }
  | .vandn f vd va vb => { res := [(3, vd)], vregs := [vd, va, vb], groups := f.w.groups }
  | .vnot f vd va => { res := [(3, vd)], vregs := [vd, va], groups := f.w.groups }
  | .vshl f vd va vb => { res := [(3, vd)], vregs := [vd, va, vb], groups := f.w.groups }
  | .vshr f vd va vb => { res := [(3, vd)], vregs := [vd, va, vb], groups := f.w.groups }
  | .vsra f vd va vb => { res := [(3, vd)], vregs := [vd, va, vb], groups := f.w.groups }
  | .vclz f vd va => { res := [(3, vd)], vregs := [vd, va], groups := f.w.groups }
  | .vpopc f vd va => { res := [(3, vd)], vregs := [vd, va], groups := f.w.groups }
  | .vcmp wid _ _ _ pd va vb => { res := [(2, pd)], vregs := [va, vb], groups := wid.groups }
  | .vsel wid _ _ vd va vb => { res := [(3, vd)], vregs := [vd, va, vb], groups := wid.groups }
  | .vclass f vd va => { res := [(3, vd)], vregs := [vd, va], groups := f.w.groups }
  | .vcvt f _ vd va => { res := [(3, vd)], vregs := [vd, va], groups := f.w.groups }
  | .vcvts f _ vd va => { res := [(3, vd)], vregs := [vd, va], groups := f.w.groups }
  | .vpack f vd va vb => { res := [(3, vd)], vregs := [vd, va, vb], groups := f.w.groups }
  | .vunpk f vd va _ => { res := [(3, vd)], vregs := [vd, va], groups := f.w.groups }
  | .vscl f vd va sb => { reads := [sb], res := [(3, vd)], vregs := [vd, va], groups := f.w.groups }
  | .vrnd f vd va => { res := [(3, vd)], vregs := [vd, va], groups := f.w.groups }
  | .vaddi f vd va _ => { res := [(3, vd)], vregs := [vd, va], groups := f.w.groups }
  | .vmuli f vd va _ => { res := [(3, vd)], vregs := [vd, va], groups := f.w.groups }
  | .vshli f vd va _ => { res := [(3, vd)], vregs := [vd, va], groups := f.w.groups }
  | .vshri f vd va _ => { res := [(3, vd)], vregs := [vd, va], groups := f.w.groups }
  | .vsrai f vd va _ => { res := [(3, vd)], vregs := [vd, va], groups := f.w.groups }
  | .vandi f vd va _ => { res := [(3, vd)], vregs := [vd, va], groups := f.w.groups }
  | .vbc f vd sb => { reads := [sb], res := [(3, vd)], vregs := [vd], groups := f.w.groups }
  | .vldi f vd _ => { res := [(3, vd)], vregs := [vd], groups := f.w.groups }
  | .vperm f vd va vb => { res := [(3, vd)], vregs := [vd, va, vb], groups := f.w.groups }
  | .vrot f vd va sb => { reads := [sb], res := [(3, vd)], vregs := [vd, va], groups := f.w.groups }
  | .vsld f vd va sb => { reads := [sb], res := [(3, vd)], vregs := [vd, va], groups := f.w.groups }
  | .vext f sd va sb => { reads := [sb], writes := [sd], vregs := [va], groups := f.w.groups }
  | .vins f vd sa sb => { reads := [sa, sb], res := [(3, vd)], vregs := [vd], groups := f.w.groups }
  | .viota f vd => { res := [(3, vd)], vregs := [vd], groups := f.w.groups }
  | .vcmpr f vd va => { res := [(3, vd)], vregs := [vd, va], groups := f.w.groups }
  | .vxpnd f vd va => { res := [(3, vd)], vregs := [vd, va], groups := f.w.groups }
  | .vradd f vd va => { res := [(3, vd)], vregs := [vd, va], groups := f.w.groups }
  | .vrmax f vd va => { res := [(3, vd)], vregs := [vd, va], groups := f.w.groups }
  | .vrmin f vd va => { res := [(3, vd)], vregs := [vd, va], groups := f.w.groups }
  | .vdot f vd va vb => { res := [(3, vd)], vregs := [vd, va, vb], groups := f.w.groups }
  | .pand pd _ _ => { res := [(2, pd)], groups := 1 }
  | .por pd _ _ => { res := [(2, pd)], groups := 1 }
  | .pxor pd _ _ => { res := [(2, pd)], groups := 1 }
  | .pnot pd _ => { res := [(2, pd)], groups := 1 }
  | .pfirst wid _ pd _ => { res := [(2, pd)], groups := wid.groups }
  | .pcnt wid _ sd _ => { writes := [sd], groups := wid.groups }
  | .plen wid _ pd sb => { reads := [sb], res := [(2, pd)], groups := wid.groups }
  | .vpln f vd va _ => { res := [(3, vd)], vregs := [vd, va], groups := f.w.groups }
  | .vupln f vd va _ => { res := [(3, vd)], vregs := [vd, va], groups := f.w.groups }
  | .vbsc f vd va => { res := [(3, vd)], vregs := [vd, va], groups := f.w.groups }
  | .vpop f vd _ => { res := [(3, vd)], vregs := [vd], groups := f.w.groups }
  | .fexp2 _ vd va => { res := [(3, vd)], vregs := [vd, va] }
  | .fexp _ vd va => { res := [(3, vd)], vregs := [vd, va] }
  | .flog2 _ vd va => { res := [(3, vd)], vregs := [vd, va] }
  | .fln _ vd va => { res := [(3, vd)], vregs := [vd, va] }
  | .frcp _ vd va => { res := [(3, vd)], vregs := [vd, va] }
  | .frsq _ vd va => { res := [(3, vd)], vregs := [vd, va] }
  | .fsqrt _ vd va => { res := [(3, vd)], vregs := [vd, va] }
  | .ftanh _ vd va => { res := [(3, vd)], vregs := [vd, va] }
  | .fsigm _ vd va => { res := [(3, vd)], vregs := [vd, va] }
  | .ferf _ vd va => { res := [(3, vd)], vregs := [vd, va], charge := 2 }
  | .fsin _ vd va => { res := [(3, vd)], vregs := [vd, va], charge := 2 }
  | .fcos _ vd va => { res := [(3, vd)], vregs := [vd, va], charge := 2 }
  | .fgelu _ vd va => { res := [(3, vd)], vregs := [vd, va], charge := 2 }
  | .mma ta _ _ _ => { res := [(4, ta)], tile := some ta, charge := 0 }
  | .mmaz ta _ _ _ => { res := [(4, ta)], tile := some ta, charge := 0 }
  | .mmaw ta _ _ _ => { res := [(4, ta)], tile := some ta, charge := 0 }
  | .mmag ta _ _ _ => { res := [(4, ta)], tile := some ta, charge := 0 }
  | .mdrn ta _ _ _ _ _ => { tile := some ta, charge := 32 }
  | .mzero ta => { res := [(4, ta)], tile := some ta }
  | .mdld _ _ => { }
  | .mwait ta => { tile := some ta }
  | .mnest _ _ => { }
  | .mqset _ _ => { }
  | .ldv _ vd sa _ => { reads := [sa], res := [(3, vd)], vregs := [vd] }
  | .stv _ vd sa _ => { reads := [sa], vregs := [vd] }
  | .lds _ sd sa _ => { reads := [sa], writes := [sd] }
  | .ldsGlobal _ sd _ sa _ => { reads := [sa], writes := [sd] }
  | .sts _ sd sa _ => { reads := [sd, sa] }
  | .ldvx _ vd sa vx => { reads := [sa], res := [(3, vd)], vregs := [vd, vx] }
  | .stvx _ vd sa vx => { reads := [sa], vregs := [vd, vx] }
  | .ldp _ pd sa _ => { reads := [sa], res := [(2, pd)] }
  | .stp _ _ sa _ => { reads := [sa] }
  | .cpin _ _ k sa sb _ => { reads := [sa, sb], res := [(5, k)] }
  | .cpout _ _ k sa sb _ => { reads := [sa, sb], res := [(5, k)] }
  | .cpmc _ _ k sa sb _ => { reads := [sa, sb], res := [(5, k)] }
  | .cpga _ _ k sa sb _ => { reads := [sa, sb], res := [(5, k)] }
  | .cpsc _ _ k sa sb _ => { reads := [sa, sb], res := [(5, k)] }
  | .cpxf _ _ k sa sb _ => { reads := [sa, sb], res := [(5, k)] }
  | .cpqo _ _ k sa _ _ => { reads := [sa], res := [(5, k)] }
  | .cpqf _ k sa _ => { reads := [sa], res := [(5, k)] }
  | .cpfl _ _ k sa sb _ => { reads := [sa, sb], res := [(5, k)] }
  | .wdld _ wd sa _ => { reads := [sa], res := [(6, wd)] }
  | .waitk _ _ => { }
  | .testk _ qd _ => { res := [(1, qd)] }
  | .waitkx _ _ => { }
  | .krel _ _ => { }
  | .ldg _ _ _ sa sb _ => { reads := [sa], writes := [sb] }
  | .stg _ _ _ sa sb _ => { reads := [sa, sb] }
  | .amo _ _ _ sa sb _ => { reads := [sa, sb], writes := [sb] }
  | .amoc _ _ _ sa sb _ => { reads := [sa, sb, sb + 1], writes := [sb] }
  | .fence _ _ _ _ => { }
  | .binit _ b _ => { res := [(7, b)] }
  | .barv _ b sa => { reads := [sa], res := [(7, b)] }
  | .bwait _ _ => { }
  | .bexp _ b sa => { reads := [sa], res := [(7, b)] }
  | .gbar _ qs _ => { res := [(1, qs)] }
  | .cflush _ _ k sa sb => { reads := [sa, sb], res := [(5, k)] }
  | .arrayOpStart _ => { charge := 0 }
  | .arrayOpEnd _ => { charge := 0 }
  | .checkpointBundle _ => { charge := 0 }
  | .seqfRelease _ _ => { charge := 0 }
  | .promiseMissed _ => { charge := 0 }
  | .waitSwitchPoint _ => { charge := 0 }
  | .saveParkedTask _ => { charge := 0 }
  | .saveAreaReserve _ => { charge := 0 }
  | .schedulerDecision _ => { charge := 0 }
  | .sliceExhausted _ => { charge := 0 }
  | .drainMaxExpiry _ => { charge := 0 }
  | .gangHoldRequest _ _ => { charge := 0 }
  | .operatorHead _ => { charge := 0 }
  | .holdPrepare _ => { charge := 0 }
  | .moveComplete _ => { charge := 0 }
  | .copyComplete _ => { charge := 0 }
  | .copyError _ _ => { charge := 0 }
  | .transformViolation _ => { charge := 0 }
  | .softError _ _ _ => { charge := 0 }
  | .ingressAccess _ => { charge := 0 }
  | .linkTimeout _ _ => { charge := 0 }
  | .flitCrcRetry _ => { charge := 0 }
  | .linkDown _ _ => { charge := 0 }
  | .hostApertureRead _ _ _ _ => { charge := 0 }
  | .hostApertureWrite _ _ _ _ => { charge := 0 }
  | .hostAtomicOp _ _ _ _ _ => { charge := 0 }
  | .refill _ _ _ _ => { charge := 0 }
  | .kill _ _ => { charge := 0 }
  | .freeze _ _ => { charge := 0 }
  | .thaw _ _ => { charge := 0 }
  | .unfreeze _ _ _ => { charge := 0 }
  | .ctxsys _ _ _ => { charge := 0 }
  | .seqnew _ => { charge := 0 }
  | .seqend _ _ => { charge := 0 }
  | .seqread _ _ _ => { charge := 0 }
  | .ptcreate _ _ => { charge := 0 }
  | .recread _ _ _ => { charge := 0 }
  | .exportWindow _ _ _ _ _ => { charge := 0 }
  | .unexport _ _ => { charge := 0 }
  | .importWindow _ _ => { charge := 0 }
  | .unimport _ _ => { charge := 0 }
  | .intake _ _ => { charge := 0 }
  | .intakeComplete _ _ => { charge := 0 }
  | .decodeMedia _ _ => { charge := 0 }
  | .decodeComplete _ _ => { charge := 0 }
  | .attest _ _ _ => { charge := 0 }
  | .xfload _ _ => { charge := 0 }
  | .qtailWrite _ _ _ => { charge := 0 }
  | .qsizeWrite _ _ _ => { charge := 0 }
  | .qctlOpen _ _ => { charge := 0 }
  | .qctlDisable _ _ => { charge := 0 }
  | .fasizeWrite _ _ => { charge := 0 }
  | .lfcapWrite _ _ _ => { charge := 0 }
  | .rackHiWrite _ _ _ => { charge := 0 }
  | .rackLoWrite _ _ _ => { charge := 0 }
  | .vbshiftWrite _ _ _ => { charge := 0 }
  | .vbretireWrite _ _ _ => { charge := 0 }
  | .registerWrite _ _ _ => { charge := 0 }
  | .rackBank _ _ _ => { charge := 0 }
  | .bankWake _ _ _ => { charge := 0 }
  | .layerClockChange _ _ _ => { charge := 0 }
  | .vbusEccError _ _ => { charge := 0 }
  | .remapTableError _ _ _ => { charge := 0 }
  | .rbgHealthFail _ => { charge := 0 }
  | .deviceReset => { charge := 0 }
  | .cellarLayerPowerOff _ _ => { charge := 0 }
  | .cellarLayerPowerOn _ _ => { charge := 0 }
  | .hostDeletion _ _ => { charge := 0 }
  | .imageLoad _ => { charge := 0 }
/-- The numbers that a list names, once each. -/
def distinct (l : List Nat) : List Nat := l.foldl (fun acc x => if acc.contains x then acc else acc ++ [x]) []
/-- Some element stands twice in the list. -/
def repeats : List (Nat × Nat) → Bool
  | [] => false
  | x :: rest => rest.contains x || repeats rest

/-- The registers and places that one slot writes, once each; s0, q0 and p0 count for nothing (R41). -/
def Uses.targets (u : Uses) : List (Nat × Nat) :=
  ((distinct u.writes).map fun i => (0, i)) ++ u.res |>.filter fun x => !(x.2 == 0 && x.1 ≤ 2)

/-- An operation that R34 keeps out of delay bundles, LOOP apart. -/
def isBranch : Instr → Bool
  | .br _ _ | .call _ _ | .ret _ | .jr _ _ | .lbrk _ => true
  | _ => false
def isLoop : Instr → Bool
  | .loop _ _ _ _ _ _ => true
  | _ => false
def isYld : Instr → Bool
  | .yld _ _ => true
  | _ => false

/-- The innermost active loop at a position, none outside the nest's pinned bodies (R127), and where a position stands in its body. -/
def Task.inner (t : Task) (pos : Nat) : Option Loop :=
  if t.arch.loops.head?.any fun l => l.body.contains pos then t.arch.loops.getLast? else none
def Loop.index (l : Loop) (pos : Nat) : Nat := l.body.idxOf pos

/-- The rules of R34, R36 and R127 that the bundle at a position must keep. -/
def placeOk (t : Task) (b : Bundle) (pos : Nat) : Bool :=
  let ops := b.ops.map (·.2)
  (t.delay == 0 || !(ops.any (fun i => isBranch i || isLoop i) || b.ck || b.yd)) &&
  match t.inner pos with
  | none => !ops.any fun i => match i with | .lbrk _ => true | _ => false
  | some l =>
    !b.yd && ops.all fun i =>
      match i with
      | .br _ _ | .call _ _ | .ret _ | .jr _ _ => false
      | .lbrk _ => decide (l.index pos + 2 < l.body.length)
      | .loop _ n level _ _ _ => decide (l.index pos + n < l.body.length) && t.arch.loops.all fun x => decide (x.level < level)
      | _ => true

/-- The lowest item of R41 that the bundle breaks as a whole, after those that `decodeBundle` judges (R44). -/
def wholeItem (t : Task) (b : Bundle) (pos : Nat) : Option Nat :=
  let ops := b.ops.map (·.2)
  let us := ops.map usesOf
  let y := ops.any isYld
  if (b.yd && !b.ck) || b.yd != y then some 2
  else if us.foldl (fun acc u => acc + u.groups) 0 > 8 then some 5
  else if repeats (us.map Uses.targets).flatten then some 6
  else
    let rd := distinct (us.map (·.reads)).flatten |>.filter (· != 0)
    let wr := distinct (us.map (·.writes)).flatten |>.filter (· != 0)
    if rd.length > 8 ∨ wr.length > 4 then some 7
    else if placeOk t b pos then none else some 8

/-- The frame fault of R43 for one slot: a v register beyond the frame, or a tile that the header does not grant. Where
several registers of the slot are beyond the frame, the manual does not say which one the record names: choice `n` takes
one of them (log entry 12). -/
def frameOf (n : Nat) (t : Task) (u : Uses) : Option (List Nat) :=
  let out := u.vregs.filter fun v => decide (t.hdr.frame ≤ v)
  match out[Config.choice n 4 % out.length]? with
  | some v => some [1, v, 0, 0]
  | none =>
    match u.tile with
    | some a => if t.hdr.tiles.testBit a then none else some [2, a, 0, 0]
    | none => none

/-- A record of the task's carry table; none at or beyond its length (R229). -/
def State.carryRec (s : State) (n : Nat) : Option (List Byte) :=
  match (if s.cur.hdr.carry = 0 then none else s.tensor s.cur.hdr.carry) with
  | some t => if t.size < 32 * (n + 1) then none else some (s.tensorBytes (Agent.onStack s.stackNo) t (32 * n) 32)
  | none => none
/-- What reading that record meets: a revoked key or a poisoned tile of the carry tensor, or an error in flight (R326, R334, R341). -/
def State.carryMeet (s : State) (n : Nat) : Option Meet :=
  match (if s.cur.hdr.carry = 0 then none else s.tensor s.cur.hdr.carry) with
  | some t =>
    if t.size < 32 * (n + 1) then none
    else (s.meet t (32 * n) 32).orElse fun _ => (s.coreOf s.core).meets.bind (s.localError t (32 * n) true)
  | none => none
/-- The frame fault of a YLD (R230): its detail words. What a record that cannot be read holds is not judged. -/
def State.yldFrame (s : State) (n : Nat) : Option (List Nat) :=
  if (s.carryMeet n).isSome then none else
  match s.carryRec n with
  | none => some [3, n, 0, 0]
  | some r =>
    match (List.range 64).find? fun g => (recF r 0 8).testBit g && decide (s.cur.hdr.frame ≤ 8 * g) with
    | some g => some [1, 8 * g, 0, 0]
    | none =>
      match (List.range 8).find? fun t => (recF r 8 1).testBit t && !s.cur.hdr.tiles.testBit t with
      | some t => some [2, t, 0, 0]
      | none => if recF r 16 4 % 64 ≠ 0 ∨ recF r 20 4 % 64 ≠ 0 then some [3, n, 0, 0] else none
/-- The frame fault of a slot (R43, R230). -/
def State.slotFrame (s : State) (i : Instr) : Option (List Nat) :=
  match i with
  | .yld c _ => s.yldFrame c
  | i => frameOf s.free s.cur (usesOf i)

/-- A cause that the bundle raises before anything executes (R44), for a bundle whose slots decode. -/
def State.legality (s : State) (b : Bundle) (pos : Nat) : Option Raise :=
  match wholeItem s.cur b pos with
  | some k => some ⟨0x02, 0xFF, [k, 0, 0, 0], none⟩
  | none => b.ops.findSome? fun p => (s.slotFrame p.2).map fun ws => ⟨0x03, p.1.number, ws, none⟩

/-- The read-plane count qB of a descriptor; 0 where it is invalid, and the operation then faults (R103). -/
def planeCount (t : Task) (db : Nat) : Nat :=
  match Store.get none t.arch.od db with
  | some d => bf d 11 5
  | none => 0
/-- The descriptor that DB names is invalid: the bundle raises its fault and is charged nothing (R103). -/
def unpriced (t : Task) (b : Bundle) : Bool :=
  b.ops.any fun p => match p.2 with
    | .mma _ _ db _ | .mmaz _ _ db _ | .mmaw _ _ db _ | .mmag _ _ db _ => (Store.get none t.arch.od db).isNone
    | _ => false
/-- The charge of a slot against BGI (R110). -/
def chargeI (t : Task) (i : Instr) : Nat :=
  match i with
  | .mma _ _ db kb | .mmaz _ _ db kb | .mmaw _ _ db kb | .mmag _ _ db kb => kb * planeCount t db
  | i => (usesOf i).charge

/-- The extents E0 to E5 of a window descriptor for its NDIM dimensions (R197), and the bytes it describes (R199). -/
def wdExtent (d : BitVec 512) (k : Nat) : Nat := bf d (20 * k) 20
def wdDims (d : BitVec 512) : Nat := bf d 445 3
def wdEsz (d : BitVec 512) : Nat := 2 ^ bf d 448 3
def wdBytes (d : BitVec 512) : Nat := (List.range (wdDims d)).foldl (fun acc k => acc * wdExtent d k) (wdEsz d)
def Task.wdBytes (t : Task) (k : Nat) : Nat :=
  match Store.get none t.arch.wd k with
  | some d => Machine.wdBytes d
  | none => 0
/-- The element size of the tensor that a handle names (R220). -/
def State.handleSize (s : State) (h : Nat) : Nat :=
  match s.handleOf h with
  | some b => elemBytes (s.fmtOf b.hold.id)
  | none => 1

/-- The charge of a slot against BGT if it executes (R106). -/
def State.chargeT (s : State) (i : Instr) : Nat :=
  let one := fun g n => if s.guardOn g then n else 0
  match i with
  | .cpin g _ k _ _ _ | .cpout g _ k _ _ _ | .cpmc g _ k _ _ _ | .cpga g _ k _ _ _ | .cpsc g _ k _ _ _
  | .cpxf g _ k _ _ _ | .cpqo g _ k _ _ _ | .cpqf g k _ _ | .cpfl g _ k _ _ _ => one g ((s.cur.wdBytes k + 63) / 64)
  | .cflush g h _ _ sb => one g (((s.rdS sb).toNat * s.handleSize h + 63) / 64)
  | .ldg g _ _ _ _ _ | .stg g _ _ _ _ _ | .amo g _ _ _ _ _ | .amoc g _ _ _ _ _ | .ldsGlobal g _ _ _ _ => one g 1
  | _ => 0

/-- The charges of a bundle: against BGI with a minimum of 1, and against BGT (R20, R110). -/
def bundleI (t : Task) (b : Bundle) : Nat := max 1 (b.ops.foldl (fun acc p => acc + chargeI t p.2) 0)
def State.bundleT (s : State) (b : Bundle) : Nat := b.ops.foldl (fun acc p => acc + s.chargeT p.2) 0

/-- The larger of a budget less a charge and the least value that the counter holds (R259). -/
def spend (b : Int) (c : Nat) : Int := max (b - c) (-(2 ^ 47 : Int))
/-- A bundle charged (R259). -/
def Arch.charge (a : Arch) (c g : Nat) : Arch :=
  let i := spend a.bgi c
  let t := spend a.bgt g
  { a with bgs := a.bgs + c, bgi := i, bgt := t, exhausted := a.exhausted || decide (i ≤ 0) || decide (t ≤ 0) }

end Sys2Proof.Machine
end

