-- ==== Sys2Proof/Machine/Tasks.lean ====
section
/-! DEFINITION. Tasks and the work they belong to: finding them, task headers (R246 to R248), launch records and their
hierarchy (R292 to R294), gangs (R295). -/

namespace Sys2Proof.Machine

/-- Every task of the device; the focus holds none while its id is 0. -/
def State.allTasks (s : State) : List Task := if s.cur.id = 0 then s.tasks else s.cur :: s.tasks
def State.taskOf (s : State) (id : Nat) : Option Task := if id = 0 then none else s.allTasks.find? (·.id == id)
/-- A task put in the place of the task of its id. -/
def State.putTask (s : State) (t : Task) : State :=
  if s.cur.id = t.id then { s with cur := t } else { s with tasks := s.tasks.map fun x => if x.id = t.id then t else x }
def State.mapTasks (s : State) (f : Task → Task) : State := { s with cur := if s.cur.id = 0 then s.cur else f s.cur, tasks := s.tasks.map f }
/-- The focus moved to a core: its running task becomes the task in focus. -/
def State.focus (s : State) (n : Nat) : State :=
  if s.core = n ∧ s.cur.id = (s.coreOf n).task then s
  else
    let rest := if s.cur.id = 0 then s.tasks else s.cur :: s.tasks
    let id := (s.coreOf n).task
    match rest.find? (·.id == id) with
    | some t => if id = 0 then { s with core := n, cur := Task.idle, tasks := rest }
                else { s with core := n, cur := t, tasks := rest.filter (·.id != id) }
    | none => { s with core := n, cur := Task.idle, tasks := rest }
/-- A task that leaves its core: the focus holds it no longer, and the core runs nothing. -/
def State.leaveCore (s : State) (t : Task) : State :=
  let s := if (s.coreOf t.core).task = t.id then s.setCore t.core { s.coreOf t.core with task := 0, drainAt := none, fetchErr := none, sentAt := none, early := none } else s
  if s.cur.id = t.id then { s with cur := Task.idle, tasks := s.tasks ++ [t] } else s.putTask t

def State.workOf (s : State) (id : Nat) : Option Work := s.works.find? (·.id == id)
def State.setWork (s : State) (w : Work) : State := { s with works := s.works.map fun x => if x.id = w.id then w else x }
def State.tasksOf (s : State) (work : Nat) : List Task := s.allTasks.filter (·.work == work)
def State.copyOf (s : State) (id : Nat) : Option Copy := s.copies.find? (·.id == id)
def State.setCopy (s : State) (c : Copy) : State := { s with copies := s.copies.map fun x => if x.id = c.id then c else x }

/-- The launch record's fields (R292). -/
def recDepth (l : List Byte) : Nat := recF l 2 1
def recLevels (l : List Byte) : Nat := recF l 3 1
def recHeader (l : List Byte) : Nat := recF l 4 4
def recExtent (l : List Byte) (k : Nat) : Nat := recF l (68 + 16 * k) 4
def recDomain (l : List Byte) (k : Nat) : Nat := recF l (64 + 16 * k) 1
def recScope (l : List Byte) (k : Nat) : Nat := recF l (65 + 16 * k) 1
/-- The size G of a level's groups, and the number X of instances (R293). -/
def groupSize (l : List Byte) (k : Nat) : Nat :=
  (List.range (recLevels l)).foldl (fun acc m => if k < m then acc * recExtent l m else acc) 1
def instances (l : List Byte) : Nat := (List.range (recLevels l)).foldl (fun acc m => acc * recExtent l m) 1
/-- The capacity of a domain, and the least scope that covers it (R294). -/
def domainCap (devices d : Nat) : Nat := match d with | 0 => 1 | 1 => 2 | 2 => 4 | 3 => 12 | 4 => 48 | _ => 48 * devices
def domainScope (d : Nat) : Nat := match d with | 0 => 0 | 1 => 1 | 2 => 1 | 3 => 2 | 4 => 3 | _ => 4

/-- The least of the offsets that the broken rules name. -/
def leastOf (l : List (Option Nat)) : Option Nat :=
  l.foldl (fun acc x => match acc, x with | some a, some b => some (min a b) | none, y => y | a, none => a) none
def failAt (b : Bool) (off : Nat) : Option Nat := if b then some off else none

/-- The first rule of R294 that a launch record breaks, as the offset that R237 names. -/
def State.launchFault (s : State) (l : List Byte) : Option Nat :=
  let n := recLevels l
  let lv := List.range (min n 8)
  let checks : List (List (Option Nat)) :=
    [ [failAt (recF l 0 2 != 1) 0, failAt (recF l 24 1 / 8 != 0) 24, recField l 25 7, recField l 36 28, recField l 192 64]
        ++ lv.map (fun k => recField l (66 + 16 * k) 2) ++ lv.map (fun k => recField l (72 + 16 * k) 8)
        ++ (List.range 8).map fun k => if k < min n 8 then none else recField l (64 + 16 * k) 16,
      [failAt (recDepth l == 0 || decide (15 < recDepth l)) 2, failAt (n == 0 || decide (8 < n)) 3]
        ++ lv.map (fun k => failAt (decide (5 < recDomain l k)) (64 + 16 * k))
        ++ lv.map (fun k => failAt (decide (5 < recScope l k)) (65 + 16 * k))
        ++ lv.map (fun k => failAt (recExtent l k == 0 || decide (65535 < recExtent l k)) (68 + 16 * k)),
      [failAt (match s.tensor (recHeader l) with | some t => decide (t.size < 256) | none => true) 4],
      [failAt (recDomain l (n - 1) != 0) (64 + 16 * (n - 1))],
      lv.map (fun k => failAt (lv.any fun m => decide (k < m) && decide (recDomain l k < recDomain l m)) (64 + 16 * k)),
      lv.map (fun k => failAt (decide (domainCap s.env.devices (recDomain l k) < groupSize l k)) (68 + 16 * (k + 1))),
      lv.map (fun k => failAt (decide (recScope l k < domainScope (recDomain l k))) (65 + 16 * k)),
      [failAt (decide (2 ^ 24 < instances l)) 68],
      [failAt (recF l 8 8 != 0 && decide (recF l 8 8 < instances l)) 8, failAt (recF l 16 8 != 0 && decide (recF l 16 8 < instances l)) 16] ]
  checks.findSome? leastOf

/-- The budget of an instance (R296). -/
def shareOf (total own x n : Nat) : Nat := if total = 0 then own else total / n + (if x = 0 then total % n else 0)

/-- A hold-list entry (R247). -/
def holdEntry (r : List Byte) (i : Nat) : Hold :=
  let e := recF r (96 + 16 * i) 16
  ⟨fld e 96 32, fld e 48 48, fld e 8 40, fld e 0 2⟩

/-- The header that 256 bytes hold (R246). Whether it keeps R246 is checked at first dispatch (R248). -/
def readHeader (r : List Byte) : Header :=
  let fl := recF r 2 2
  { topup := fl.testBit 0, seq := fl.testBit 1, sys := fl.testBit 2, restart := fl.testBit 3, tv := fl.testBit 4
    frame := 128 * 2 ^ recF r 4 1, window := 65536 * recF r 5 1, tiles := recF r 6 1
    plan := (List.range 8).map fun i => recF r (8 + i) 1
    span := recF r 16 2, tctl := recF r 20 1, bgi := recF r 24 8, bgt := recF r 32 8, code := recF r 40 4, blend := recF r 44 4
    carry := recF r 48 4, entry := recF r 52 4, trap := recF r 56 4, cont := recF r 60 4
    holds := (List.range (min 10 (recF r 7 1))).map (holdEntry r) }

/-- The plan byte at which the running total first passes 64 units (R248). -/
def planOver (r : List Byte) : Option Nat :=
  (List.range 8).findSome? fun i =>
    failAt (decide (64 < (List.range (i + 1)).foldl (fun acc j => acc + recF r (8 + j) 1) 0)) (8 + i)

/-- Check 2 of R248: the first offending byte of a header. -/
def State.headerFault (s : State) (r : List Byte) : Option Nat :=
  let h := readHeader r
  let n := recF r 7 1
  let gone := fun id => (s.tensor id).isNone
  leastOf <|
    [failAt (recF r 0 2 != 1) 0, failAt (recF r 2 1 / 32 != 0) 2, failAt (recF r 3 1 != 0) 3, failAt (decide (2 < recF r 4 1)) 4,
     failAt (recF r 5 1 == 0 || decide (128 < recF r 5 1)) 5, failAt (decide (10 < n)) 7, planOver r, failAt (h.span == 0) 16,
     recFirst r 18 2, recFirst r 21 3, failAt (h.bgi == 0 || decide (2 ^ 47 - 1 < h.bgi)) 24,
     failAt (h.bgt == 0 || decide (2 ^ 47 - 1 < h.bgt)) 32, failAt (gone h.code) 40, failAt (gone h.blend) 44,
     failAt (h.carry != 0 && gone h.carry) 48, (if h.tv then none else recFirst r 56 4), recFirst r 64 32]
    ++ (List.range (min 10 n)).map (fun i => failAt (recF r (96 + 16 * i) 1 / 4 != 0 || (holdEntry r i).mode == 0) (96 + 16 * i))
    ++ (List.range (min 10 n)).map (fun i => failAt ((holdEntry r i).count == 0) (97 + 16 * i))
    ++ [if n ≤ 10 then recFirst r (96 + 16 * n) (160 - 16 * n) else none]

/-- The queue allotment of a task in bytes (R189), and its save area (R250). -/
def Header.allot (h : Header) : Nat := 4096 * h.plan.foldl (· + ·) 0
def countBits (x n : Nat) : Nat := ((List.range n).filter fun i => x.testBit i).length
def Header.save (h : Header) : Nat := h.frame * 128 + h.window + 65536 * countBits h.tiles 8 + h.allot + 4096

/-- The number of a task's group at a level, with the depth of its hierarchy (R293). -/
def State.launchRec (s : State) (t : Task) : List Byte := match s.workOf t.work with | some w => w.launch | none => []
def groupNo (l : List Byte) (inst k : Nat) : Nat := inst / groupSize l k
/-- The members of the task's group at a level: every task of its work with the same group number (R293). -/
def State.groupOf (s : State) (t : Task) (k : Nat) : List Task :=
  let l := s.launchRec t
  (s.tasksOf t.work).filter fun x => !x.reissued && decide (groupNo l x.inst k = groupNo l t.inst k)
/-- The members of a task's gang, those of its own issue of the gang (R368). -/
def State.gangOf (s : State) (t : Task) : List Task :=
  let l := s.launchRec t
  (s.tasksOf t.work).filter fun x => x.reissued == t.reissued && decide (groupNo l x.inst 0 = groupNo l t.inst 0)
/-- The task's group at a level is broken (R228). -/
def State.brokenAt (s : State) (t : Task) (k : Nat) : Bool :=
  t.reissued || match s.workOf t.work with
  | some w => w.broken.contains (k, groupNo w.launch t.inst k)
  | none => false
def State.brokenAny (s : State) (t : Task) : Bool := (List.range (recLevels (s.launchRec t))).any (s.brokenAt t)

/-- The ranges a task holds for writing. -/
def Task.writes (t : Task) : List Hold := t.holds.filter fun h => decide (2 ≤ h.mode)
/-- The tensors that a task created with TDEF and has not freed (R241). -/
def Task.owned (t : Task) : List Nat := t.arch.made.map (·.1)

end Sys2Proof.Machine
end

