-- ==== Sys2Proof/Machine/Records.lean ====
section
/-! DEFINITION. Trap, fault and notice records (R364, R371) and their delivery to the fault areas (R350). -/

namespace Sys2Proof.Machine

/-- A record of R364 before it is laid out. `flags` are bits [4:0]. -/
structure Record where
  cause : Nat
  slot  : Nat
  flags : Nat
  task  : Nat
  queue : Nat
  entry : Nat
  ckpt  : Nat
  pos   : Nat
  time  : Nat
  words : List Nat

/-- The 64 bytes of a record (R364). -/
def Record.bytes (r : Record) : List Byte :=
  leBytes r.cause 1 ++ leBytes r.slot 1 ++ leBytes r.flags 2 ++ leBytes r.task 4 ++ leBytes (r.queue % 65536) 4 ++ leBytes r.entry 4
    ++ leBytes r.ckpt 4 ++ leBytes r.pos 4 ++ leBytes r.time 8 ++ ((List.range 4).map fun i => leBytes (r.words.getD i 0) 8).flatten

/-- The recoverable causes (R257). -/
def recoverable (cause : Nat) : Bool := cause == 0x0A || cause == 0x15

/-- A function's fault area has room for a record (R350). -/
def Fn.room (f : Fn) : Bool := f.fasize != 0 && decide ((f.fahead + 2 ^ 32 - f.fatail) % 2 ^ 32 < f.fasize)
/-- A record written at FAHEAD. -/
def Fn.write (f : Fn) (host : Memory) (r : List Byte) : Fn × Memory :=
  let a := f.fabase + 64 * (f.fahead % f.fasize)
  ({ f with fahead := (f.fahead + 1) % 2 ^ 32, lastAt := some a, lost := 0 }, Memory.setBytes host a r)
/-- The held records written while the area has room; `n` counts them. -/
def Fn.pump (f : Fn) (host : Memory) : List (List Byte) → Fn × Memory × Nat
  | [] => ({ f with heldRecs := [] }, host, 0)
  | r :: rest =>
    if f.room then
      match f.write host r with
      | (f1, h1) => match Fn.pump f1 h1 rest with | (f2, h2, n) => (f2, h2, n + 1)
    else ({ f with heldRecs := r :: rest }, host, 0)

/-- The held records of a function written, with one MSI-X signal for all of them, or one for each; records lost while none had
been written to the area are counted in the last of them (R350). -/
def State.pumpFn (s : State) (n : Nat) (once : Bool) : State :=
  let f := s.fnOf n
  match f.pump s.hostMem f.heldRecs with
  | (f1, h, k) =>
    let owed := if f.lastAt.isNone ∧ k ≠ 0 then f.lost else 0
    { s.setFn n { f1 with lost := if k = 0 then f1.lost else owed, msix := f1.msix + (if once then min 1 k else k) } with
      hostMem := if owed = 0 then h else Memory.setByte h ((f1.lastAt.getD 0) + 3) (BitVec.ofNat 8 owed) }

/-- A record to a function: written, held, or counted as lost in the last record written (R350). -/
def State.sendTo (s : State) (n : Nat) (r : List Byte) : State :=
  let f := s.fnOf n
  if f.heldRecs.isEmpty && f.room then
    match f.write s.hostMem r with
    | (f1, h) => { s.setFn n { f1 with msix := f1.msix + 1 } with hostMem := h }
  else if f.heldRecs.length < 4096 then s.setFn n { f with heldRecs := f.heldRecs ++ [r] }
  else
    let k := min 255 (f.lost + 1)
    let s := s.setFn n { f with lost := k }
    match f.lastAt with
    | some a => { s with hostMem := Memory.setByte s.hostMem (a + 3) (BitVec.ofNat 8 k) }
    | none => s

/-- A record of an area that the host has not read, or a held one, replaced by another; one that is lost is sent anew. -/
def State.swapRecord (s : State) (n : Nat) (old new : List Byte) : State :=
  let f := s.fnOf n
  let at_ := fun (i : Nat) => f.fabase + 64 * ((f.fatail + i) % 2 ^ 32 % f.fasize)
  let waiting := if f.fasize = 0 then 0 else (f.fahead + 2 ^ 32 - f.fatail) % 2 ^ 32
  match (List.range waiting).find? fun i => Memory.bytes s.hostMem (at_ i) 3 == old.take 3 && Memory.bytes s.hostMem (at_ i + 4) 60 == old.drop 4 with
  | some i => { s with hostMem := Memory.setBytes (Memory.setBytes s.hostMem (at_ i) (new.take 3)) (at_ i + 4) (new.drop 4) }
  | none =>
    if f.heldRecs.contains old then s.setFn n { f with heldRecs := f.heldRecs.map fun r => if r = old then new else r } else s.sendTo n new

/-- The function that a context is assigned to; the management function is 0 (R347). -/
def State.fnOfCtx (s : State) (ctx : Nat) : Nat := Store.get 0 s.ctxFn ctx
def State.sendCtx (s : State) (ctx : Nat) (r : Record) : State := s.sendTo (s.fnOfCtx ctx) { r with time := s.time }.bytes
/-- A notice of R371. -/
def State.notice (s : State) (fn code : Nat) (words : List Nat) : State :=
  s.sendTo fn (Record.bytes ⟨code, 0xFF, 12, 0, 0, 0xFFFFFFFF, 0, 0, s.time, words⟩)

/-- The record of a cause in a task. -/
def State.recordOf (s : State) (t : Task) (cause slot flags pos : Nat) (words : List Nat) : Record :=
  ⟨cause, slot, flags ||| (if recoverable cause then 1 else 0), t.id, t.queue, t.entry, t.ckpt, pos, s.time, words⟩
/-- A record that names no task (R364). -/
def State.report (s : State) (ctx cause flags queue entry : Nat) (words : List Nat) : State :=
  s.sendCtx ctx ⟨cause, 0xFF, flags ||| 4, 0, queue, entry, 0, 0, 0, words⟩

/-- A master frozen (R370): its notice to the management function. -/
def State.masterNotice (s : State) (kind number reason id : Nat) : State :=
  s.sendTo 0 (Record.bytes ⟨0x02, 0xFF, 28, 0, 0, 0xFFFFFFFF, 0, 0, s.time, [kind, number, reason, id]⟩)

end Sys2Proof.Machine
end

