-- ==== Sys2Proof/Machine/Residency.lean ====
section
/-! DEFINITION. Tensor records as the residency engines move them (R309 to R321): valid, VOID, deleted, held and released,
recipes, the choice of a victim (R316) and its action (R317). -/

namespace Sys2Proof.Machine

/-- The units in which a range of a tensor counts: elements, or bytes where no element has 1, 2, 4 or 8 bytes (R199). -/
def unitsOf (fmt n : Nat) : Nat := if (ET.ofCode fmt).isSome then n else fmtSize fmt n
/-- A new tensor record: RESIDENT, no page, class DC, pages of 64 KiB (R309, R336). -/
def Tensor.make (id fmt : Nat) (ext : List Nat) (seq slot : Nat) : Tensor :=
  let e0 := ext.headD 0
  let rest := ext.tail.foldl (· * ·) 1
  { id := id, fmt := fmt, rank := ext.length, e0 := e0, rest := rest, size := fmtSize fmt (e0 * rest), pgsz := 16, cap0 := e0, seq := seq
    keyslot := slot, st := .resident, paged := false, ro := false, tdef := false, nodrop := false, nopack := false, nospill := false
    rcp := false, ridx := 0, rtemplate := 0, epoch := 0, next := 2 ^ 29 - 1, holds := 0, dropdep := 0, poison := 0, coh := 1, root := 0, pages := []
    moveSpill := false, after := .stay, voidAt := 0, cut := false }
def Tensor.units (t : Tensor) : Nat := unitsOf t.fmt (t.e0 * t.rest)
/-- The records homed on a stack (R309: at most 2^18). -/
def State.homed (s : State) (stack : Nat) : Nat := (s.tensors.filter fun kv => homeOf kv.1 == stack).length

/-- The sequence table's entry is freed when the sequence has ended and none of its tensors is left (R330). -/
def State.sweepSeq (s : State) (seq : Nat) : State :=
  match Store.look s.seqs seq with
  | some r => if r.st = .ended ∧ s.tensors.all (fun kv => kv.2.seq != seq) then { s with seqs := Store.del seq s.seqs } else s
  | none => s

/-- The recipe of a tensor (R318), and whether it is valid (R319). -/
def recipeKey (t : Tensor) : Nat := homeOf t.id * 65536 + t.ridx
def State.recipeOf (s : State) (t : Tensor) : Option Recipe := if t.rcp then Store.look s.recipes (recipeKey t) else none
def State.recipeValid (s : State) (r : Recipe) : Bool :=
  r.inputs.all fun x => match s.tensor x.1 with | some t => t.st != .void && t.epoch == x.2 | none => false
/-- A record that names its recipe entry no longer; the last one frees the entry (R318). -/
def State.forgetRecipe (s : State) (t : Tensor) : State :=
  match s.recipeOf t with
  | none => s
  | some r =>
    let r := { r with outputs := r.outputs.filter (· != t.id) }
    let s := { s with recipes := if r.outputs.isEmpty then Store.del (recipeKey t) s.recipes else Store.put (recipeKey t) r s.recipes }
    s.setTensor { t with rcp := false, rtemplate := 0, ridx := 0 }
/-- DROPDEP of each tensor that a recipe reads, up or down by one (R309). -/
def State.dropDep (s : State) (r : Recipe) (up : Bool) : State :=
  ((r.inputs.map (·.1)).eraseDups).foldl (fun s id => match s.tensor id with
    | some t => s.setTensor { t with dropdep := if up then t.dropdep + 1 else t.dropdep - 1 }
    | none => s) s
/-- A DROPPED tensor that is dropped no longer: DROPDEP of the inputs falls (R313, R321). -/
def State.undrop (s : State) (t : Tensor) : State :=
  if t.st = .dropped then (match s.recipeOf t with | some r => s.dropDep r false | none => s) else s

/-- Deletion (R311, R341): the pages lose their references and the record is ABSENT. -/
def State.eraseTensor (s : State) (t : Tensor) : State :=
  let s := (s.undrop t)
  let s := match s.tensor t.id with | some t => (s.freePages t).forgetRecipe t | none => s
  ({ s with tensors := Store.del t.id s.tensors }).sweepSeq t.seq
/-- Deletion asked for: a tensor that is MOVING or held waits (R311). -/
def State.deleteTensor (s : State) (id : Nat) : State :=
  match s.tensor id with
  | none => s
  | some t => if t.st = .moving ∨ t.holds > 0 then s.setTensor { t with after := .delete } else s.eraseTensor t
/-- The tensor becomes VOID (R311, R367); a MOVING one after its move. Every writer dispatched before has a lower serial. -/
def State.voidTensor (s : State) (id : Nat) : State :=
  match s.tensor id with
  | none => s
  | some t =>
    let n := s.serial + 1
    let s := { s with serial := n }
    if t.st = .moving then s.setTensor { t with after := if t.after = .delete then .delete else .void, voidAt := n }
    else (s.undrop t).setTensor { t with st := .void, voidAt := n }

/-- A writer of a dispatch serial makes a tensor valid (R311, R318); one dispatched before the fault leaves it VOID (R367). -/
def State.makeValid (s : State) (id serial : Nat) (keep : Bool) : State :=
  match s.tensor id with
  | none => s
  | some t =>
    if t.st = .void ∧ serial < t.voidAt then s
    else
      let s := if keep then s else s.forgetRecipe t
      match s.tensor id with
      | none => s
      | some t =>
        let st := match t.st with | .resident | .packed | .spilled | .void => s.summary t | x => x
        s.setTensor { t with st := st, epoch := (t.epoch + 1) % 2 ^ 32 }

/-- FILL of the pages that a write range of a paged tensor covers (R339). -/
def State.fillRange (s : State) (h : Hold) : State :=
  match s.tensor h.id with
  | none => s
  | some t =>
    if !t.paged ∨ t.rest = 0 then s
    else
      let per := t.pageBytes / (t.rest * elemBytes t.fmt)
      let last := (h.first + h.count - 1) / t.rest
      let bytes := t.byteRange h
      (t.pagesOf bytes.1 bytes.2).foldl (fun s n => match s.page (t.entry n) with
        | some p => s.setPage (t.entry n) { p with fill := max p.fill (min per (last + 1 - n * per)) }
        | none => s) s

/-- A hold given back; the last one of a tensor that is to go deletes it (R314, R341). -/
def State.unhold (s : State) (id : Nat) : State :=
  match s.tensor id with
  | none => s
  | some t =>
    let t := { t with holds := t.holds - 1 }
    let s := s.setTensor t
    if t.holds = 0 ∧ (t.cut ∨ t.after = .delete) ∧ t.st ≠ .moving then s.eraseTensor t else s

/-- A slot of an operator record (R288). -/
structure SlotRec where
  id : Nat
  mode : Nat
  tile : Bool
  next : Nat
def slotRec (r : List Byte) (i : Nat) : SlotRec :=
  let x := recF r (24 + 8 * i) 8
  ⟨fld x 32 32, fld x 30 2, fld x 29 1 == 1, fld x 0 29⟩
def slotsOf (r : List Byte) : List SlotRec := (List.range (min 12 (recF r 7 1))).map (slotRec r)
/-- The recipe flag of an operator record (R287). -/
def recRF (r : List Byte) : Bool := (recF r 6 1).testBit 3

/-- A recipe attached to an output (R318); the entries of one operator on one stack are one. -/
def State.attach (s : State) (id : Nat) (record : List Byte) (inputs : List (Nat × Nat)) : State :=
  match s.tensor id with
  | none => s
  | some t =>
    if t.paged then s
    else
      let base := homeOf id * 65536
      let same := s.recipes.find? fun kv => kv.1 / 65536 == homeOf id && kv.2.record == record && kv.2.inputs == inputs
      let room := (List.range 65536).filter fun i => (Store.look s.recipes (base + i)).isNone
      match (match same with | some kv => some kv.1 | none => (s.pick room).map (base + ·)) with
      | none => s
      | some key =>
        let outs := match Store.look s.recipes key with | some r => r.outputs | none => []
        ({ s.used with recipes := Store.put key ⟨record, inputs, outs ++ [id]⟩ s.recipes }).setTensor
          { t with rcp := true, rtemplate := recF record 0 4, ridx := key - base }

/-- The actions of R316. -/
inductive Action | pack | spill | drop
  deriving DecidableEq, Repr
structure Victim where
  id     : Nat
  act    : Action
  score  : Nat
  dist   : Nat
  freed  : Nat

/-- The page entries of a tensor, and the bytes that packing one of them would free (R324). -/
def State.entriesOf (s : State) (t : Tensor) : List (Nat × PageEnt) :=
  t.pages.filterMap fun kv => (s.page kv.2).map fun p => (kv.2, p)
def State.packGain (s : State) (t : Tensor) (e : Nat) (p : PageEnt) : Nat :=
  let n := t.pageBytes / 256
  let b := packedBytes n (rawTiles s e n)
  if !p.lpddr && !p.pk && decide (b + 4096 ≤ t.pageBytes) then t.pageBytes - b else 0
/-- HBM bytes of a tensor's pages in their stored form. -/
def State.hbmOf (s : State) (t : Tensor) : Nat := (s.entriesOf t).foldl (fun acc x => if x.2.lpddr then acc else acc + x.2.bytes) 0

/-- The actions that R316 allows on a record, with what each frees and costs. -/
def State.actions (s : State) (t : Tensor) : List (Action × Nat × Nat) :=
  let k := s.stackOf (homeOf t.id)
  let h := s.hbmOf t
  let gains := (s.entriesOf t).map fun x => s.packGain t x.1 x.2
  let freed := gains.foldl (· + ·) 0
  let plain := (gains.filter (· != 0)).length * t.pageBytes
  (if !t.nopack && freed != 0 then [(.pack, freed, (k.costPack + k.costDecomp) * plain / 64)] else []) ++
  (if !t.nospill && decide (s.lpddrUsed (homeOf t.id) + h ≤ k.lpddr) then
     [(.spill, h, (k.costSpill + k.costFetch) * ((h + 63) / 64))] else []) ++
  (match s.recipeOf t with
   | some r =>
     if !t.nodrop && s.recipeValid r then
       [(.drop, h, k.costDrop * (recF r.record 8 4 * instances (s.idBytes t.rtemplate 0 256)))]
     else []
   | none => [])

/-- The ranges that a task holds (R314): its hold list, and the code, blend and carry tensors for reading. The words of a record number these
after the hold list (R329, log entry 89). -/
def State.ranges (s : State) (t : Task) : List Hold :=
  t.holds ++ ([t.hdr.code, t.hdr.blend] ++ (if t.hdr.carry = 0 then [] else [t.hdr.carry])).map fun id =>
    ⟨id, 0, match s.tensor id with | some x => x.units | none => 1, 1⟩
/-- The tensors of the ranges that HOLDING and SUSPENDED tasks have prepared (R314). -/
def State.reservedIds (s : State) : List Nat :=
  (s.allTasks.map fun t =>
    if t.status = .holding ∨ t.status = .suspended then t.reserved.filterMap fun i => ((s.ranges t)[i]?).map (·.id) else []).flatten
/-- Page entries of tensors that are held or reserved: no action touches them (R314). -/
def State.heldEntries (s : State) : List Nat :=
  let busy := s.reservedIds
  ((s.tensors.filter fun kv => kv.2.holds != 0 || busy.contains kv.1).map fun kv => kv.2.pages.map (·.2)).flatten

/-- The candidates of R316 on a stack with their distances, the 64 of greatest distance. -/
def State.window (s : State) (stack : Nat) : List (Nat × Tensor) :=
  let pos := (s.stackOf stack).pos
  let busy := s.reservedIds
  let entries := s.heldEntries
  let ok := fun (t : Tensor) => homeOf t.id == stack && (t.st == .resident || t.st == .packed || t.st == .spilled) && t.holds == 0
    && !busy.contains t.id && !(t.pages.any fun kv => entries.contains kv.2) && (s.entriesOf t).any (fun x => !x.2.lpddr) && !(s.actions t).isEmpty
  let cs := (s.tensors.map (·.2)).filter ok |>.map fun t => (if pos ≤ t.next then t.next - pos else 0, t)
  (cs.mergeSort fun a b => decide (b.1 < a.1) || (a.1 == b.1 && decide (a.2.id ≤ b.2.id))).take 64

/-- The order of choice: lower score, then greater distance, lower id, pack before spill before drop. -/
def Action.rank : Action → Nat | .pack => 0 | .spill => 1 | .drop => 2
def Victim.before (a b : Victim) : Bool :=
  decide (a.score < b.score) || (a.score == b.score && (decide (b.dist < a.dist) || (a.dist == b.dist &&
    (decide (a.id < b.id) || (a.id == b.id && decide (a.act.rank < b.act.rank))))))
def State.victim (s : State) (stack : Nat) : Option Victim :=
  let w := (s.stackOf stack).wnext
  let all := (s.window stack).map fun x => (s.actions x.2).filterMap fun a =>
    match a with
    | (act, f, c) => if f = 0 then none else some (⟨x.2.id, act, c * 2 ^ 32 / (f * (1 + w * x.1)), x.1, f⟩ : Victim)
  all.flatten.foldl (fun best v => match best with | none => some v | some b => if v.before b then some v else some b) none

/-- An action begun (R317): a drop is made at once, a pack or a spill when its move completes. -/
def State.act (s : State) (v : Victim) : State :=
  match s.tensor v.id with
  | none => s
  | some t =>
    match v.act with
    | .pack => s.setTensor { t with st := .moving, moveSpill := false }
    | .spill => s.setTensor { t with st := .moving, moveSpill := true }
    | .drop =>
      let s := match s.recipeOf t with | some r => s.dropDep r true | none => s
      match s.tensor v.id with
      | some t =>
        let s := s.freePages t
        match s.tensor v.id with | some t => s.setTensor { t with st := .dropped } | none => s
      | none => s

/-- HBM of a stack that nothing takes. -/
def State.hbmFree (s : State) (stack : Nat) : Nat := (s.stackOf stack).hbm - s.hbmUsed stack

/-- The move of a MOVING tensor completes (R317), and what waited for it applies (R311). A page that a task has come to hold meanwhile,
through a tensor that shares it, stays as it is (R314). -/
def State.moveDone (s : State) (id : Nat) : State :=
  match s.tensor id with
  | none => s
  | some t =>
    if t.st ≠ .moving then s
    else
      let n := t.pageBytes / 256
      let held := s.heldEntries
      let s := (s.entriesOf t).foldl (fun s x =>
        if held.contains x.1 then s
        else if t.moveSpill then s.refit x.1 { x.2 with lpddr := true }
        else if s.packGain t x.1 x.2 = 0 then s
        else s.refit x.1 { x.2 with pk := true, bytes := packedBytes n (rawTiles s x.1 n) }) s
      let t1 := { t with st := s.summary t, after := .stay }
      let s := s.resummarize (t.pages.map (·.2))
      match t.after with
      | .stay => s.setTensor t1
      | .poison => s.setTensor { t1 with st := if t.poison = 0 then t1.st else .poisoned }
      | .void => (s.setTensor { t1 with st := .void })
      | .delete => if t.holds = 0 then (s.setTensor t1).eraseTensor t1 else s.setTensor { t1 with after := .delete }

/-- The pages of a range prepared for a mode (R313, R338): missing pages of zeros, LPDDR pages fetched, and for writing every
page PLAIN and the tensor's own. -/
def State.preparePages (s : State) (h : Hold) : State :=
  match s.tensor h.id with
  | none => s
  | some t =>
    let b := t.byteRange h
    let s := (t.pagesOf b.1 b.2).foldl (fun s n =>
      let s := match s.tensor h.id with
        | some t => if t.entry n = 0 then s.newPage t n t.keyslot else if h.mode ≥ 2 && t.paged then s.ownPage t.id n else s
        | none => s
      match s.tensor h.id with
      | some t =>
        match s.page (t.entry n) with
        | some p =>
          if p.lpddr || (p.pk && h.mode != 1) then
            s.refit (t.entry n) { p with lpddr := false, pk := p.pk && h.mode == 1, bytes := if h.mode == 1 then p.bytes else t.pageBytes }
          else s
        | none => s
      | none => s) s
    match s.tensor h.id with
    | some t => s.resummarize (t.pages.map (·.2))
    | none => s
/-- The page entries that preparing a range takes. -/
def State.prepareEntries (s : State) (h : Hold) : Nat :=
  match s.tensor h.id with
  | none => 0
  | some t => ((t.pagesOf (t.byteRange h).1 (t.byteRange h).2).filter fun n => match s.page (t.entry n) with
    | none => true
    | some p => decide (2 ≤ h.mode) && t.paged && decide (p.ref > 1)).length
/-- The HBM bytes that preparing a range takes beside what it has. -/
def State.prepareNeed (s : State) (h : Hold) : Nat :=
  match s.tensor h.id with
  | none => 0
  | some t =>
    let b := t.byteRange h
    (t.pagesOf b.1 b.2).foldl (fun acc n =>
      match s.page (t.entry n) with
      | none => acc + t.pageBytes
      | some p =>
        let full := if h.mode == 1 then p.bytes else t.pageBytes
        if h.mode ≥ 2 && t.paged && decide (p.ref > 1) then acc + t.pageBytes
        else if p.lpddr then acc + full else acc + (full - p.bytes)) 0

/-- Every page of a tensor anew as zeros: the old state of a DROPPED or POISONED record is freed (R313). -/
def State.startOver (s : State) (t : Tensor) : State :=
  let s := (s.undrop t)
  match s.tensor t.id with
  | some t =>
    let s := s.freePages t
    match s.tensor t.id with | some t => s.setTensor { t with st := .resident, poison := 0 } | none => s
  | none => s

end Sys2Proof.Machine
end

