-- ==== Sys2Proof/Machine/Room.lean ====
section
/-! DEFINITION. Room on a stack: who ranks below whom (R297), and the actions of the residency engine that make it (R313, R315 to R317). -/

namespace Sys2Proof.Machine

/-- The number of a work item among the queues of its die (R297). -/
def Work.rankNo (w : Work) : Nat := match w.kind with | .queue q _ => q % 64 | .pool _ _ _ _ => 64 | .lane _ => 65
/-- A recompute. -/
def Work.onLane (w : Work) : Bool := match w.kind with | .lane _ => true | _ => false
/-- The rank of a task (R297). -/
def State.rankOf (s : State) (t : Task) : Nat := t.prio * 256 + match s.workOf t.work with | some w => w.age | none => 0
/-- A task ranks below another (R297): by rank, then by the number of its queue, then by its age: the task with the higher id is the
younger one (log entry 85). -/
def State.ranksBelow (s : State) (x t : Task) : Bool :=
  let no := fun (y : Task) => match s.workOf y.work with | some w => w.rankNo | none => 66
  decide (s.rankOf x < s.rankOf t) ||
    (s.rankOf x == s.rankOf t && (decide (no t < no x) || (no x == no t && decide (t.id < x.id))))
/-- HBM that the moves under way on a stack will free (R316, R317). -/
def State.freeing (s : State) (stack : Nat) : Nat :=
  (s.tensors.filter fun kv => homeOf kv.1 == stack && kv.2.st == .moving).foldl (fun acc kv =>
    acc + if kv.2.moveSpill then s.hbmOf kv.2 else (s.entriesOf kv.2).foldl (fun a x => a + s.packGain kv.2 x.1 x.2) 0) 0
/-- The ranges of a task on a stack by index. -/
def State.rangesOn (s : State) (t : Task) (stack : Nat) : List (Nat × Hold) :=
  let l := s.ranges t
  ((List.range l.length).zip l).filter fun x => homeOf x.2.id == stack && !isProxy x.2.id
/-- A move is under way on a stack: its room counts when it is done, and the next victim is chosen then (R316, R317). -/
def State.moving (s : State) (stack : Nat) : Bool := s.tensors.any fun kv => homeOf kv.1 == stack && kv.2.st == .moving
/-- The actions that make room on a stack for a task (R315, R316): victims one at a time, and where none is left, reservations of
HOLDING tasks of lower rank taken back, the lowest first. The flag says whether room is on its way. -/
def State.roomFor (s : State) (t : Task) (stack need : Nat) : Nat → State × Bool
  | 0 => (s, false)
  | fuel + 1 =>
    if need ≤ s.hbmFree stack + s.freeing stack ∨ s.moving stack = true then (s, true)
    else
      match s.victim stack with
      | some v => (s.act v).roomFor t stack need fuel
      | none =>
        let losers := s.allTasks.filter fun x => x.status == .holding && x.id != t.id && s.ranksBelow x t &&
          (s.rangesOn x stack).any fun r => x.reserved.contains r.1
        match losers.foldl (fun (b : Option Task) x => match b with
            | none => some x
            | some y => if s.ranksBelow x y then some x else some y) none with
        | some x =>
          let on := (s.rangesOn x stack).map (·.1)
          (s.putTask { x with reserved := x.reserved.filter fun i => !on.contains i }).roomFor t stack need fuel
        | none => (s, false)
/-- Room made as far as it can be; the flag says whether it is there or on its way. -/
def State.makeRoom (s : State) (t : Task) (stack need : Nat) : State × Bool :=
  s.roomFor t stack need (3 * s.tensors.length + s.allTasks.length + 1)

/-- The moves under way on a stack complete. -/
def State.finishMoves (s : State) (stack : Nat) : State :=
  ((s.tensors.filter fun kv => homeOf kv.1 == stack && kv.2.st == .moving).map (·.1)).foldl State.moveDone s
/-- Room made at once for a running task, whose bundle nothing holds (R40, R241): every move that makes it completes; none where it cannot be made. -/
def State.roomNow (s : State) (t : Task) (stack need : Nat) : Nat → Option State
  | 0 => none
  | fuel + 1 =>
    if need ≤ s.hbmFree stack then some s
    else match s.makeRoom t stack need with
      | (s1, true) => (s1.finishMoves stack).roomNow t stack need fuel
      | (_, false) => none
/-- Room for what a task creates on a stack, or for what it makes larger. -/
def State.roomToHold (s : State) (stack need : Nat) : Option State := s.roomNow s.cur stack need (3 * s.tensors.length + 2)

end Sys2Proof.Machine
end

