-- ==== Sys2Proof/Machine/Seq.lean ====
section
/-! DEFINITION. Sequences and key slots (R330 to R341). -/

namespace Sys2Proof.Machine

/-- The cellar lines under a key slot discarded, without write-back (R334). -/
def State.dropLines (s : State) (n : Nat) : State :=
  (List.range 4).foldl (fun (s : State) k =>
    let d := s.stackOf k
    if d.lines.isEmpty then s
    else s.setStack k { d with lines := d.lines.filter fun l => match s.page l.entry with | some p => p.key != n | none => false }) s
/-- A key slot destroyed (R334): its key is zeroed, its generation advances, skipping 0, its cellar lines are discarded; a move of a page under
it is abandoned and the page freed (R342). -/
def State.destroySlot (s : State) (n : Nat) : State :=
  let k := s.keyOf n
  let g := (k.gen + 1) % 65536
  let s := (s.setKey n ⟨.free, 0, if g = 0 then 1 else g, 0⟩).dropLines n
  (s.tensors.filter fun kv => kv.2.st == .moving).foldl (fun s kv =>
    let gone := kv.2.pages.filter fun e => match s.page e.2 with | some p => p.key == n | none => false
    if gone.isEmpty then s
    else
      let s := gone.foldl (fun s e => s.dropRef e.2) s
      let t := { kv.2 with pages := kv.2.pages.filter fun e => !gone.contains e }
      let s := s.setTensor { t with st := s.summary t, after := .stay }
      match t.after with
      | .stay => s
      | .poison => s.setTensor { t with st := if t.poison = 0 then s.summary t else .poisoned, after := .stay }
      | .void => s.setTensor { t with st := .void, after := .stay }
      | .delete => s.deleteTensor t.id) s
/-- A CLOSING slot without readers is destroyed (R334). -/
def State.closeSlot (s : State) (n : Nat) : State :=
  if (s.keyOf n).st = .closing ∧ (s.keyOf n).readers = 0 then s.destroySlot n else s

/-- The next sequence id (R330). -/
def State.nextSeq (s : State) (from_ : Nat) : Nat → Option Nat
  | 0 => none
  | n + 1 =>
    let id := (from_ + 1) % 2 ^ 24
    if id ≠ 0 ∧ (Store.look s.seqs id).isNone then some id else s.nextSeq id n

/-- A sequence id and a key slot, with a key drawn for it, taken for a new sequence (R243, R332, R349): none while the generator has failed (R333). -/
def State.seqReserve (s : State) (st : SeqSt) (owner parent : Nat) : Option (Nat × State) :=
  let free := (List.range 4096).filter fun n => n != 0 && (s.keyOf n).st == .free && s.seqs.all fun kv => kv.2.slot != n || kv.2.st == .ended
  match s.pick free, s.nextSeq s.lastSeq 65537 with
  | some slot, some id =>
    if !s.rbgOk ∨ s.seqs.length ≥ 65536 then none
    else
      let s1 := s.setKey slot { s.keyOf slot with pair := Config.freeBits 512 s.free 1 }
      some (id, { s1.used with lastSeq := id, seqs := Store.put id ⟨st, owner, slot, parent, []⟩ s.seqs })
  | _, _ => none

/-- The reservation of a SEQF given back (R340): its slot stays FREE, without the key that was drawn for it. -/
def State.unreserve (s : State) (id : Nat) : State :=
  match Store.look s.seqs id with
  | some r => { s.setKey r.slot { s.keyOf r.slot with pair := 0 } with seqs := Store.del id s.seqs }
  | none => s
/-- A sequence becomes LIVE with its reader set; each slot of it gains a reader (R334, R340). -/
def State.seqLive (s : State) (id : Nat) (r : SeqRec) (above : List Nat) : State :=
  let rs := r.slot :: above
  let s := rs.foldl (fun s n => s.setKey n { s.keyOf n with readers := (s.keyOf n).readers + 1 }) s
  { s.setKey r.slot { s.keyOf r.slot with st := .live } with seqs := Store.put id { r with st := .live, readers := rs } s.seqs }

/-- The id of a paged tensor (R335). -/
def pagedId (stack index seq : Nat) : Nat := stack * 2 ^ 30 + 2 ^ 29 + index * 2 ^ 24 + seq
def State.pagedOf (s : State) (seq : Nat) : List Tensor := (s.tensors.map (·.2)).filter fun t => t.paged && t.seq == seq

/-- Paged tensor of a parent shared with its child (R340 step 1). A stack that has 2^18 records makes none (log entry 73). -/
def State.shareTensor (s : State) (t : Tensor) (child slot : Nat) : State :=
  if 2 ^ 18 ≤ s.homed (homeOf t.id) then s
  else
  let id := pagedId (homeOf t.id) (fld t.id 24 4) child
  let n : Tensor := { t with id := id, seq := child, keyslot := slot, holds := 0, dropdep := 0, after := .stay, cut := false,
                             st := match t.st with | .moving => s.summary t | x => x }
  let s := s.setTensor n
  t.pages.foldl (fun s e => match s.page e.2 with
    | some p =>
      let s := s.setPage e.2 { p with ref := p.ref + 1 }
      if p.ref = 65535 then (match s.tensor id with | some x => s.copyPage x e.1 slot | none => s) else s
    | none => s) s

/-- A sequence can be forked (R340): its reader set has room for another slot, and each of its slots for another reader. -/
def State.forkable (s : State) (r : SeqRec) : Bool :=
  r.st == .live && decide (r.readers.length < 16) && r.readers.all fun n => decide ((s.keyOf n).readers < 65535)
/-- A write hold in force on a paged tensor of a sequence. -/
def State.seqWritten (s : State) (seq : Nat) : Bool :=
  let ids := (s.pagedOf seq).map (·.id)
  s.allTasks.any (fun t => t.held0 && t.writes.any fun h => ids.contains h.id) ||
    s.jobs.any (fun kv => kv.2.held && kv.2.hold.mode ≥ 2 && ids.contains kv.2.hold.id)

/-- The step of a released SEQF (R340); none while it waits. -/
def State.forkSeq (s : State) (parent child : Nat) : Option State :=
  match Store.look s.seqs child with
  | none => none
  | some c =>
    if c.st ≠ .released ∨ c.parent ≠ parent then none
    else
      match Store.look s.seqs parent with
      | some p =>
        if p.st ≠ .live then some (s.unreserve child)
        else if s.seqWritten parent then none
        else some (((s.pagedOf parent).foldl (fun s t => s.shareTensor t child c.slot) s).seqLive child c p.readers)
      | none => some (s.unreserve child)

/-- SEQE released, or SEQEND (R341). -/
def State.endSeq (s : State) (id : Nat) : State :=
  match Store.look s.seqs id with
  | none => s
  | some r =>
    if r.st ≠ .live then s
    else
      let s := { s with seqs := Store.put id { r with st := .ended } s.seqs }
      let ids := (s.tensors.filter fun kv => kv.2.seq == id).map (·.1)
      let s := ids.foldl (fun s i => match s.tensor i with | some t => s.setTensor { t with cut := true } | none => s) s
      let s := r.readers.foldl (fun s n => s.setKey n { s.keyOf n with readers := (s.keyOf n).readers - 1 }) s
      let s := s.setKey r.slot { s.keyOf r.slot with st := .closing }
      let s := (List.range 4096).foldl (fun s n => if n = 0 then s else s.closeSlot n) s
      (ids.foldl (fun s i => s.deleteTensor i) s).sweepSeq id

/-- An id that a reader can hold: a record whose sequence has ended is refused (R341). -/
def State.holdable (s : State) (id : Nat) : Option Tensor :=
  match s.tensor id with
  | some t => if t.cut then none else some t
  | none => none

end Sys2Proof.Machine
end

