-- ==== Sys2Proof/Machine/Queues.lean ====
section
/-! DEFINITION. Operator queues and launches (R284 to R308): operator records, decrements, retirement, instances, the
pending-launch pool. -/

namespace Sys2Proof.Machine

/-- Distances between the counters of a queue (R284). -/
def dist (q : OpQueue) (x : Nat) : Nat := (x + 2 ^ 32 - q.ret) % 2 ^ 32
def OpQueue.full (q : OpQueue) : Bool := decide (q.size ≤ dist q q.tail + q.resv)
/-- The byte offset of a record in its ring tensor. -/
def OpQueue.slotAt (q : OpQueue) (j : Nat) : Nat := 128 * (j % q.size)
/-- A queue frozen, unless it is DISABLED (R286). -/
def State.freezeQueue (s : State) (n : Nat) : State :=
  let q := s.queueOf n
  if q.st = .opened then s.setQueue n { q with st := .frozen } else s

/-- The work of a queue entry while it is head or not retired. -/
def State.workAt (s : State) (q entry : Nat) : Option Work :=
  s.works.find? fun w => match w.kind with | .queue a b => a == q && b == entry && !w.retired | _ => false
/-- WAITING tasks of a work item enter HOLDING (R290). -/
def State.startHolding (s : State) (work : Nat) : State :=
  s.mapTasks fun t => if t.work = work ∧ t.status = .waiting then { t with status := .holding } else t

/-- A decrement of the operator that a reference names (R239, R291); none for an underflow, as which a reference with bits [63:48]
nonzero counts also in an automatic list (log entry 68). -/
def State.decrement (s : State) (ref : Nat) : Option State :=
  let qn := fld ref 32 16
  let j := fld ref 0 32
  let q := s.queueOf qn
  if ref / 2 ^ 48 ≠ 0 ∨ 256 ≤ qn ∨ q.size = 0 ∨ dist q q.tail ≤ dist q j then none
  else
    match s.workAt qn j with
    | some w =>
      if w.counter = 0 then none
      else
        let s := s.setWork { w with counter := w.counter - 1, waiting := w.waiting && w.counter != 1 }
        some (if w.counter = 1 then s.startHolding w.id else s)
    | none =>
      if s.works.any (fun w => match w.kind with | .queue a b => a == qn && b == j | _ => false) ∨ dist q j < dist q q.disp then none
      else
        let c := leNat (s.idBytes q.base (q.slotAt j + 4) 2)
        if c = 0 then none else some (s.writeId q.base (q.slotAt j + 4) (leBytes (c - 1) 2))

/-- The registers and handles of a task at first dispatch (R45, R47, R50, R57). -/
def Arch.start (h : Header) (holds : List Hold) (inst id : Nat) (bgi bgt : Int) : Arch :=
  { Arch.init with
    s := Store.set 0 (Store.set 0 [] 58 (BitVec.ofNat 64 inst)) 59 (BitVec.ofNat 64 id)
    rq := (List.range 8).foldl (fun m i => Store.set ResQ.init m i { ResQ.init with cap := 4096 * h.plan.getD i 0 }) []
    h := (List.range holds.length).foldl (fun m i => Store.set none m i ((holds[i]?).map fun x => ⟨x, false⟩)) []
    bgi := bgi, bgt := bgt, tctl := BitVec.ofNat 8 h.tctl, trapRec := BitVec.ofNat 32 (h.window - 64) }

/-- The hold list of an instance after the slots of R288. -/
def resolveHolds (hdr : Header) (slots : List SlotRec) (inst : Nat) : List Hold :=
  (List.range hdr.holds.length).filterMap fun i =>
    (hdr.holds[i]?).map fun e =>
      match slots[i]? with
      | some sl => if sl.mode = 0 ∨ 10 ≤ i then e
                   else { e with id := sl.id, mode := sl.mode, first := if sl.tile then e.first + inst * e.count else e.first }
      | none => e

/-- SEQID of an instance (R330). -/
def State.seqIdOf (s : State) (holds : List Hold) (launcher : Nat) : Nat :=
  match holds.head? with
  | some h => match s.tensor h.id with | some t => if t.paged then t.seq else launcher | none => launcher
  | none => launcher

/-- The budgets of a header, which a fresh instance of a killed or re-issued task takes (R302, R368). -/
def Task.anew (t : Task) : Task :=
  let a := { t.arch with bgi := t.hdr.bgi, bgt := t.hdr.bgt }
  { t with again := true, arch := a, shadow := a }
/-- The tile task of an instance of a work item (R293, R296). -/
def State.mkTask (s : State) (w : Work) (inst id launcherSeq : Nat) : Task :=
  let hdr := readHeader (s.idBytes (recHeader w.launch) 0 256)
  let holds := resolveHolds hdr (match w.kind with | .pool _ _ _ _ => [] | _ => slotsOf w.record) inst
  let i : Int := shareOf (recF w.launch 8 8) hdr.bgi inst w.total
  let t : Int := shareOf (recF w.launch 16 8) hdr.bgt inst w.total
  let a := Arch.start hdr holds inst id i t
  { Task.idle with
    id := id, status := if w.counter = 0 then .holding else .waiting, work := w.id, inst := inst, level := w.level, queue := w.queue
    entry := w.entry, seq := s.seqIdOf holds launcherSeq, owner := w.owner, prio := w.prio, hdr := hdr, holds := holds
    arch := a, shadow := a, ckpt := hdr.entry, pc := hdr.entry, est := w.est, estAt := s.time }
/-- Every instance of a work item as a task (R293). -/
def State.spawn (s : State) (w : Work) (launcherSeq : Nat) : State :=
  let ts := (List.range w.total).map fun x => s.mkTask w x (s.nextTask + x) launcherSeq
  { s with tasks := s.tasks ++ ts, works := s.works ++ [w], nextTask := s.nextTask + w.total, nextWork := s.nextWork + 1 }

/-- A work item before its tasks exist. -/
def Work.make (id : Nat) (kind : WorkKind) (record launch : List Byte) : Work :=
  { id := id, kind := kind, record := record, launch := launch, total := instances launch, prio := 0, est := 0, queue := 0, entry := 0,
    owner := 0, permit := 0, level := 0, depth := 0, bound := none, seq := 0, counter := 0, waiting := false, head := false, age := 0,
    ended := 0, failed := false, retired := false, passed := false, epochs := [], broken := [], gangRec := [], targets := [], waiters := [],
    unusedI := 0, unusedT := 0, homes := [], after := [] }

/-- The check of R289 on a record that becomes head: the offset for word 2, and for word 3. A slot count above 12 fails with the
slots, and a successor list whose count is above 4,095, that stands beside a count of 0, or whose tensor is not n64, fails as a
list outside its tensor (log entry 67). Slots 10 and 11 are unused where their MODE is 0 (log entry 86). -/
def State.recordFault (s : State) (r : List Byte) : Option (Nat × Nat) :=
  let n := recF r 7 1
  let l := s.idBytes (recF r 0 4) 0 256
  let hdr := readHeader (s.idBytes (recHeader l) 0 256)
  let badSlot := fun i =>
    let sl := slotRec r i
    if 10 ≤ i then decide (0 < sl.mode) && (decide (sl.mode < 2) || sl.tile)
    else sl.mode != 0 && (match hdr.holds[i]? with | some e => sl.mode &&& e.mode != sl.mode | none => true)
  let cnt := recF r 12 2
  let badList :=
    if cnt = 0 then recF r 16 4 != 0
    else decide (4095 < cnt) || (match s.tensor (recF r 16 4) with
      | some t => t.fmt != 7 || decide (t.size < 8 * (recF r 20 4 + cnt))
      | none => true)
  let first := leastOf ([failAt (recF r 6 1 / 16 != 0) 6, recField r 14 2, recField r 124 4] ++
    (List.range 12).map fun i => if i < n then none else recField r (24 + 8 * i) 8)
  match first with
  | some o => some (o, 0)
  | none =>
    if (match s.tensor (recF r 0 4) with | some t => decide (t.size < 256) | none => true) then some (0, 0)
    else
      match s.launchFault l with
      | some o => some (0, o)
      | none =>
        if 12 < n then some (7, 0)
        else
          match (List.range n).find? badSlot with
          | some i => some (24 + 8 * i, 0)
          | none => if badList then some (12, 0) else none

/-- A task that has not been dispatched. -/
def Task.undispatched (t : Task) : Bool := t.status == .waiting || t.status == .holding || t.status == .suspended || t.status == .ready
/-- Re-issued work of a queue waits to be dispatched, before any later operator becomes head (R368). -/
def State.reissuing (s : State) (qn : Nat) : Bool :=
  s.works.any fun w => (match w.kind with | .queue a _ => a == qn | _ => false) && !w.head && (s.tasksOf w.id).any Task.undispatched
/-- OPERATOR_HEAD: the oldest record not yet dispatched becomes head (R289, R290), its stream position is noted (R316). -/
def State.operatorHead (s : State) (qn : Nat) : State :=
  let q := s.queueOf qn
  if q.st ≠ .opened ∨ q.headBad ∨ q.disp = q.tail ∨ (s.workAt qn q.disp).isSome ∨ s.reissuing qn then s
  else
    let r := s.idBytes q.base (q.slotAt q.disp) 128
    match s.recordFault r with
    | some (o, o2) =>
      ((s.setQueue qn { q with st := .frozen, headBad := true }).report q.owner 0x0D 0 qn q.disp [q.disp, 14, o, o2])
    | none =>
      let l := s.idBytes (recF r 0 4) 0 256
      let c := recF r 4 2
      let mine := fun (f : Fork) => f.queue == qn && f.entry == q.disp
      let w := { Work.make s.nextWork (.queue qn q.disp) r l with
                 prio := fld (recF r 6 1) 0 3, est := recF r 8 4, queue := qn, entry := q.disp, owner := q.owner, permit := q.permit
                 counter := c, waiting := c != 0, head := true
                 after := (s.forks.filter mine).map fun (f : Fork) => (f.task, f.place) }
      let s := { s with forks := s.forks.filter fun f => !mine f }
      let s := (slotsOf r).foldl (fun (s : State) (sl : SlotRec) =>
        match (if sl.mode = 0 then none else s.tensor sl.id) with
        | some t =>
          let k := s.stackOf (homeOf t.id)
          (s.setTensor { t with next := sl.next }).setStack (homeOf t.id) { k with pos := max k.pos (recF r 120 4) }
        | none => s) s
      s.spawn w 0

/-- Where a record read by a release stands in its ring (R239): written, counted, the reservation gone. -/
def State.appendRecord (s : State) (qn : Nat) (r : List Byte) : State :=
  let q := s.queueOf qn
  (s.writeId q.base (q.slotAt q.tail) r).setQueue qn { q with tail := (q.tail + 1) % 2 ^ 32, resv := q.resv - 1 }

/-- A task that is over. -/
def Task.isOver (t : Task) : Bool := t.status == .ended || t.status == .faulted || t.status == .killed
/-- An operator that QRET has passed is forgotten once none of its re-issued tasks is left to end (R290, R368). -/
def State.sweepWork (s : State) (id : Nat) : State :=
  match s.workOf id with
  | some w =>
    if w.passed && (s.tasksOf id).all Task.isOver then
      { s with works := s.works.filter fun x => x.id != id, tasks := s.tasks.filter fun t => t.work != id }
    else s
  | none => s
/-- QRET advances past every retired operator at the front (R290). -/
def State.advanceRet (s : State) (qn : Nat) : Nat → State
  | 0 => s
  | n + 1 =>
    let q := s.queueOf qn
    match s.works.find? fun w => w.retired && !w.passed && decide (w.kind = .queue qn q.ret) with
    | some w =>
      State.advanceRet (((s.setWork { w with passed := true }).sweepWork w.id).setQueue qn { q with ret := (q.ret + 1) % 2 ^ 32 }) qn n
    | none => s

/-- The element of a successor list (R287). -/
def State.successor (s : State) (r : List Byte) (k : Nat) : Nat := leNat (s.idBytes (recF r 16 4) (8 * (recF r 20 4 + k)) 8)

/-- The tensors that the tasks of a work item wrote, with the last dispatch serial of a writer. -/
def writtenBy (ts : List Task) : List (Nat × Nat) :=
  ts.foldl (fun acc t => ((t.writes.map (·.id)) ++ t.owned).foldl (fun acc id =>
    match acc.find? (·.1 == id) with
    | some x => (acc.filter (·.1 != id)) ++ [(id, max x.2 t.serial)]
    | none => acc ++ [(id, t.serial)]) acc) []
/-- The written tensors become valid (R311, R318, R339). -/
def State.validate (s : State) (ts : List Task) (rf : Option Work) : State :=
  let outs := match rf with
    | some w => (slotsOf w.record).filterMap fun (sl : SlotRec) => if 2 ≤ sl.mode then some sl.id else none
    | none => []
  let made := (writtenBy ts).filterMap fun x => match s.tensor x.1 with | some t => if t.st = .void ∧ x.2 < t.voidAt then none else some x.1 | none => none
  let s := (writtenBy ts).foldl (fun s x =>
    let s := match rf with
      | some w =>
        if outs.contains x.1 then
          (match s.tensor x.1 with | some t => s.forgetRecipe t | none => s).attach x.1 w.record w.epochs
        else s
      | none => s
    s.makeValid x.1 x.2 (outs.contains x.1)) s
  ((ts.map Task.writes).flatten.filter fun h => made.contains h.id).foldl State.fillRange s

/-- Tasks that wait for a recompute of a tensor prepare their holds again (R321, R358). -/
def State.resumeWaiters (s : State) (ids : List Nat) : State :=
  s.mapTasks fun t =>
    if t.status = .suspended ∧ t.waitsOn.any ids.contains = true then { t with status := .holding, waitsOn := [] } else t

/-- A recompute retires (R321). -/
def State.retireLane (s : State) (w : Work) (ts : List Task) : State :=
  let s := (writtenBy ts).foldl (fun s x => match s.tensor x.1 with
    | some t =>
      if t.st = .void ∧ x.2 < t.voidAt then s
      else
        let s := s.undrop t
        match s.tensor x.1 with
        | some t => (match t.st with
          | .moving => s
          | _ => s.setTensor { t with st := s.summary t, poison := if t.st = .poisoned then 0 else t.poison })
        | none => s
    | none => s) s
  ({ s with works := s.works.filter fun x => x.id != w.id, tasks := s.tasks.filter fun t => t.work != w.id }).resumeWaiters w.targets

/-- A pool entry freed (R306): its generation advances, skipping 0. -/
def State.freePool (s : State) (n : Nat) : State :=
  let p := s.poolOf n
  let g := (p.gen + 1) % 2 ^ 32
  s.setPool n { PoolEnt.init with gen := if g = 0 then 1 else g }
/-- A pool entry whose launch has ended, and whose launcher has joined it or ended, is free. -/
def State.sweepPool (s : State) (n : Nat) : State :=
  let p := s.poolOf n
  if p.st = .ended ∧ (p.joined ∨ p.launcherDone) then s.freePool n else s

/-- A work item none of whose tasks is left to end (R290, R306, R321). -/
def State.settleWork (s : State) (id : Nat) : State :=
  match s.workOf id with
  | none => s
  | some w =>
    let ts := (s.tasksOf id).filter fun t => !t.reissued
    let gone := ts.all fun t => t.status == .ended
    match w.kind with
    | .queue qn _ =>
      if !gone ∨ w.retired ∨ ts.length < w.total ∨ w.head then s
      else
        let s := s.validate ts (if recRF w.record then some w else none)
        let s := { s.setWork { w with retired := true } with tasks := s.tasks.filter fun t => t.work != id || t.reissued }
        let s := (List.range (recF w.record 12 2)).foldl (fun s k =>
          let ref := s.successor w.record k
          match s.decrement ref with
          | some s => s
          | none => (s.freezeQueue qn).report w.owner 0x13 0 qn w.entry [ref, 0]) s
        s.advanceRet qn (s.works.length + 1)
    | .lane _ =>
      if gone && ts.length == w.total then s.retireLane w ts
      else if ts.all fun t => t.status == .ended || t.status == .faulted then
        { s with works := s.works.filter fun x => x.id != id, tasks := s.tasks.filter fun t => t.work != id }
      else s
    | .pool die e _ _ =>
      if ts.all fun t => t.status == .ended || t.status == .faulted || t.status == .killed then
        let n := die * 4096 + e
        let p := s.poolOf n
        let s := s.setPool n { p with st := .ended, ok := p.ok && gone, unusedI := w.unusedI, unusedT := w.unusedT }
        ({ s with works := s.works.filter fun x => x.id != id, tasks := s.tasks.filter fun t => t.work != id }).sweepPool n
      else s

/-- The launches of a task that is over: nobody joins them any more (R232, R306). -/
def State.leaveLaunches (s : State) (id : Nat) : State :=
  (s.pool.filter fun kv => kv.2.launcher == id && kv.2.st != .free).foldl (fun s kv =>
    (s.setPool kv.1 { s.poolOf kv.1 with launcherDone := true }).sweepPool kv.1) s

/-- The tensors that TDEF created for the task, a deletion by TFREE that is still held included. -/
def Task.created (t : Task) : List Nat :=
  (t.owned ++ t.heldq.filterMap fun h => match h.kind with | .tfree id => some id | _ => none).eraseDups
/-- Every hold of a task given back (R314). -/
def Task.heldIds (t : Task) : List Nat :=
  t.holds.map (·.id) ++ t.created ++ [t.hdr.code, t.hdr.blend] ++ (if t.hdr.carry = 0 then [] else [t.hdr.carry])
def State.unholdTask (s : State) (t : Task) : State := if t.held0 then t.heldIds.foldl State.unhold s else s
/-- Tasks that have not started give their holds back (R368). -/
def State.unholdReady (s : State) (ts : List Task) : State :=
  (ts.filter Task.undispatched).foldl State.unholdTask s

/-- The tasks of a queue that faulted, one by the underflow of its own DDEC included (log entry 87), and the broken gangs, as fresh instances
(R368). -/
def State.reissue (s : State) (qn : Nat) : State :=
  let ws := s.works.filter fun w => match w.kind with | .queue a _ => a == qn | .lane _ => false | .pool _ _ _ _ => false
  ws.foldl (fun s w =>
    let gangs := (w.broken.filter (·.1 == 0)).map (·.2)
    let inGang := fun (t : Task) => gangs.contains (groupNo w.launch t.inst 0)
    let mine := (s.tasksOf w.id).filter fun t => !t.reissued && (t.status == .faulted || inGang t)
    let s := s.unholdReady mine
    let insts := mine.map (·.inst)
    let gone := fun (t : Task) => t.work == w.id && !t.reissued && insts.contains t.inst &&
      !(t.status == .running || t.status == .parked || t.status == .saved)
    let s := { s with tasks := s.tasks.filter fun t => !gone t }
    let s := s.mapTasks fun t => if t.work = w.id ∧ insts.contains t.inst then { t with reissued := true } else t
    let fresh := (List.range insts.length).map fun k => (s.mkTask { w with counter := 0 } (insts.getD k 0) (s.nextTask + k) w.seq).anew
    { s.setWork { w with broken := [] } with tasks := s.tasks ++ fresh, nextTask := s.nextTask + insts.length }) s
/-- THAW, or a write of STATE = 1 to a FROZEN queue (R286, R368). -/
def State.thawQueue (s : State) (qn : Nat) : State :=
  let q := s.queueOf qn
  if q.st = .frozen then (s.setQueue qn { q with st := .opened, headBad := false }).reissue qn else s

/-- QDISP passes a head operator whose last tile task has been dispatched (R290). -/
def State.passHead (s : State) (work : Nat) : State :=
  match s.workOf work with
  | some w =>
    match w.kind with
    | .queue qn _ =>
      let waits := (s.tasksOf work).any Task.undispatched
      if w.head && !waits then
        let q := s.queueOf qn
        (s.setWork { w with head := false }).setQueue qn { q with disp := (q.disp + 1) % 2 ^ 32 } |>.settleWork work
      else s
    | _ => s
  | none => s

/-- A decrement by the completion of an intake or a decoder (R291). -/
def State.completionDec (s : State) (ctx ref : Nat) : State :=
  if ref = 0 then s
  else match s.decrement ref with
    | some s => s
    | none => s.report ctx 0x13 0 0 0xFFFFFFFF [ref, 0]

end Sys2Proof.Machine
end

