-- ==== Sys2Proof/Machine/Code.lean ====
section
/-! DEFINITION. The code stream as a core reads it (R26 to R31, R35): code words, the blend, what the core has loaded of them,
the loop buffer. -/

namespace Sys2Proof.Machine

/-- Bytes of a tensor as the core in focus sees them; a number read so. -/
def State.coreBytes (s : State) (id off n : Nat) : List Byte :=
  match s.tensor id with
  | some t => s.tensorBytes (Agent.onStack s.stackNo) t off n
  | none => []
def State.coreNat (s : State) (id off n : Nat) : Nat := leNat (s.coreBytes id off n)
def State.sizeOf (s : State) (id : Nat) : Nat := match s.tensor id with | some t => t.size | none => 0

/-- Bytes of the code stream (R30): those that the core has loaded or those that stand, where an agent has written the tensor
since. Which of them, is the device's choice for the code position, one for the code word and its blend bundle (log entry 62). -/
def State.fetchBytes (s : State) (old : List Byte) (id pos off n : Nat) : List Byte :=
  let now := s.coreBytes id off n
  let o := (old.drop off).take n
  if o.length < n ∨ o = now then now else if Config.choice s.cur.img.tag pos % 2 = 0 then o else now
/-- A number in the code tensor, and one in the blend, read for the bundle at a code position. -/
def State.codeNat (s : State) (pos off n : Nat) : Nat := leNat (s.fetchBytes s.cur.img.code s.cur.hdr.code pos off n)
def State.blendNat (s : State) (pos off n : Nat) : Nat := leNat (s.fetchBytes s.cur.img.blend s.cur.hdr.blend pos off n)
/-- What the core has loaded of the code and of the blend is what stands. -/
def State.codeFresh (s : State) : Prop :=
  (∀ pos off n, s.codeNat pos off n = s.coreNat s.cur.hdr.code off n) ∧ ∀ pos off n, s.blendNat pos off n = s.coreNat s.cur.hdr.blend off n

/-- A position that the loop buffer holds: while a body is pinned, no code word of it is read (R35). -/
def State.pinned (s : State) (pos : Nat) : Option Pin :=
  if s.cur.arch.loops.isEmpty then none else s.cur.pins.find? (·.pos == pos)
/-- The code word at a position (R26); none at or beyond the end of the code tensor. -/
def State.codeWord (s : State) (pos : Nat) : Option Nat :=
  match s.pinned pos with
  | some p => p.word
  | none => if 2 * pos + 2 ≤ s.sizeOf s.cur.hdr.code then some (s.codeNat pos (2 * pos) 2) else none
/-- The number of bundles of the task's blend (R29). -/
def State.blendCount (s : State) : Nat := s.sizeOf s.cur.hdr.blend / 48

/-- The bundle at a code position and the words it takes; none for an illegal code word (R27, R28, R31). -/
def State.bundleAt (s : State) (pos : Nat) : Option (Nat × Nat) :=
  match s.pinned pos with
  | some p => p.bundle
  | none =>
    match s.codeWord pos with
    | none => none
    | some w =>
      if w < 0x1000 then (if w < s.blendCount then some (s.blendNat pos (48 * w) 48, 1) else none)
      else if w = 0xFFFF then
        (if 2 * (pos + 25) ≤ s.sizeOf s.cur.hdr.code then
           some (leafBundle ((List.range 24).map fun k => s.codeNat pos (2 * (pos + 1 + k)) 2), 25)
         else none)
      else none
/-- The error in flight that the next fetch of the core in focus meets at a byte of a tensor (R326). -/
def State.fetchError (s : State) (id off : Nat) : Option Meet :=
  (s.coreOf s.core).fetchErr.bind fun e => (s.tensor id).bind fun t => s.localError t off true e
/-- What the fetch of a position meets (R326, R336, R341): a poisoned tile or a revoked key under the code words, or under the
blend where the core has not loaded it; or an error in flight, under the blend where the core reads it and the device has it so (log entry 1). -/
def State.fetchMeet (s : State) (pos : Nat) : Option Meet :=
  let at_ := fun (id off n : Nat) => match s.tensor id with | some t => s.meet t off n | none => none
  match s.pinned pos, s.codeWord pos with
  | none, some w =>
    match at_ s.cur.hdr.code (2 * pos) (if w = 0xFFFF ∧ 2 * (pos + 25) ≤ s.sizeOf s.cur.hdr.code then 50 else 2) with
    | some m => some m
    | none =>
      if w < s.blendCount ∧ s.cur.img.blend.isEmpty then
        match at_ s.cur.hdr.blend (48 * w) 48 with
        | some m => some m
        | none => if Config.choice s.free 4 % 2 = 1 then s.fetchError s.cur.hdr.blend (48 * w) else s.fetchError s.cur.hdr.code (2 * pos)
      else s.fetchError s.cur.hdr.code (2 * pos)
  | _, _ => none

/-- The position after one bundle, as pinning counts it (R35). -/
def State.after (s : State) (pos : Nat) : Nat :=
  match s.codeWord pos with
  | some w => if w = 0xFFFF then (if 2 * (pos + 25) ≤ s.sizeOf s.cur.hdr.code then pos + 25 else max (pos + 1) (s.sizeOf s.cur.hdr.code / 2)) else pos + 1
  | none => pos + 1
/-- The positions of the next n bundles, and the position after them. -/
def State.bodyFrom (s : State) (pos : Nat) : Nat → List Nat × Nat
  | 0 => ([], pos)
  | n + 1 => match s.bodyFrom (s.after pos) n with | (l, a) => (pos :: l, a)
/-- A body pinned from the code stream (R35); a position whose fetch meets an error is read again when it issues. -/
def State.pin (s : State) (body : List Nat) : List Pin :=
  let u := { s with cur := { s.cur with arch := { s.cur.arch with loops := [] } } }
  (body.filter fun p => (u.fetchMeet p).isNone).map fun p => ⟨p, u.codeWord p, u.bundleAt p⟩
/-- The nest that a rollback or a resumption finds active, pinned again from the code stream (R135, R263). -/
def State.repin (s : State) : State :=
  { s with cur := { s.cur with pins := match s.cur.arch.loops.head? with | some l => s.pin l.body | none => [] } }

/-- The code and the blend as a core loads them before a task's first bundle (R29), and as a resumption finds them: in place, or
displaced and loaded again (R30). What cannot be read is left to the fetch. -/
def State.imageBytes (s : State) (core id : Nat) : List Byte :=
  match s.tensor id with
  | some t => if (s.meet t 0 t.size).isSome then [] else s.tensorBytes (Agent.onStack (core / 12)) t 0 t.size
  | none => []
def State.loadImage (s : State) (t : Task) : CodeImage := ⟨s.imageBytes t.core t.hdr.code, s.imageBytes t.core t.hdr.blend, s.free⟩
def State.reloadImage (s : State) (t : Task) : CodeImage :=
  if Config.choice s.free 3 % 2 = 0 then { t.img with tag := s.free } else s.loadImage t

end Sys2Proof.Machine
end

