-- ==== Sys2Proof/Machine/Ops.lean ====
section
/-! DEFINITION. Checkpoints, releases, rollback, recoverable traps and task faults, kills and switches (R204, R252 to R263,
R366): the operations that a cause or a wait sets in motion. -/

namespace Sys2Proof.Machine

/-- A stage barrier (R226) from its fields. -/
def mkBar (pend phase valid arrived count credited expected : Nat) : BitVec 128 :=
  BitVec.ofNat 128 (pend % 2 * 2 ^ 126 + phase % 2 * 2 ^ 125 + valid % 2 * 2 ^ 124 + arrived % 2 ^ 14 * 2 ^ 110 + count % 2 ^ 14 * 2 ^ 96
    + credited % 2 ^ 48 * 2 ^ 48 + expected % 2 ^ 48)
def barPend (b : BitVec 128) : Nat := bf b 126 1
def barPhase (b : BitVec 128) : Nat := bf b 125 1
def barValid (b : BitVec 128) : Nat := bf b 124 1
def barArrived (b : BitVec 128) : Nat := bf b 110 14
def barCount (b : BitVec 128) : Nat := bf b 96 14
def barCredited (b : BitVec 128) : Nat := bf b 48 48
def barExpected (b : BitVec 128) : Nat := bf b 0 48
/-- The sum of credits, saturating (R215, R227). -/
def credit (x n : Nat) : Nat := min (x + n) (2 ^ 48 - 1)
def addCredit (b : BitVec 128) (n : Nat) : BitVec 128 :=
  mkBar (barPend b) (barPhase b) (barValid b) (barArrived b) (barCount b) (credit (barCredited b) n) (barExpected b)
/-- The completion test of R227 is met. -/
def barReady (b : BitVec 128) : Bool :=
  barValid b == 1 && decide (barCount b ≤ barArrived b) && decide (barExpected b ≤ barCredited b)
/-- The phase completes where the test is met (R227). -/
def barTest (b : BitVec 128) : BitVec 128 :=
  if barReady b then mkBar 0 (1 - barPhase b) 1 0 (barCount b) (barCredited b - barExpected b) 0 else b

/-- The copies that write the windows of targets (R202). -/
def CopyKind.targeted : CopyKind → Bool
  | .cpmc | .cpqf => true
  | _ => false
/-- A copy that has not completed. -/
def State.incomplete (s : State) (id : Nat) : Bool := s.copies.any fun c => c.id == id && c.st != .done
/-- The copies in flight at a task's window with something noted of them. -/
def Races.mapFlows (r : Races) (f : Flow → Flow) : Races := { r with inbound := r.inbound.map f, outbound := r.outbound.map f }
/-- The completion test on a task's barrier; a completed phase marks the copies whose credit it counted (R215). -/
def State.testBarrier (s : State) (task b : Nat) : State :=
  match s.taskOf task with
  | none => s
  | some t =>
    let x := t.arch.barrier b
    let mark := fun (f : Flow) => if f.bar = some b ∧ f.credited = true then { f with counted := true } else f
    if barReady x then s.putTask { t with arch := t.arch.setBarrier b (barTest x), races := t.races.mapFlows mark } else s

/-- Some other task's window holds what a copy of the task in focus has written. -/
def State.mentions (s : State) (id : Nat) : Bool :=
  s.tasks.any fun x => x.races.inbound.any (fun (f : Flow) => f.copy == id) || x.news.any fun (n : Fresh) => n.copy == id
/-- Copies joined by the task in focus (R272): its own that are complete leave the state, and their NC stores count as the task's (R277). What
raced in its window is settled (R206), and it knows what the copies did (R275); a token that stays PENDING, or that a rollback may restore so, keeps
their promise (R209, R214). -/
def State.join (s : State) (ids : List Nat) : State :=
  let gone := s.copies.filter fun c => ids.contains c.id && c.st == .done && c.task == s.cur.id
  let late := fun (k : Token) => gone.foldl (fun acc c => if k.copies.contains c.id then max acc c.promise else acc) k.promise
  let keep := fun (a : Arch) => { a with k := a.k.map fun kv => if kv.2.st = .pending then (kv.1, { kv.2 with promise := late kv.2 }) else kv }
  let t := s.cur.joinRaces s.now ids
  let seen := (ids.filter s.mentions).foldl (fun m id => Store.put (copyKey id) 1 m) t.arch.seen
  { s with copies := s.copies.filter fun c => !gone.contains c
           nc := s.nc.map fun n => match n.copy with | some c => if gone.any (·.id == c) then { n with copy := none } else n | none => n
           cur := { t with arch := { keep t.arch with seen := seen }, shadow := keep t.shadow } }
def State.copiesOf (s : State) (task : Nat) : List Copy := s.copies.filter fun c => c.task == task
/-- The copies of the task in focus that it has not joined, those included whose join a rollback has undone. -/
def State.unjoined (s : State) : List Nat :=
  (s.copiesOf s.cur.id).map (·.id) ++ (s.cur.races.inbound.filter fun (f : Flow) => f.task == s.cur.id).map (·.copy)
/-- Tokens whose copies have all completed are DONE (R209). -/
def State.tokenUp (s : State) (k : Token) : Token :=
  if k.st = .pending ∧ k.copies.all (fun c => !s.incomplete c) then { k with st := .done } else k
def State.tokensUp (s : State) (a : Arch) : Arch := { a with k := a.k.map fun kv => (kv.1, s.tokenUp kv.2) }

/-- A store that the global order does not hold yet comes before another access of its task, at a later place and of a class (R270 items
1 to 3). -/
def PStore.before (fs : List FenceAt) (x : PStore) (place cls : Nat) : Bool :=
  cls == 0 || cls == x.cls || fs.any fun f => decide (x.place < f.place) && decide (f.place < place) && f.mask.testBit x.cls && f.mask.testBit cls
/-- Stores of a list that are wanted, with those that come before one of them, directly or through others (R270 item 5), and the rest. -/
def pullStores (fs : List FenceAt) (want : PStore → Bool) (l : List PStore) : List PStore × List PStore :=
  l.foldr (fun (p : PStore) (acc : List PStore × List PStore) =>
    if want p || acc.1.any (fun y => p.before fs y.place y.cls) then (p :: acc.1, acc.2) else (acc.1, p :: acc.2)) ([], [])
/-- The stores of a list that come before an access of a place and a class, and the others. -/
def dueStores (fs : List FenceAt) (place cls : Nat) (l : List PStore) : List PStore × List PStore := pullStores fs (fun p => p.before fs place cls) l
/-- What a task still keeps back from the global order: stores, and the fences behind one of them. -/
def Task.keepStores (t : Task) (l : List PStore) : Task := { t with stores := l, fences := if l.isEmpty then [] else t.fences }
/-- An error that a store of a task meets in flight; the first one is kept (R207). -/
def State.meetLate (s : State) (id : Nat) (r : Raise) : State :=
  match s.taskOf id with
  | some t => if t.met.isNone then s.putTask { t with met := some r } else s
  | none => s
/-- Stores of a task enter the global order; one that meets a revoked key or a POISONED tile there is discarded (R326). -/
def State.enter (s : State) (t : Task) (l : List PStore) : State :=
  l.foldl (fun (s : State) (p : PStore) => match s.tensor p.tensor with
    | some x =>
      match s.meet x p.offset p.bytes.length with
      | some m => s.meetLate t.id ⟨m.cause, p.slot, m.words, some p.pos⟩
      | none => s.writeTensor (Agent.onStack (t.core / 12)) t.id none x p.offset p.bytes
    | none => s) s
/-- The stores that a task has made before a place, and that the global order does not hold yet, enter it in program order. -/
def State.drainUpTo (s : State) (id place : Nat) : State :=
  match s.taskOf id with
  | none => s
  | some t =>
    if t.stores.isEmpty then s
    else (s.putTask (t.keepStores (t.stores.filter fun p => !decide (p.place < place)))).enter t (t.stores.filter fun p => decide (p.place < place))
/-- All of them. -/
def State.drainAll (s : State) (id : Nat) : State :=
  match s.taskOf id with
  | none => s
  | some t => s.drainUpTo id t.place
/-- Some of the stores that a task keeps back, with those that come before them, enter the global order. -/
def State.pull (s : State) (t : Task) (want : PStore → Bool) : State :=
  let d := pullStores t.fences want t.stores
  if d.1.isEmpty then s else (s.putTask (t.keepStores d.2)).enter t d.1
/-- A task's later accesses come after all its earlier ones (R275): a fence of every class behind the stores it still keeps. -/
def Task.fenceAll (t : Task) : Task :=
  if t.stores.isEmpty then t else { t with fences := t.fences ++ [⟨t.place, 255⟩], place := t.place + 1 }
/-- What a task has stored so far comes before the accesses of the operator of a queue entry (R239, R275). -/
def State.owe (s : State) (t : Task) (queue entry : Nat) : State :=
  if t.stores.isEmpty then s
  else match s.workAt queue entry with
    | some w => s.setWork { w with after := w.after ++ [(t.id, t.place)] }
    | none => { s with forks := s.forks ++ [⟨queue, entry, t.id, t.place⟩] }
/-- What comes before every access of a work item enters the global order (R272, R275). -/
def State.drainAfter (s : State) (w : Work) : State :=
  if w.after.isEmpty then s else (w.after.foldl (fun (s : State) x => s.drainUpTo x.1 x.2) s).setWork { w with after := [] }

/-- The promise of a copy that starts now (R210). -/
def State.tail (s : State) (core : Nat) : Nat :=
  s.copies.foldl (fun acc c => if c.core = core ∧ c.st = .active then max acc c.promise else acc) 0
def State.promiseOf (s : State) (c : Copy) : Nat := max s.time (s.tail c.core) + c.lat + (c.bytes + 255) / 256 + c.xf

/-- A launch enters the pool at its release (R307). -/
def State.releaseLaunch (s : State) (t : Task) (die entry : Nat) : State :=
  let n := die * 4096 + entry
  let p := s.poolOf n
  let w := { Work.make s.nextWork (.pool die entry p.gen t.id) p.record p.record with
             prio := min (fld (recF p.record 24 1) 0 3) t.prio, est := recF p.record 32 4, queue := t.queue, entry := t.entry
             owner := t.owner, permit := (s.queueOf t.queue).permit &&& (bit t.hdr.topup + 2 * bit t.hdr.seq + 4 * bit t.hdr.sys)
             level := t.level + 1, seq := t.seq
             after := if t.stores.isEmpty then [] else [(t.id, t.place)] }
  (s.setPool n { p with st := .live, work := w.id }).spawn w t.seq

/-- The bytes of a window that a copy touches lie between two offsets; none where it touches none. -/
def Copy.reach (c : Copy) : Option (Nat × Nat) :=
  let bytes := fun (x : Access) => match x.spad with | some a => if c.kind = .cpxf then none else some (a, a + c.esz) | none => none
  let own := c.todo.foldl (fun (acc : Option (Nat × Nat)) y => match acc, bytes y.2 with
    | some (l, h), some (a, b) => some (min l a, max h b)
    | none, x => x
    | acc, none => acc) none
  if c.kind = .cpxf then (c.chain.getLast?).map fun b => (c.dest, c.dest + recF b 8 4) else own
/-- A copy forks (R272): what its task has done so far, and what happened before that, comes before its accesses; the windows that it writes or reads
hold races from now on (R206). -/
def State.forkCopy (s : State) (c : Copy) (t : Task) : State :=
  let c := { c with st := .active, forkAt := t.place }
  let s := s.setCopy c
  if c.reach.isNone ∧ c.barrier.isNone then s
  else
    let r := c.reach.getD (0, 0)
    let seen := t.clock
    let flow : Flow := ⟨c.id, t.id, r.1, r.2, c.barrier, false, false, seen⟩
    let read := c.kind == .cpout || c.kind == .cpsc
    let s := (if c.kind.targeted then c.targets else [t.id]).foldl (fun (s : State) id => match s.taskOf id with
      | some x =>
        let known := fun (d : Nat) => decide (1 ≤ Store.get 0 seen (copyKey d))
        let loose := if x.id = t.id then [] else x.news.filter fun n => !n.known seen x.id
        s.putTask { x with races := if read then { x.races with outbound := x.races.outbound ++ [flow] } else x.races.fork flow x.win known loose }
      | none => s) s
    match (if c.kind.targeted then s.taskOf t.id else none) with
    | some x => s.putTask { x with stamp := x.stamp + 1 }
    | none => s
/-- One held command of a task released (R204, R236); none where a DDEC meets an underflow. -/
def State.releaseOne (s : State) (t : Task) (h : Held) : Option State :=
  match h.kind with
  | .copy id => some (match s.copyOf id with
    | some c => { s.forkCopy { c with promise := s.promiseOf c, order := s.nextCopy } t with nextCopy := s.nextCopy + 1 }
    | none => s)
  | .lnch die entry => some (s.releaseLaunch t die entry)
  | .enq q r => some ((s.owe t q (s.queueOf q).tail).appendRecord q r)
  | .ddec ref => (s.owe t (fld ref 32 16) (fld ref 0 32)).decrement ref
  | .seqf p c =>
    let s := match Store.look s.seqs c with | some r => { s with seqs := Store.put c { r with st := .released } s.seqs } | none => s
    some ((s.forkSeq p c).getD s)
  | .seqe q => some (s.endSeq q)
  | .tfree id => some ((s.unhold id).deleteTensor id)
  | .nothing => some s
/-- Held commands released in issue order; the underflow of a DDEC ends the release with its cause, and what stands behind it
is still held (R239, R366). -/
def State.releaseList (s : State) (t : Task) : List Held → State × Option Raise
  | [] => (s, none)
  | h :: rest =>
    match s.releaseOne t h with
    | some s => s.releaseList t rest
    | none => ({ s with cur := { s.cur with heldq := rest } }, some ⟨0x13, 1, [match h.kind with | .ddec ref => ref | _ => 0, 0, 0, 0], some h.pos⟩)
def State.release (s : State) : State × Option Raise :=
  let t := s.cur
  { s with cur := { s.cur with heldq := [] } }.releaseList t t.heldq

/-- Retained bytes of every queue freed (R189). -/
def Arch.freeRetained (a : Arch) : Arch := { a with rq := a.rq.map fun kv => (kv.1, { kv.2 with retained := 0 }) }
/-- A checkpoint taken at a position (R252, R253). -/
def Task.checkpoint (t : Task) (pos : Nat) : Task :=
  let a := t.arch.freeRetained
  { t with arch := a, shadow := a, ckpt := pos, ckptDelay := t.delay, ckptRedirect := t.redirect, undo := [], races := t.races.keep
           meets := t.meets.filter fun (m : Meeting) => decide (Store.get 0 a.gbar m.level < m.gen) }
def State.checkpoint (s : State) (pos : Nat) : State :=
  { s with cur := s.cur.checkpoint pos, copies := s.copies.map fun c => if c.task = s.cur.id then { c with fresh := false } else c }

/-- The waits 1 to 3 of R252 hold nothing back at clock u: every result has landed and the array is idle. -/
def Task.quiet (t : Task) (u : Nat) : Bool := t.pend.all (·.landed u) && t.array.isEmpty
/-- Every result in flight lands. -/
def Task.landAll (t : Task) : Task := t.settle (t.pend.foldl (fun acc p => max acc p.last) 0)

/-- The window as the undo log restores it, the last line logged first (R255). -/
def undoWindow (w : Window) (log : List UndoLine) : Window := log.foldr (fun l w => w.write (64 * l.line) l.old) w

/-- What a held command reserved at issue is given back (R204, R236). -/
def State.discardOne (s : State) (h : Held) : State :=
  match h.kind with
  | .copy id => { s with copies := s.copies.filter fun c => c.id != id }
  | .lnch die entry => s.freePool (die * 4096 + entry)
  | .enq q _ => s.setQueue q { s.queueOf q with resv := (s.queueOf q).resv - 1 }
  | .seqf _ c => s.unreserve c
  | .ddec _ | .seqe _ | .tfree _ | .nothing => s
def State.discardHeld (s : State) (t : Task) : State := t.heldq.foldl State.discardOne s

/-- Tensors created since the checkpoint vanish, and grown ones shrink back (R241). -/
def State.undoTensors (s : State) (t : Task) : State :=
  let keep := t.shadow.made
  let s := (t.created.filter fun id => !keep.any fun kv => kv.1 == id).foldl (fun s id => (s.unhold id).deleteTensor id) s
  keep.foldl (fun s kv => match s.tensor kv.1 with
    | some x => s.setTensor { x with e0 := kv.2, size := fmtSize x.fmt (kv.2 * x.rest) }
    | none => s) s

/-- Rollback to the start of the interval (R255, R214, R215). A CFLUSH of the interval runs on. -/
def State.rollback (s : State) : State :=
  let t := s.cur
  let s := (s.discardHeld t).undoTensors t
  let lost : List Nat := (s.copies.filter fun (c : Copy) => c.task == t.id && c.fresh && c.kind != .cflush).map (·.id)
  let s := { s with copies := s.copies.filter fun c => !lost.contains c.id }
  let gone := fun (c : Nat) => (t.heldq.any fun h => match h.kind with | .copy id => id == c | _ => false)
  let a := t.shadow
  let a := { a with k := a.k.map fun (kv : Nat × Token) => (kv.1, s.tokenUp { kv.2 with copies := kv.2.copies.filter fun c => !gone c }) }
  let w := undoWindow t.win t.undo
  let s := { s with cur := { s.cur with arch := a, win := w, races := t.races.undo lost w (t.undo.map fun (l : UndoLine) => l.line), undo := [], pend := [], array := [], heldq := []
                                        pc := t.ckpt, delay := t.ckptDelay, redirect := t.ckptRedirect, wait := [], waitAt := none } }.repin
  (List.range 16).foldl (fun s b => s.testBarrier t.id b) s

/-- A yield is pending (R259). -/
def Task.yieldPending (t : Task) : Bool := t.arch.exhausted || t.arch.clip

/-- Outstanding copies of a task that is stopped are cancelled (R263): the accesses already made stay. -/
def State.cancelCopies (s : State) (id : Nat) : State := { s with copies := s.copies.filter fun c => c.task != id }
/-- A task's copies that target a stopped task complete all the same; what they would still write there is discarded (R202). -/
def State.dropTarget (s : State) (id : Nat) : State :=
  { s with copies := s.copies.map fun c => { c with targets := c.targets.filter (· != id) } }

/-- What a task on a core keeps is given up: interval, results in flight, array, window and save area. -/
def Task.clear (t : Task) (st : TaskSt) : Task :=
  { t with status := st, pend := [], array := [], heldq := [], undo := [], stores := [], fences := [], races := Races.init, news := [], met := none, held0 := false, reserved := [], saveArea := 0
           wait := [], waitAt := none, win := ⟨[], []⟩, delay := 0, redirect := .none }

/-- The clock of a die as the faults of its tasks fall in one: its control clock, or TIME for a die of another device. -/
def State.dieClock (s : State) (die : Nat) : Nat := if die < 4 then (s.stackOf die).c.cyc else s.time
/-- The record of a member's fault, and the 0x1A record that follows it (R365). Of members of one gang that fault in one clock, one 0x1A record
names the lowest: where it named another, that member's own record takes its place, and it comes after (R373). -/
def State.gangRecord (s : State) (t : Task) (own : List Byte) : State :=
  let fn := s.fnOfCtx t.owner
  match s.workOf t.work with
  | none => s.sendTo fn own
  | some w =>
    if groupSize w.launch 0 < 2 then s.sendTo fn own
    else
      let die := t.core / 12
      let mk := Record.bytes ⟨0x1A, 0xFF, 4, 0, t.queue, t.entry, 0, 0, s.time, [t.id, 0, groupSize w.launch 0, 0]⟩
      let gang := groupNo w.launch t.inst 0
      let add := fun (s : State) => (s.sendTo fn mk).setWork { w with gangRec := (gang, die, s.dieClock die, mk) :: w.gangRec.filter (·.1 != gang) }
      match w.gangRec.find? (·.1 == gang) with
      | some (_, k, u, bs) =>
        if s.dieClock k ≠ u then add (s.sendTo fn own)
        else if leNat ((bs.drop 32).take 8) ≤ t.id then s.sendTo fn own
        else add (s.swapRecord fn bs own)
      | none => add (s.sendTo fn own)

/-- The gang of a task broken at every level that contains it (R228): a fresh gang under the same number too, where the task is a member of the
old one that ran on (R366, log entry 25). -/
def State.breakGang (s : State) (t : Task) : State :=
  match s.workOf t.work with
  | none => s
  | some w =>
    s.setWork { w with broken := w.broken ++ ((List.range (recLevels w.launch)).map fun k => (k, groupNo w.launch t.inst k)).filter
                                   fun b => !w.broken.contains b }

/-- The ranges of a task that its fault or kill makes VOID (R302, R311): those it holds for writing, or has written. -/
def Task.wrote (t : Task) : List Hold := if t.held0 ∨ t.status = .ended then t.writes else []
/-- Steps 1 to 5 of R366, apart from the records; of a member that THAW has replaced too, be its operator retired or not (R369, log entry 25). -/
def State.failTask (s : State) (t : Task) : State :=
  let s := (s.drainAll t.id).discardHeld t |>.cancelCopies t.id |>.dropTarget t.id
  let s := (s.leaveCore (t.clear .faulted)).unholdTask t
  let s := ((t.wrote.map (·.id)) ++ t.created).foldl State.voidTensor s
  let s := s.freezeQueue t.queue
  let s := s.breakGang t
  let s := match s.workOf t.work with
    | some w =>
      match w.kind with
      | .pool die e _ _ => s.setPool (die * 4096 + e) { s.poolOf (die * 4096 + e) with ok := false }
      | .lane _ => (w.targets.foldl State.voidTensor (s.setWork { w with failed := true })).resumeWaiters w.targets
      | .queue _ _ => s
    | none => s
  (s.leaveLaunches t.id)

/-- The course of a task fault (R366), with flags of its record beside those that the cause and the task give: FROZEN, where the event
also froze a master, and DISPATCH (R364). -/
def State.faultWith (s : State) (flags id cause slot : Nat) (words : List Nat) (pos : Nat) : State :=
  match s.taskOf id with
  | none => s
  | some t =>
    if t.status = .faulted ∨ t.status = .ended then s
    else
      let rec_ := (s.recordOf t cause slot (flags ||| (if t.began then 0 else 2)) pos words).bytes
      ((s.failTask t).gangRecord t rec_ |>.passHead t.work).settleWork t.work
/-- A task fault whose record has no other flags. -/
def State.taskFault (s : State) (id cause slot : Nat) (words : List Nat) (pos : Nat) : State := s.faultWith 0 id cause slot words pos

/-- The remaining-time estimate at the present (R298). -/
def State.estimate (s : State) (t : Task) : Nat := t.est - (s.time - t.estAt)
/-- The two's-complement bytes of an integer. -/
def leInt (x : Int) (n : Nat) : List Byte := leBytes (scode x (8 * n)) n
/-- The continuation record (R262). -/
def State.contRecord (s : State) (t : Task) (reason : Nat) (target : Int) (carry bytes : Nat) : List Byte :=
  leBytes t.id 4 ++ leBytes t.queue 2 ++ leBytes reason 1 ++ leBytes 0 1 ++ leBytes t.entry 4 ++ leInt target 4
    ++ leBytes (if t.handler then t.trapRet else 0) 4 ++ leBytes carry 1 ++ leBytes t.core 1 ++ leBytes t.arch.q.toNat 2
    ++ leInt t.arch.bgi 8 ++ leInt t.arch.bgt 8 ++ leBytes t.arch.lix.toNat 4 ++ leBytes (t.arch.rho % 64) 1 ++ leBytes t.arch.tctl.toNat 1
    ++ leBytes (t.arch.tstat.toNat + (if t.handler then 128 else 0)) 1 ++ leBytes 0 1 ++ leBytes s.time 8 ++ leBytes (s.estimate t) 4
    ++ leBytes t.arch.trapRec.toNat 4 ++ leBytes 0 8 ++ leBytes bytes 4 ++ leBytes 0 52

/-- The latches that stand at a switch, as the reason bits 0 to 2 of R262. -/
def Task.reasons (t : Task) : Nat :=
  (if t.arch.exhausted && decide (t.arch.bgi ≤ 0) then 1 else 0) + (if t.arch.exhausted && decide (t.arch.bgt ≤ 0) then 2 else 0)
    + (if t.arch.clip then 4 else 0)
/-- The task in focus leaves its core PARKED (R251, R261): the clip latch is cleared, and a budget notice goes out (R371). -/
def State.park (s : State) (reason : Nat) (target : Int) (carry bytes kept : Nat) (full : Bool) : State :=
  let t := s.cur
  let rec_ := s.contRecord t reason target carry bytes
  let t1 := { t with status := .parked, arch := { t.arch with clip := false }, stop := false, cont := rec_, contPos := target, carry := carry, full := full, kept := kept
                     lastRun := s.time, est := s.estimate t, estAt := s.time, age := 0 }
  let s := s.leaveCore t1
  if t.arch.bgi ≤ 0 ∨ t.arch.bgt ≤ 0 then
    s.sendCtx t.owner (s.recordOf t 0x01 0xFF 8 (scode target 32) [scode t.arch.bgi 64, scode t.arch.bgt 64, 0, 0])
  else s
/-- An outstanding copy targets the task, which is then not switched out (R202). -/
def State.targeted (s : State) (id : Nat) : Bool := s.copies.any fun c => c.st != .done && c.targets.contains id
/-- A full switch (R261) after an implicit checkpoint at the target. -/
def State.fullSwitch (s : State) (reason target : Nat) : State :=
  s.park (s.cur.reasons + reason) target 0xFF s.cur.hdr.save (countBits s.cur.hdr.tiles 8) true

/-- A recoverable trap (R257, R260, R387). -/
def State.takeTrap (s : State) (r : Raise) (pos : Nat) : State :=
  let pending := s.cur.yieldPending
  let why := s.cur.reasons
  let s := s.rollback
  let t := s.cur
  if t.handler ∨ !t.hdr.tv ∨ t.hdr.window < t.arch.trapRec.toNat + 64 then s.taskFault t.id r.cause r.slot r.words pos
  else
    let bytes := (s.recordOf t r.cause r.slot 0 pos r.words).bytes
    let t1 := { t with win := t.win.write t.arch.trapRec.toNat bytes, trapRet := t.ckpt, handler := true, aside := t.arch.loops
                       asideDelay := t.delay, asideRedirect := t.redirect, asidePins := t.pins
                       arch := { t.arch with loops := [] }, pc := t.hdr.trap, delay := 0, redirect := .none }
    let s := { s with cur := t1 }.checkpoint t.hdr.trap
    if pending && !s.targeted t.id then s.park (why + 16) t.hdr.trap 0xFF t.hdr.save (countBits t.hdr.tiles 8) true else s

/-- The tiles of the metadata word of a tile (R325), those of its page. -/
def State.wordTiles (s : State) (id tile : Nat) : List Nat :=
  let n := match s.tensor id with | some t => t.pageBytes / 256 | none => 0
  ((List.range 32).map fun i => tile / 32 * 32 + i).filter fun i => decide (i < n)
/-- The tiles that a decode, data or metadata error costs, by cause and detail words (R326, R329): the tile, or the tiles of its metadata word. -/
def State.loseTiles (s : State) (cause : Nat) (ws : List Nat) : State :=
  let id := ws.getD 0 0
  let page := ws.getD 1 0
  let tile := ws.getD 2 0
  if cause = 0x0E ∨ cause = 0x0F ∧ ws.getD 3 0 = 1 then s.poisonTile id page tile
  else if cause = 0x0F ∧ ws.getD 3 0 = 2 then (s.wordTiles id tile).foldl (fun s i => s.poisonTile id page i) s
  else s
/-- A violation of a remote window, by cause and detail words (R365, R370): its reason in the notice, 1 for the key, 2 for bounds or
permission. -/
def violation (cause : Nat) (words : List Nat) : Option Nat :=
  if cause = 0x10 ∧ words.getD 2 0 = 4 then some 1 else if cause = 0x10 ∧ words.getD 2 0 = 5 then some 2 else none
/-- A cause is what an exporter's tensor gives the access of the core in focus (R346): no data of this device is lost by it. -/
def State.exported (s : State) (r : Raise) : Bool :=
  match (s.coreOf s.core).meets with
  | some (.exporter c ws) => c == r.cause && ws == r.words
  | _ => false
/-- A cause raised by the task in focus is taken (R257, R366); the bundle that raises it counts as begun (log entry 38). An error in the
tensor's memory costs its tiles (R326); a violation freezes the core (R370). -/
def State.takeRaise (s : State) (r : Raise) : State :=
  let pos := r.pos.getD s.ctx.pos
  let s1 : State := { s with ctx := { s.ctx with out := .raised r }, cur := { s.cur with began := true } }
  let s := if s.exported r then s1 else s1.loseTiles r.cause r.words
  match violation r.cause r.words with
  | some why =>
    ((s.setCore s.core { s.coreOf s.core with frozen := true }).masterNotice 1 s.core why (r.words.getD 0 0)).faultWith 16 s.cur.id r.cause r.slot r.words pos
  | none => if recoverable r.cause then s.takeTrap r pos else s.taskFault s.cur.id r.cause r.slot r.words pos
/-- The outcome of a slot that raises a cause. -/
def State.raised (s : State) (r : Raise) : Host.Outcome State Fault Refusal := .next (s.takeRaise r)

/-- A task killed and re-queued as a fresh instance with its holds kept (R263, R302); one whose instance has been issued again
already is not queued a second time. Its launches count as those of a launcher that has ended (R306, log entry 88). -/
def State.killOne (s : State) (t : Task) : State :=
  let s := (s.drainAll t.id).discardHeld t |>.cancelCopies t.id |>.dropTarget t.id
  let s := t.created.foldl (fun s id => (if t.status = .ended then s else s.unhold id).voidTensor id) s
  let s := s.leaveCore (t.clear .killed)
  let s := (t.wrote.map (·.id)).foldl State.voidTensor s
  let s := s.leaveLaunches t.id
  match (if t.reissued then none else s.workOf t.work) with
  | none => { s.unholdTask t with tasks := s.tasks.filter fun x => x.id != t.id }
  | some w =>
    let back := if t.status = .ended then { w with unusedI := w.unusedI - (max t.arch.bgi 0).toNat, unusedT := w.unusedT - (max t.arch.bgt 0).toNat } else w
    let s := s.setWork back
    let n := { (s.mkTask w t.inst s.nextTask w.seq).anew with held0 := t.held0, prepared := t.held0, holds := t.holds }
    { s with tasks := (s.tasks.filter fun x => x.id != t.id) ++ [n], nextTask := s.nextTask + 1 }
/-- A kill stops the whole gang, which is re-queued whole, members that have ended included (R301, R302, R323). -/
def State.killTask (s : State) (t : Task) : State :=
  (s.gangOf t).foldl (fun s x => match x.status with
    | .faulted | .killed => s
    | _ => s.killOne x) s

/-- An END that has made its waits (R232): the bytes left in the result queues are discarded; written tensors, successors and the launcher learn of it. -/
def State.endDone (s : State) : State :=
  let s := s.drainAll s.cur.id
  let s := ({ s with cur := s.cur.landAll } : State).join s.unjoined
  let t := s.cur
  let t := { t with arch := { t.arch with rq := t.arch.rq.map fun kv => (kv.1, { kv.2 with data := [], promised := 0, retained := 0 }) } }
  let s := State.ncSettle { s with nc := s.nc.map fun (n : NcStore) => if n.task = t.id then { n with reach := 5 } else n }
  let s := s.unholdTask t
  let s := (s.leaveCore { t.clear .ended with arch := t.arch }).dropTarget t.id
  if t.reissued then (({ s with tasks := s.tasks.filter fun x => x.id != t.id } : State).leaveLaunches t.id).sweepWork t.work
  else
    let s := match s.workOf t.work with
      | some w =>
        match w.kind with
        | .pool _ _ _ _ =>
          (s.setWork { w with unusedI := w.unusedI + (max t.arch.bgi 0).toNat, unusedT := w.unusedT + (max t.arch.bgt 0).toNat }).validate [t] none
        | _ => s
      | none => s
    (s.leaveLaunches t.id).settleWork t.work

end Sys2Proof.Machine
end

