-- ==== Sys2Proof/Machine/MatrixOps.lean ====
section
/-! DEFINITION. The matrix engine (R169 to R192): descriptors and nests, the checks at issue, array operations and their
clocks, result queues. -/

namespace Sys2Proof.Machine

/-- The fields of an operand descriptor (R170). -/
def odKind (d : BitVec 512) : Nat := bf d 0 4
def odMode (d : BitVec 512) : Nat := bf d 4 2
def odP (d : BitVec 512) : Nat := bf d 6 5
def odQ (d : BitVec 512) : Nat := bf d 11 5
def odSU (d : BitVec 512) : Bool := bf d 16 1 == 1
def odScode (d : BitVec 512) : Nat := bf d 24 8
def odBase (d : BitVec 512) : Nat := bf d 32 32
def odRstride (d : BitVec 512) : Nat := bf d 64 32
def odBstride (d : BitVec 512) : Nat := bf d 96 32
def odPstride (d : BitVec 512) : Nat := bf d 128 32
def odScale (d : BitVec 512) : Nat := bf d 160 32
def odScols (d : BitVec 512) : Nat := bf d 192 8
def odRows (d : BitVec 512) : Nat := bf d 208 16
def odAux (d : BitVec 512) : Nat := bf d 224 32

/-- The lowest field bit of a descriptor that breaks R170 or R171: of several bad fields, the record names the lowest (log entry 87). -/
def odFault (d : BitVec 512) : Option Nat :=
  let k := odKind d
  let m := odMode d
  if k = 0 then none
  else if 3 < k then some 0
  else if k = 3 then
    leastOf [failAt (bf d 4 28 != 0) (if m ≠ 0 then 4 else if odP d ≠ 0 then 6 else if odQ d ≠ 0 then 11 else if odSU d then 16
        else if bf d 17 7 ≠ 0 then 17 else 24),
      failAt (odBase d % 4 != 0) 32, failAt (odRstride d != 0) 64, failAt (odBstride d != 0) 96, failAt (odPstride d != 0) 128,
      failAt (odScale d != 0) 160, failAt (odScols d != 0) 192, failAt (bf d 200 8 != 0) 200, failAt (odRows d != 0) 208,
      failAt (odAux d != 0) 224, failAt (bf d 256 256 != 0) 256]
  else
    leastOf [failAt (m == 3 || (k == 2 && m != 0)) 4, failAt (!(decide (2 ≤ odP d) && decide (odP d ≤ 8) || odP d == 16)) 6,
      failAt (odQ d == 0 || decide (odP d < odQ d)) 11, failAt (bf d 17 7 != 0) 17, failAt (!odSU d && odScode d != 0) 24,
      failAt (odBase d % 8 != 0) 32, failAt (odRstride d % 8 != 0 || (m == 1 && odRstride d != 0)) 64, failAt (odBstride d % 8 != 0) 96,
      failAt (odPstride d == 0 || odPstride d % 8 != 0) 128, failAt (odSU d && odScale d != 0) 160, failAt (odSU d && odScols d != 0) 192,
      failAt (bf d 200 8 != 0) 200, failAt (if m = 2 then odRows d == 0 else odRows d != 0) 208,
      failAt ((m == 0 && odAux d != 0) || (m == 2 && odAux d % 2 != 0)) 224, failAt (bf d 256 256 != 0) 256]

/-- The lowest field bit of a replay nest that breaks R174 (log entry 87). -/
def nestFault (d : BitVec 512) : Option Nat :=
  leastOf [failAt (bf d 0 16 == 0) 0, failAt (bf d 16 16 == 0) 16, failAt (bf d 32 16 == 0) 32, failAt (bf d 48 16 == 0) 48,
    failAt (bf d 64 8 == 0) 64, failAt (bf d 72 8 == 0) 72, failAt (bf d 80 8 == 0) 80, failAt (bf d 88 8 == 0) 88,
    failAt (bf d 96 8 == 0) 96, failAt (bf d 104 8 == 0) 104, failAt (bf d 128 16 == 0 || decide (127 < bf d 128 16)) 128,
    failAt (bf d 144 16 != 0) 144, failAt (bf d 160 32 % 8 != 0) 160, failAt (bf d 192 32 % 8 != 0) 192, failAt (bf d 224 288 != 0) 224]

/-- Plane 0 of the A block of a row and a block number in replay mode; none for a zero block (R175). -/
def replayAddr (d n : BitVec 512) (r kb : Nat) : Option Nat :=
  let x := odAux d + r
  let oe0 := bf n 0 16
  let o0 := x % oe0
  let o1 := x / oe0
  let cb := kb % bf n 128 16
  let t := kb / bf n 128 16
  let f0 := t % bf n 64 8
  let f1 := t / bf n 64 8
  let i0 : Int := o0 * bf n 80 8 + f0 * bf n 96 8 - bf n 112 8
  let i1 : Int := o1 * bf n 88 8 + f1 * bf n 104 8 - bf n 120 8
  if bf n 16 16 ≤ o1 ∨ i0 < 0 ∨ (bf n 32 16 : Int) ≤ i0 ∨ i1 < 0 ∨ (bf n 48 16 : Int) ≤ i1 then none
  else some (odBase d + i1.toNat * bf n 192 32 + i0.toNat * bf n 160 32 + cb * odBstride d)
/-- Plane 0 of a block of an A operand (R172, R175, R176). -/
def aAddr (d : BitVec 512) (nest : Option (BitVec 512)) (index : List Nat) (r kb : Nat) : Option Nat :=
  match odMode d with
  | 1 => match nest with | some n => replayAddr d n r kb | none => none
  | 2 => let i := index.getD r 0
         if i = 0xFFFF then none else some (odBase d + i * odRstride d + kb * odBstride d)
  | _ => some (odBase d + r * odRstride d + kb * odBstride d)
/-- Plane 0 of a block of a B operand (R172). -/
def bAddr (d : BitVec 512) (c kb : Nat) : Option Nat := some (odBase d + c * odRstride d + kb * odBstride d)

/-- The least byte at or beyond the window that an operand's planes cover; the quick bound decides the usual case. -/
def planesBeyond (window : Nat) (d : BitVec 512) (addr : Nat → Nat → Option Nat) (kbs bound : Nat) : Option Nat :=
  if bound ≤ window then none
  else
    (List.range 128).foldl (fun acc r => (List.range kbs).foldl (fun acc kb =>
      match addr r kb with
      | none => acc
      | some a => (List.range (odQ d)).foldl (fun acc j =>
          leastOf [acc, failAt (decide (window < a + j * odPstride d + 8)) (max window (a + j * odPstride d))]) acc) acc) none
/-- A bound on the end of an A operand's planes. -/
def aBound (d : BitVec 512) (nest : Option (BitVec 512)) (kbs : Nat) : Nat :=
  let last := (odQ d - 1) * odPstride d + 8
  match odMode d with
  | 1 => match nest with
    | some n => odBase d + (bf n 48 16) * bf n 192 32 + (bf n 32 16) * bf n 160 32 + bf n 128 16 * odBstride d + last
    | none => 0
  | 2 => odBase d + odRows d * odRstride d + (kbs - 1) * odBstride d + last
  | _ => odBase d + 127 * odRstride d + (kbs - 1) * odBstride d + last
def bBound (d : BitVec 512) (kbs : Nat) : Nat := odBase d + 127 * odRstride d + (kbs - 1) * odBstride d + (odQ d - 1) * odPstride d + 8

/-- Step 2 of R177 for one operand: the scale-layout fault of R86 with its detail words (R192). -/
def scaleFault (window num : Nat) (d : BitVec 512) (kbs : Nat) : Option (List Nat) :=
  if odSU d then none
  else if odScale d % 1024 ≠ 0 then some [num, 1, odScols d, kbs]
  else if odScols d < (kbs + 31) / 32 then some [num, 2, odScols d, kbs]
  else if window < odScale d + 4 * odScols d * 1024 then some [num, 3, odScols d, kbs]
  else none

/-- The index list of a gather operand, as the window stands (R176). -/
def State.indexList (s : State) (d : BitVec 512) : List Nat := (List.range 128).map fun i => s.spadNat (odAux d + 2 * i) 2

/-- The checks of R177 for an MMA-family operation, in their order. Where both descriptors break the same condition, the record
names DA (log entry 65). -/
def State.mmaCheck (s : State) (mode : Nat) (da db kbs : Nat) : Option Raise :=
  let w := s.cur.hdr.window
  let desc := fun n why a b => some (s.raise 0x0D [n, why, a, b])
  match Store.get none s.cur.arch.od da with
  | none => desc da 1 0 0
  | some a =>
    match (if mode = 2 ∧ odKind a = 1 ∧ odMode a = 2 then s.winFault (odAux a) 256 else none) with
    | some r => some r
    | none =>
      match Store.get none s.cur.arch.od db with
      | none => desc db 1 0 0
      | some b =>
        let nest := Store.get none s.cur.arch.nest da
        let idx := if mode = 2 then s.indexList a else []
        let limit := match nest with | some n => bf n 64 8 * bf n 72 8 * bf n 128 16 | none => 0
        if odKind a ≠ 1 then desc da 2 0 0
        else if odKind b ≠ 2 then desc db 2 0 0
        else if odMode a ≠ mode then desc da 3 0 0
        else if mode = 1 ∧ (nest.isNone ∨ limit < kbs) then desc da 4 0 0
        else
          match (List.range 128).find? fun i => mode == 2 && idx.getD i 0 != 0xFFFF && decide (odRows a ≤ idx.getD i 0) with
          | some i => desc da 5 i (idx.getD i 0)
          | none =>
            match scaleFault w da a kbs, scaleFault w db b kbs with
            | some ws, _ => some (s.raise 0x0C ws)
            | none, some ws => some (s.raise 0x0C ws)
            | none, none =>
              match leastOf [planesBeyond w a (aAddr a nest idx) kbs (aBound a nest kbs), planesBeyond w b (bAddr b) kbs (bBound b kbs)] with
              | some x => some (s.raise 4 [x, w, 0xFF, s.slotNo])
              | none => none

/-- The scoreboard marks a tile busy while an array operation on it has not ended (R178). -/
def Task.busy (t : Task) (tile : Nat) : Bool := t.array.any (·.tile == tile)
/-- An array operation enters the queue of the array (R178); of a byte that races then it may read any of the values (R274). -/
def State.pushArray (s : State) (kind : ArrayKind) (tile clocks : Nat) : State :=
  { s with cur := { s.cur with array := s.cur.array ++ [⟨kind, tile, clocks, 0, false, s.cur.arch.tctl, s.cur.win, s.cur.races.alts.map fun x => (x.addr, x.byte), [], 0, s.free⟩] }
           free := s.free + 1 }

/-- The bytes that a drain pushes (R187), and those of a row. -/
def rowBytes : DrainFmt → Nat | .fp32 => 512 | .bf16 => 256 | .fp16 => 256 | .e4m3 => 128 | .e5m2 => 128 | .i8 => 128 | .np8 => 128
def drainBytes (f : DrainFmt) : Nat := 128 * rowBytes f + (match f with | .np8 => 256 | _ => 0)

/-- The occupancy of a queue (R191), in landed and promised bytes. -/
def ResQ.occ (q : ResQ) : Nat := q.data.length + q.promised
/-- Bytes popped (R191): taken from the landed ones, and retained until the next checkpoint. -/
def ResQ.pop (q : ResQ) (n : Nat) : ResQ := { q with data := q.data.drop n, retained := q.retained + n }

/-- A byte that an array operation reads: the old or the new one where later stores or copies changed it (R179). -/
def ArrayOp.byte (o : ArrayOp) (now : Window) (a : Nat) : Byte :=
  let l := o.snap.byte a :: now.byte a :: (o.mids.filter (·.1 == a)).map (·.2)
  if l.all (· == o.snap.byte a) then o.snap.byte a else l.getD (Config.choice o.tag a % l.length) 0
def ArrayOp.read (o : ArrayOp) (now : Window) (a n : Nat) : List Byte := (List.range n).map fun i => o.byte now (a + i)
def ArrayOp.block (o : ArrayOp) (now : Window) (d : BitVec 512) (a : Option Nat) : List Byte :=
  match a with
  | none => List.replicate (8 * odQ d) 0
  | some x => ((List.range (odQ d)).map fun j => o.read now (x + j * odPstride d) 8).flatten
def ArrayOp.scale (o : ArrayOp) (now : Window) (d : BitVec 512) (a : Option Nat) (r kb : Nat) : Nat :=
  match a with
  | none => 0
  | some _ => if odSU d then odScode d else (o.byte now (scaleAddr (odScale d) (odScols d) r kb)).toNat

/-- The tile of an MMA-family operation when it ends, and its flags (R183). -/
def ArrayOp.product (o : ArrayOp) (now : Window) (zero : Bool) (kbs : Nat) (nest : Option (BitVec 512)) (da db : BitVec 512)
    (idx : List Nat) (old : Tile) : Tile × Flags :=
  let col := fun c kb => (o.block now db (bAddr db c kb), o.scale now db (bAddr db c kb) c kb)
  let row := fun r kb => (o.block now da (aAddr da nest idx r kb), o.scale now da (aAddr da nest idx r kb) r kb)
  let elem := fun i =>
    let r := i / 128
    let c := i % 128
    (List.range kbs).foldl (fun (acc : Nat × Flags) kb =>
      let a := row r kb
      let b := col c kb
      let x := accAdd acc.1 (npBlockDot a.1 (odQ da) a.2 b.1 (odQ db) b.2 o.tctl) o.tctl
      (x.1, acc.2 ||| x.2)) (if zero then 0 else (old.getD i 0).toNat, 0)
  let es := (List.range 16384).map elem
  (es.map fun e => BitVec.ofNat 32 e.1, es.foldl (fun f e => f ||| e.2) 0)

/-- An element of a drain before it is stored (R186). -/
def drainElem (t : Tctl) (x : Nat) (off : Option Nat) (shift : Option Int) (relu : Bool) : FVal × Flags :=
  let v := srcF .fp32 t x
  let v := match off with | some y => FVal.add t.rm v (srcF .fp32 t y) | none => (v, 0)
  let w := match v.1, shift with | .fin n m e, some k => .fin n m (e + k) | y, _ => y
  (if relu && !w.isNan && w.isNeg then FVal.zero false else w, v.2)

/-- A row of a drain: its bytes, its scale codes and its flags (R186, R187). -/
def drainRow (t : Tctl) (fmt : DrainFmt) (vs : List (FVal × Flags)) : List Byte × List Byte × Flags :=
  let fl := vs.foldl (fun f v => f ||| v.2) 0
  let ys := vs.map Prod.fst
  let enc := fun (f : Fmt) =>
    let es := ys.map (encodeF f t)
    ((es.map fun e => leBytes e.1 (f.w / 8)).flatten, [], fl ||| es.foldl (fun g e => g ||| e.2) 0)
  match fmt with
  | .fp32 => enc .fp32 | .bf16 => enc .bf16 | .fp16 => enc .fp16 | .e4m3 => enc .e4m3 | .e5m2 => enc .e5m2
  | .i8 =>
    let es := ys.map fun y => toIntF y 8 true t.rm
    (es.map (fun e => BitVec.ofInt 8 e.1), [], fl ||| es.foldl (fun g e => g ||| e.2) 0)
  | .np8 =>
    let a := npEncodeBlock (ys.take 64) 8 t
    let b := npEncodeBlock (ys.drop 64) 8 t
    (planesOf a.2.1 8 ++ planesOf b.2.1 8, [BitVec.ofNat 8 a.1, BitVec.ofNat 8 b.1], fl ||| a.2.2 ||| b.2.2)

/-- The four rows that a drain writes in one of its clocks land in the queue, with the np8 trailer and the flags in the last
(R180, R188). -/
def Task.drainClock (t : Task) (o : ArrayOp) (rq : Nat) (fmt : DrainFmt) (relu : Bool) (shift : Option Int) (offset : Option Nat) :
    Task × ArrayOp :=
  let tile := t.arch.tile o.tile
  let rows := (List.range 4).map fun k =>
    let r := 4 * o.done + k
    drainRow o.tctl fmt ((List.range 128).map fun c =>
      drainElem o.tctl (tile.getD (128 * r + c) 0).toNat (offset.map fun b => leNat (o.read t.win (b + 4 * c) 4)) shift relu)
  let bytes := (rows.map fun x => x.1).flatten
  let codes := o.rest ++ (rows.map fun x => x.2.1).flatten
  let push := if o.done = 31 then bytes ++ codes else bytes
  let q := t.arch.queue rq
  let fl := o.flags ||| rows.foldl (fun f x => f ||| x.2.2) 0
  let a := t.arch.setQueue rq { q with data := q.data ++ push, promised := q.promised - push.length }
  ({ t with arch := if o.done = 31 then { a with tstat := a.tstat ||| fl } else a }, { o with rest := codes, flags := fl })

/-- The array operation at the head ends (R180): its tile and its flags land; those of a drain have landed with its last row. -/
def Task.endArray (t : Task) : Task :=
  match t.array with
  | [] => t
  | o :: rest =>
    let res := match o.kind with
      | .mma z _ _ kb n da db idx => o.product t.win z kb n da db idx (t.arch.tile o.tile)
      | .drain _ _ _ _ _ => (t.arch.tile o.tile, 0)
      | .zero => ([], 0)
    let a := match o.kind with
      | .drain _ _ _ _ _ => t.arch
      | _ => t.arch.setTile o.tile res.1
    { t with array := rest, arch := { a with tstat := a.tstat ||| res.2 } }
/-- The head starts (R178). -/
def Task.startArray (t : Task) : Task :=
  match t.array with
  | o :: rest => if o.started then t else { t with array := { o with started := true } :: rest }
  | [] => t
/-- One matrix clock of the head (R169, R188). -/
def Task.arrayClock (t : Task) : Task :=
  match t.array with
  | o :: rest =>
    if !o.started ∨ o.clocks ≤ o.done then t
    else
      match o.kind with
      | .drain rq f re sh off =>
        match t.drainClock o rq f re sh off with
        | (t, o) => { t with array := { o with done := o.done + 1 } :: rest }
      | _ => { t with array := { o with done := o.done + 1 } :: rest }
  | [] => t
/-- The head has run all its clocks. -/
def Task.arrayDue (t : Task) : Bool := match t.array with | o :: _ => o.started && decide (o.clocks ≤ o.done) | [] => false
/-- The head runs to its end, at once. -/
def Task.runHead (t : Task) : Task :=
  match t.array with
  | [] => t
  | o :: _ => ((List.range (o.clocks - o.done)).foldl (fun (t : Task) _ => t.arrayClock) t.startArray).endArray
/-- Every array operation of a task runs to its end. -/
def Task.finishArray (t : Task) : Task := (List.range t.array.length).foldl (fun (t : Task) _ => t.runHead) t
/-- A clock edge of the matrix layer for the array of a task's core. -/
def Task.arrayEdge (t : Task) : Task := ((if t.arrayDue then t.endArray else t).startArray).arrayClock

end Sys2Proof.Machine
end

