-- ==== Sys2Proof/Machine/Fetch.lean ====
section
/-! DEFINITION. What follows a bundle (R33 to R36, R122, R128 to R135): the loop unit, branches. -/

namespace Sys2Proof.Machine

/-- Illegal code word at a position (R31, R365); a position that holds no word has a free one in word 1 (log entry 1). -/
def State.badWord (s : State) (pos : Int) : Raise :=
  let w := if 0 ≤ pos ∧ pos < 2 ^ 32 then s.codeWord pos.toNat else none
  ⟨0x01, 0xFF, [0, match w with | some w => w | none => Config.freeNat s.free 0 % 65536, scode pos 64, 0], some (scode pos 32)⟩

/-- The start of a pass: lc, and the stage predicates of a pipelined loop, whose results in flight are discarded (R122, R128). -/
def Task.passStart (t : Task) (l : Loop) : Task :=
  let q := if l.stages < 2 then t.arch.q
    else (List.range l.stages).foldl (fun q j =>
      let on := decide (l.i0 + j ≤ l.k) && decide (l.k < l.stop + j)
      if on then q ||| (1#16 <<< (8 + j)) else q &&& ~~~(1#16 <<< (8 + j))) t.arch.q
  let pend := if l.stages < 2 then t.pend
    else t.pend.filter fun p => match p.dest with | .q i _ => !(decide (8 ≤ i) && decide (i < 8 + l.stages)) | _ => true
  { t with arch := { t.arch with q := q, lc := Store.set 0 t.arch.lc l.level (BitVec.ofNat 32 l.k) }, pend := pend }

/-- The first pass of the loop that a LOOP has just started. -/
def Task.firstPass (t : Task) : Task := match t.arch.loops.getLast? with | some l => t.passStart l | none => t

/-- The end of the innermost loop's body: a rotation, the next pass or the end of the loop, and so on outwards where the
body's end is the enclosing body's too (R128 to R131). `depth` counts the loops. -/
def Task.passEnd (t : Task) (pos : Nat) : Nat → Task
  | 0 => t
  | depth + 1 =>
    match t.arch.loops.getLast? with
    | none => t
    | some l =>
      if l.body.getLast? ≠ some pos then
        { t with pc := ((l.body[l.index pos + 1]?).getD l.after : Nat) }
      else
        let outer := t.arch.loops.length == 1
        let t := if l.stages < 2 then t else { t with arch := { t.arch with rho := t.arch.rho + 1 } }
        let k := l.k + 1
        let early := outer && decide (l.i0 < k) && decide (k < l.stop) && (t.yieldPending || decide (t.hdr.span ≤ t.arch.bgs + l.margin))
        let stop := if early then k else l.stop
        let l := { l with k := k, stop := stop }
        if stop + l.stages - 1 ≤ k then
          let rest := t.arch.loops.dropLast
          let t := { t with arch := { t.arch with loops := rest, lix := if outer then BitVec.ofNat 32 stop else t.arch.lix } }
          if outer then { t with pc := (l.after : Nat) } else t.passEnd pos depth
        else
          let t := { t with arch := { t.arch with loops := t.arch.loops.dropLast ++ [l] }, pc := ((l.body.head?).getD l.after : Nat) }
          t.passStart l

/-- The delay bundles that are owed, where issue has come to them (R263). -/
def Task.settleOwed (t : Task) : Task :=
  match t.arch.owed with
  | some o => if t.pc = o.target ∧ t.delay = 0 then { t with arch := { t.arch with owed := none }, delay := o.delay, redirect := o.redirect } else t
  | none => t
/-- Where issue goes after a bundle at a position (R33, R129, R134): the bundle of a LOOP starts its first pass. `next` is the position after it, `branch` whether the bundle carries a branch of R34. -/
def Task.advance (t : Task) (pos next : Nat) (branch : Bool) : Task :=
  let t := if !branch && t.delay > 0 then { t with delay := t.delay - 1 } else t
  if t.delay = 0 ∧ t.redirect ≠ .none then
    match t.redirect with
    | .jump x => { t with redirect := .none, pc := x }
    | .enter => { t with redirect := .none, pc := (next : Nat) }.firstPass
    | .skip last => { t with redirect := .none }.passEnd last (t.arch.loops.length)
    | .back =>
      { t with redirect := t.asideRedirect, delay := t.asideDelay, pc := (t.trapRet : Nat)
               arch := { t.arch with loops := t.aside }, aside := [], pins := t.asidePins, asidePins := [] }
    | .leave =>
      let a := match t.arch.loops.head? with | some l => l.after | none => next
      { t with redirect := .none, pc := (a : Nat), arch := { t.arch with loops := [] } }
    | _ => t
  else
    match t.arch.loops.getLast? with
    | none => { t with pc := (next : Nat) }
    | some l => if l.body.contains pos then t.passEnd pos (t.arch.loops.length) else { t with pc := (next : Nat) }

end Sys2Proof.Machine
end

