-- ==== Sys2Proof/Machine/Scalar.lean ====
section
/-! DEFINITION. The meanings of the scalar, predicate and floating-point operations of S0 and S1 (R113 to R121). -/

namespace Sys2Proof.Machine

/-- A slot under a guard (R55): a false guard does nothing. -/
def State.under (s : State) (g : Guard) (k : Host.Outcome State Fault Refusal) : Host.Outcome State Fault Refusal :=
  if s.guardOn g then k else s.ran
/-- A scalar result under a guard. -/
def State.putS (s : State) (g : Guard) (sd : Nat) (v : Word) (bound : Nat) : Host.Outcome State Fault Refusal :=
  s.under g (s.emitS sd v bound 0).ran
/-- A scalar binary32 result with its flags under a guard (R118). -/
def State.putF (s : State) (g : Guard) (sd : Nat) (r : Word × Flags) : Host.Outcome State Fault Refusal :=
  s.under g (s.emitS sd r.1 4 r.2).ran
/-- A scalar predicate under a guard. -/
def State.putQ (s : State) (g : Guard) (qd : Nat) (v : Bool) (bound : Nat) : Host.Outcome State Fault Refusal :=
  s.under g (s.emitQ qd v bound).ran
/-- TCTL at issue (R60). -/
def State.tctl (s : State) : Tctl := s.cur.arch.tctl

/-- NOP (R20). -/
def execNop (s : State) : Host.Outcome State Fault Refusal := s.ran

/-- ADD (R114). -/
def execAdd (g : Guard) (sd sa sb : Nat) (s : State) : Host.Outcome State Fault Refusal :=
  s.putS g sd (aluAdd (s.rdS sa) (s.rdS sb)) 1
/-- SUB (R114). -/
def execSub (g : Guard) (sd sa sb : Nat) (s : State) : Host.Outcome State Fault Refusal :=
  s.putS g sd (aluSub (s.rdS sa) (s.rdS sb)) 1
/-- MUL (R114). -/
def execMul (g : Guard) (sd sa sb : Nat) (s : State) : Host.Outcome State Fault Refusal :=
  s.putS g sd (aluMul (s.rdS sa) (s.rdS sb)) 3
/-- MULH (R114). -/
def execMulh (g : Guard) (sd sa sb : Nat) (s : State) : Host.Outcome State Fault Refusal :=
  s.putS g sd (aluMulh (s.rdS sa) (s.rdS sb)) 3
/-- DIV (R114). -/
def execDiv (g : Guard) (sd sa sb : Nat) (s : State) : Host.Outcome State Fault Refusal :=
  s.putS g sd (aluDiv (s.rdS sa) (s.rdS sb)) 12
/-- REM (R114). -/
def execRem (g : Guard) (sd sa sb : Nat) (s : State) : Host.Outcome State Fault Refusal :=
  s.putS g sd (aluRem (s.rdS sa) (s.rdS sb)) 12
/-- MIN (R114). -/
def execMin (g : Guard) (sd sa sb : Nat) (s : State) : Host.Outcome State Fault Refusal :=
  s.putS g sd (aluMin (s.rdS sa) (s.rdS sb)) 1
/-- MAX (R114). -/
def execMax (g : Guard) (sd sa sb : Nat) (s : State) : Host.Outcome State Fault Refusal :=
  s.putS g sd (aluMax (s.rdS sa) (s.rdS sb)) 1
/-- AND (R114). -/
def execAnd (g : Guard) (sd sa sb : Nat) (s : State) : Host.Outcome State Fault Refusal :=
  s.putS g sd (aluAnd (s.rdS sa) (s.rdS sb)) 1
/-- OR (R114). -/
def execOr (g : Guard) (sd sa sb : Nat) (s : State) : Host.Outcome State Fault Refusal :=
  s.putS g sd (aluOr (s.rdS sa) (s.rdS sb)) 1
/-- XOR (R114). -/
def execXor (g : Guard) (sd sa sb : Nat) (s : State) : Host.Outcome State Fault Refusal :=
  s.putS g sd (aluXor (s.rdS sa) (s.rdS sb)) 1
/-- ANDN (R114). -/
def execAndn (g : Guard) (sd sa sb : Nat) (s : State) : Host.Outcome State Fault Refusal :=
  s.putS g sd (aluAndn (s.rdS sa) (s.rdS sb)) 1
/-- SHL (R114). -/
def execShl (g : Guard) (sd sa sb : Nat) (s : State) : Host.Outcome State Fault Refusal :=
  s.putS g sd (aluShl (s.rdS sa) (s.rdS sb)) 1
/-- SHR (R114). -/
def execShr (g : Guard) (sd sa sb : Nat) (s : State) : Host.Outcome State Fault Refusal :=
  s.putS g sd (aluShr (s.rdS sa) (s.rdS sb)) 1
/-- SRA (R114). -/
def execSra (g : Guard) (sd sa sb : Nat) (s : State) : Host.Outcome State Fault Refusal :=
  s.putS g sd (aluSra (s.rdS sa) (s.rdS sb)) 1
/-- ROL (R114). -/
def execRol (g : Guard) (sd sa sb : Nat) (s : State) : Host.Outcome State Fault Refusal :=
  s.putS g sd (aluRol (s.rdS sa) (s.rdS sb)) 1
/-- CLZ (R114). -/
def execClz (g : Guard) (sd sa : Nat) (s : State) : Host.Outcome State Fault Refusal :=
  s.putS g sd (aluClz (s.rdS sa)) 1
/-- CTZ (R114). -/
def execCtz (g : Guard) (sd sa : Nat) (s : State) : Host.Outcome State Fault Refusal :=
  s.putS g sd (aluCtz (s.rdS sa)) 1
/-- POPC (R114). -/
def execPopc (g : Guard) (sd sa : Nat) (s : State) : Host.Outcome State Fault Refusal :=
  s.putS g sd (aluPopc (s.rdS sa)) 1
/-- BFX (R115). -/
def execBfx (g : Guard) (sd sa sb : Nat) (s : State) : Host.Outcome State Fault Refusal :=
  s.putS g sd (aluBfx (s.rdS sa) (s.rdS sb)) 1
/-- BFI (R115): reads its destination. -/
def execBfi (g : Guard) (sd sa sb : Nat) (s : State) : Host.Outcome State Fault Refusal :=
  s.putS g sd (aluBfi (s.rdS sd) (s.rdS sa) (s.rdS sb)) 1
/-- SEL (R115). -/
def execSel (g : Guard) (sd qs sa sb : Nat) (s : State) : Host.Outcome State Fault Refusal :=
  s.putS g sd (if s.rdQ qs then s.rdS sa else s.rdS sb) 1
/-- CMP (R117). -/
def execCmp (g : Guard) (cc : Cond) (qd sa sb : Nat) (s : State) : Host.Outcome State Fault Refusal :=
  s.putQ g qd (Cond.holds cc (s.rdS sa) (s.rdS sb)) 1
/-- ADDI (R116). -/
def execAddi (g : Guard) (sd sa : Nat) (imm : Int) (s : State) : Host.Outcome State Fault Refusal :=
  s.putS g sd (aluAdd (s.rdS sa) (word imm)) 1
/-- MULI (R116). -/
def execMuli (g : Guard) (sd sa : Nat) (imm : Int) (s : State) : Host.Outcome State Fault Refusal :=
  s.putS g sd (aluMul (s.rdS sa) (word imm)) 3
/-- ANDI (R116). -/
def execAndi (g : Guard) (sd sa imm : Nat) (s : State) : Host.Outcome State Fault Refusal :=
  s.putS g sd (aluAnd (s.rdS sa) (wordN imm)) 1
/-- ORI (R116). -/
def execOri (g : Guard) (sd sa imm : Nat) (s : State) : Host.Outcome State Fault Refusal :=
  s.putS g sd (aluOr (s.rdS sa) (wordN imm)) 1
/-- XORI (R116). -/
def execXori (g : Guard) (sd sa imm : Nat) (s : State) : Host.Outcome State Fault Refusal :=
  s.putS g sd (aluXor (s.rdS sa) (wordN imm)) 1
/-- SHLI (R116). -/
def execShli (g : Guard) (sd sa n : Nat) (s : State) : Host.Outcome State Fault Refusal :=
  s.putS g sd (aluShl (s.rdS sa) (wordN n)) 1
/-- SHRI (R116). -/
def execShri (g : Guard) (sd sa n : Nat) (s : State) : Host.Outcome State Fault Refusal :=
  s.putS g sd (aluShr (s.rdS sa) (wordN n)) 1
/-- SRAI (R116). -/
def execSrai (g : Guard) (sd sa n : Nat) (s : State) : Host.Outcome State Fault Refusal :=
  s.putS g sd (aluSra (s.rdS sa) (wordN n)) 1
/-- CMPI (R117). -/
def execCmpi (g : Guard) (cc : Cond) (qd sa : Nat) (imm : Int) (s : State) : Host.Outcome State Fault Refusal :=
  s.putQ g qd (Cond.holds cc (s.rdS sa) (word imm)) 1
/-- LDI (R116). -/
def execLdi (g : Guard) (sd : Nat) (imm : Int) (s : State) : Host.Outcome State Fault Refusal :=
  s.putS g sd (word imm) 1
/-- LDIH (R116): reads its destination. -/
def execLdih (g : Guard) (sd imm : Nat) (s : State) : Host.Outcome State Fault Refusal :=
  s.putS g sd (aluLdih (s.rdS sd) imm) 1
/-- LEA (R116). -/
def execLea (g : Guard) (sd sa : Nat) (off : Int) (sh : Nat) (s : State) : Host.Outcome State Fault Refusal :=
  s.putS g sd (aluLea (s.rdS sa) off sh) 1
/-- FADD (R118). -/
def execFadd (g : Guard) (sd sa sb : Nat) (s : State) : Host.Outcome State Fault Refusal :=
  s.putF g sd (fAdd s.tctl (s.rdS sa) (s.rdS sb))
/-- FSUB (R118). -/
def execFsub (g : Guard) (sd sa sb : Nat) (s : State) : Host.Outcome State Fault Refusal :=
  s.putF g sd (fSub s.tctl (s.rdS sa) (s.rdS sb))
/-- FMUL (R118). -/
def execFmul (g : Guard) (sd sa sb : Nat) (s : State) : Host.Outcome State Fault Refusal :=
  s.putF g sd (fMul s.tctl (s.rdS sa) (s.rdS sb))
/-- FMA (R118): one rounding. -/
def execFma (g : Guard) (sd sa sb sc : Nat) (s : State) : Host.Outcome State Fault Refusal :=
  s.putF g sd (fFma s.tctl (s.rdS sa) (s.rdS sb) (s.rdS sc))
/-- FMIN (R118): no rounding and no flag. -/
def execFmin (g : Guard) (sd sa sb : Nat) (s : State) : Host.Outcome State Fault Refusal :=
  s.putF g sd (fMin s.tctl (s.rdS sa) (s.rdS sb), 0)
/-- FMAX (R118): no rounding and no flag. -/
def execFmax (g : Guard) (sd sa sb : Nat) (s : State) : Host.Outcome State Fault Refusal :=
  s.putF g sd (fMax s.tctl (s.rdS sa) (s.rdS sb), 0)
/-- FCMP (R119): no flag. -/
def execFcmp (g : Guard) (cc : FCond) (qd sa sb : Nat) (s : State) : Host.Outcome State Fault Refusal :=
  s.putQ g qd (fCmp s.tctl cc (s.rdS sa) (s.rdS sb)) 4
/-- FCVT (R120). -/
def execFcvt (g : Guard) (dst src : ET) (sd sa : Nat) (s : State) : Host.Outcome State Fault Refusal :=
  s.putF g sd (fCvt s.tctl dst src (s.rdS sa))
/-- QOP (R121). -/
def execQop (g : Guard) (qd qa qb t : Nat) (s : State) : Host.Outcome State Fault Refusal :=
  s.putQ g qd (qopVal t (s.rdQ qa) (s.rdQ qb)) 1
/-- QMOV (R121). -/
def execQmov (g : Guard) (qd sa : Nat) (s : State) : Host.Outcome State Fault Refusal :=
  s.putQ g qd (s.rdS sa != 0) 1
/-- MOVQ (R121): q0 to q15 in the low bits. -/
def execMovq (g : Guard) (sd : Nat) (s : State) : Host.Outcome State Fault Refusal :=
  s.putS g sd (wordN ((List.range 16).foldl (fun acc i => acc + bit (s.rdQ i) * 2 ^ i) 0)) 1

end Sys2Proof.Machine
end

