-- ==== Sys2Proof/Machine/Control.lean ====
section
/-! DEFINITION. The meanings of the control operations of S0 and S1: branches, the loop unit, yields, END, traps (R122 to R135,
R229 to R233). -/

namespace Sys2Proof.Machine

/-- A branch (R33, R34): two delay bundles, taken or not, then the target of a taken one. -/
def State.branch (s : State) (taken : Bool) (r : Redirect) : State :=
  { s with cur := { s.cur with delay := 2, redirect := if taken then r else .none } }

/-- BR (R123). -/
def execBr (g : Guard) (off : Int) (s : State) : Host.Outcome State Fault Refusal :=
  (s.branch (s.guardOn g) (.jump (s.ctx.pos + off))).ran
/-- CALL (R123): s63 takes the position after the second delay bundle. -/
def execCall (g : Guard) (off : Int) (s : State) : Host.Outcome State Fault Refusal :=
  let s1 := if s.guardOn g then s.emitS 63 (wordN (s.after (s.after s.ctx.next))) 1 0 else s
  (s1.branch (s.guardOn g) (.jump (s.ctx.pos + off))).ran
/-- RET (R123). -/
def execRet (g : Guard) (s : State) : Host.Outcome State Fault Refusal :=
  (s.branch (s.guardOn g) (.jump (s.rdS 63).toNat)).ran
/-- JR (R123). -/
def execJr (g : Guard) (sa : Nat) (s : State) : Host.Outcome State Fault Refusal :=
  (s.branch (s.guardOn g) (.jump (s.rdS sa).toNat)).ran

/-- LOOP (R126 to R129). One that issues outside the pinned bodies of a nest kept over a switch starts the outermost loop of a new nest
(R127). Beside a zero-trip outermost LOOP, an SWR of LIX in S1 gives LIX its value (log entry 64). -/
def execLoop (sa n level stages margin : Nat) (rs : Bool) (s : State) : Host.Outcome State Fault Refusal :=
  let c := (s.rdS sa).toNat % 2 ^ 32
  let inner := s.cur.inner s.ctx.pos
  let b := match inner with
    | none => (s.arch fun a => { a with loops := [] }).bodyFrom s.ctx.next n
    | some l => (((l.body.drop (l.index s.ctx.pos + 1)).take n), l.after)
  let outer := inner.isNone
  let i0 := if rs && outer then s.cur.arch.lix.toNat else 0
  if c ≤ i0 then
    let s1 := if outer then s.emit (.lix (BitVec.ofNat 32 c)) 1 0 else s
    let r : Redirect := if outer then .jump b.2 else .skip (b.1.getLast?.getD s.ctx.pos)
    { s1 with cur := { s1.cur with redirect := r } }.ran
  else
    let s1 := if outer then { s with cur := { s.cur with pins := s.pin b.1 } } else s
    let s2 := s1.arch fun a => { a with loops := (if outer then [] else a.loops) ++ [⟨b.1, b.2, level, c, i0, c, i0, stages, margin⟩] }
    { s2 with cur := { s2.cur with redirect := .enter } }.ran
/-- LBRK (R134). -/
def execLbrk (g : Guard) (s : State) : Host.Outcome State Fault Refusal := (s.branch (s.guardOn g) .leave).ran
/-- ROT (R133). -/
def execRot (g : Guard) (s : State) : Host.Outcome State Fault Refusal := s.under g (s.emit .rot 1 0).ran

/-- The checks of R230. -/
def State.yldFault (s : State) (n : Nat) : Option Raise :=
  match s.carryMeet n, s.yldFrame n with
  | some m, _ => some (s.raise m.cause m.words)
  | none, some ws => some (s.raise 3 ws)
  | none, none =>
    let r := (s.carryRec n).getD []
    match s.winFault (recF r 16 4) (recF r 20 4) with
    | some x => some x
    | none =>
      let occ := (List.range 8).map fun i => (s.cur.arch.queue i).occ
      if occ.all (· == 0) then none
      else some (s.raise 7 [(List.range 8).foldl (fun m i => if occ.getD i 0 = 0 then m else m + 2 ^ i) 0, occ.foldl (· + ·) 0, 0, 0])

/-- What a checkpoint or yield bundle waits for before it issues. -/
inductive Prep
  | done (s : State)
  | wait (s : State)
  | bad (s : State) (r : Raise)
/-- The waits, releases and checkpoint of R252, with the drain of R231 at a yield bundle. -/
def State.prep (s : State) (yield : Bool) : Prep :=
  if !s.cur.quiet s.clk then .wait s
  else
    match { s with cur := s.cur.landAll }.release with
    | (s1, some r) => .bad s1 r
    | (s1, none) =>
      if yield && (s1.copiesOf s1.cur.id).any (fun c => c.st != .done) then .wait s1
      else
        let s2 := if yield then
            (s1.join s1.unjoined).arch fun a =>
              { a with k := a.k.map fun kv => (kv.1, ⟨if kv.2.st = .pending then .done else kv.2.st, [], 0⟩) }
          else s1
        .done (s2.checkpoint s2.ctx.pos)

/-- What a yield switch does not carry holds undefined values from now on (R231, log entry 1). The carried groups are named under
the rotation count `rho` of the bundle's issue (R133). -/
def Task.spoil (t : Task) (rho tag groups tiles off len : Nat) : Task :=
  let f := t.hdr.frame
  let v := ((List.range f).filter fun i => !groups.testBit (i / 8)).foldl
    (fun m i => Store.put (vSlot f rho i) (Config.freeBits 1024 tag i) m) t.arch.v
  let ts := ((List.range 8).filter fun i => t.hdr.tiles.testBit i && !tiles.testBit i).foldl
    (fun m i => Store.put i ((List.range 16384).map fun j => Config.freeBits 32 (tag + 1) (16384 * i + j)) m) t.arch.tiles
  { t with arch := { t.arch with v := v, tiles := ts }, redirect := .none, delay := 0
           win := (t.win.spoil 0 (if len = 0 then t.hdr.window else off) (tag + 2)).spoil (if len = 0 then t.hdr.window else off + len) t.hdr.window (tag + 2) }
/-- The bytes of the carry image of a yield switch (R261). -/
def carryBytes (groups tiles len : Nat) : Nat := 1024 * countBits groups 64 + 65536 * countBits tiles 8 + len + 4096

/-- Step 4 of R231: the switch, where a yield is pending or a stop is requested and no outstanding copy targets the task (R202). What the
bundle's other slots have set on its way lands, and the array operation of its M slot ends. The loop that a LOOP of the bundle started is kept, at its
first pass (R128, R135). -/
def State.yieldPoint (s : State) (n : Nat) (target : Int) : State :=
  let s := { s with cur := { s.cur with arch := { s.cur.arch with bgs := 0 } } }
  if !(s.cur.yieldPending || s.cur.stop) || s.targeted s.cur.id then s
  else
    let r := (s.carryRec n).getD []
    let t := s.cur.landAll.finishArray.spoil s.cur.arch.rho s.free (recF r 0 8) (recF r 8 1) (recF r 16 4) (recF r 20 4)
    let t := if s.cur.redirect = .enter then t.firstPass else t
    { s with cur := t, free := s.free + 3 }.park (t.reasons + (if t.yieldPending then 0 else 32)) target n (carryBytes (recF r 0 8) (recF r 8 1) (recF r 20 4)) (countBits (recF r 8 1) 8) false
/-- YLD (R230, R231); in a bundle whose checkpoint is taken, the checks have been made. -/
def execYld (carry : Nat) (off : Int) (s : State) : Host.Outcome State Fault Refusal :=
  if s.ctx.ckpt then (s.yieldPoint carry (s.ctx.pos + off)).ran
  else
    match s.yldFault carry with
    | some r => s.raised r
    | none =>
      match s.prep true with
      | .done s1 => (s1.yieldPoint carry (s.ctx.pos + off)).ran
      | .wait s1 => s1.hold
      | .bad s1 r => s1.raised r

/-- The waits of END (R232): the task ends once they are over, and issues nothing before. A store that meets an error on its way into the
global order is a fault, and END has no further effect. -/
def State.tryEnd (s : State) : State :=
  if s.cur.quiet s.clk && (s.copiesOf s.cur.id).all (fun c => c.st == .done) then
    let s1 := s.drainAll s.cur.id
    match s1.cur.met with
    | some r => s1.takeRaise r
    | none => s1.endDone
  else { s with cur := { s.cur with delay := 0, redirect := .finish } }
/-- END (R232). -/
def execEndTask (g : Guard) (s : State) : Host.Outcome State Fault Refusal :=
  s.under g (match s.release with
    | (s1, some r) => s1.raised r
    | (s1, none) => s1.tryEnd.ran)
/-- TRAP (R233). -/
def execTrap (g : Guard) (code : Nat) (s : State) : Host.Outcome State Fault Refusal :=
  s.under g (s.raised (s.raise 0x15 [code, 0, 0, 0]))
/-- RETC (R233, R387). -/
def execRetc (s : State) : Host.Outcome State Fault Refusal :=
  if s.cur.handler then
    { s with cur := { s.cur with handler := false, delay := 0, redirect := .back } }.ran
  else s.raised (s.raise 0x14 [2, 0, 0, s.slotNo])

end Sys2Proof.Machine
end

