-- ==== Sys2Proof/Machine/System.lean ====
section
/-! DEFINITION. The meanings of the budget, counter, register, launch, queue, tensor and sequence operations of S1 (R57 to R61,
R234 to R243, R305, R306). -/

namespace Sys2Proof.Machine

/-- The largest value of a budget (R234). -/
def topBudget : Int := 2 ^ 47 - 1
/-- Exhaustion latches whenever a budget is at or below zero (R234). -/
def Arch.latch (a : Arch) : Arch := { a with exhausted := a.exhausted || decide (a.bgi ≤ 0) || decide (a.bgt ≤ 0) }

/-- BGRD (R111, R234): the budgets before the charge of the bundle. -/
def execBgrd (g : Guard) (sd : Nat) (which : BgSel) (s : State) : Host.Outcome State Fault Refusal :=
  let v := match which with | .bgi => word s.ctx.bgi | .bgt => word s.ctx.bgt | .bgs => wordN s.ctx.bgs | .span => wordN s.cur.hdr.span
  s.putS g sd v 1
/-- BGTOP (R234). -/
def execBgtop (g : Guard) (sa sb : Nat) (s : State) : Host.Outcome State Fault Refusal :=
  s.under g <|
    let x := (s.rdS sa).toNat
    let y := (s.rdS sb).toNat
    if !s.cur.hdr.topup then s.raised (s.raise 0x16 [x, y, 0, 0])
    else
      (s.arch fun a =>
        let i := min (a.bgi + x) topBudget
        let t := min (a.bgt + y) topBudget
        { a with bgi := i, bgt := t, exhausted := if 0 < i ∧ 0 < t then a.exhausted && a.clip else true }).ran
/-- BGGIVE (R234, R305). -/
def execBggive (g : Guard) (sa sb : Nat) (bgt : Bool) (s : State) : Host.Outcome State Fault Refusal :=
  s.under g <|
    let off := (s.rdS sa).toNat
    let field := off + if bgt then 16 else 8
    match s.winFault off 256 with
    | some r => s.raised r
    | none =>
      match s.logFault (linesOf field 8) with
      | some r => s.raised r
      | none =>
        let f := min (s.spadNat field 8) (2 ^ 47 - 1)
        let b := if bgt then s.cur.arch.bgt else s.cur.arch.bgi
        let m := min (min (s.rdS sb).toNat (max b 0).toNat) (2 ^ 47 - 1 - f)
        let s1 := s.store field (leBytes (f + m) 8)
        (s1.arch fun a => (if bgt then { a with bgt := a.bgt - m, gt := a.gt + m } else { a with bgi := a.bgi - m, gi := a.gi + m }).latch).ran
/-- ESTM (R234). -/
def execEstm (g : Guard) (sa : Nat) (s : State) : Host.Outcome State Fault Refusal :=
  s.under g { s with cur := { s.cur with est := min (s.rdS sa).toNat (2 ^ 32 - 1), estAt := s.time } }.ran

/-- A CYC counter of the task's stack (R57, R376). -/
def State.cycle (s : State) (l : Layer) : Nat := ((s.stackOf s.stackNo).layer l).cyc
/-- TIME (R235). -/
def execTime (g : Guard) (sd : Nat) (s : State) : Host.Outcome State Fault Refusal := s.putS g sd (wordN s.time) 1
/-- CYC (R235). -/
def execCyc (g : Guard) (sd : Nat) (layer : Layer) (s : State) : Host.Outcome State Fault Refusal := s.putS g sd (wordN (s.cycle layer)) 1

/-- A system register as SRD reads it (R57 to R60). -/
def State.sysReg (s : State) (idx : Nat) : Word :=
  let k := s.stackOf s.stackNo
  match idx with
  | 0x000 => wordN s.tctl.toNat
  | 0x001 => wordN s.rdTstat.toNat
  | 0x002 => wordN s.cur.arch.lix.toNat
  | 0x003 => wordN s.cur.arch.trapRec.toNat
  | 0x008 => wordN s.time
  | 0x010 => wordN (s.cycle .m)
  | 0x011 => wordN (s.cycle .c)
  | 0x012 => wordN (s.cycle .k0)
  | 0x013 => wordN (s.cycle .k1)
  | 0x018 => wordN (s.cur.id % 2 ^ 32)
  | 0x019 => wordN (s.cur.queue % 65536)
  | 0x01A => wordN s.cur.seq
  | 0x01B => wordN s.core
  | 0x030 => wordN k.slice
  | 0x031 => wordN k.waitth
  | 0x032 => wordN k.lease
  | 0x033 => wordN k.drainMax
  | 0x034 => wordN k.killTokens
  | 0x040 => wordN k.costSpill
  | 0x041 => wordN k.costFetch
  | 0x042 => wordN k.costPack
  | 0x043 => wordN k.costDecomp
  | 0x044 => wordN k.costDrop
  | 0x045 => wordN k.wnext
  | 0x046 => wordN k.depth
  | _ => 0
/-- A per-stack register written (R57). -/
def Stack.writeReg (k : Stack) (idx x : Nat) : Stack :=
  match idx with
  | 0x030 => if x % 2 ^ 48 = 0 then k else { k with slice := x % 2 ^ 48 }
  | 0x031 => if x % 2 ^ 32 = 0 then k else { k with waitth := x % 2 ^ 32 }
  | 0x032 => { k with lease := x % 2 ^ 32 }
  | 0x033 => { k with drainMax := x % 2 ^ 32 }
  | 0x034 => { k with killTokens := x % 256 }
  | 0x040 => { k with costSpill := x % 2 ^ 32 }
  | 0x041 => { k with costFetch := x % 2 ^ 32 }
  | 0x042 => { k with costPack := x % 2 ^ 32 }
  | 0x043 => { k with costDecomp := x % 2 ^ 32 }
  | 0x044 => { k with costDrop := x % 2 ^ 32 }
  | 0x045 => { k with wnext := x % 2 ^ 32 }
  | 0x046 => if 1 ≤ x ∧ x ≤ 4 then { k with depth := x } else k
  | _ => k
/-- A system register written (R57 to R60): it lands in the next clock. -/
def State.writeSys (s : State) (idx : Nat) (v : Word) : State :=
  match idx with
  | 0x000 => s.emit (.tctl (v.setWidth 8)) 1 0
  | 0x001 => s.emit (.tstat (v.setWidth 5)) 1 0
  | 0x002 => s.emit (.lix (v.setWidth 32)) 1 0
  | 0x003 => s.emit (.trapRec (BitVec.ofNat 32 (v.toNat / 64 * 64))) 1 0
  | _ => { s with landing := s.landing ++ [⟨s.stackNo, idx, v.toNat⟩] }
/-- SRD (R235). -/
def execSrd (g : Guard) (sd idx : Nat) (s : State) : Host.Outcome State Fault Refusal := s.putS g sd (s.sysReg idx) 1
/-- SWR (R57, R235). -/
def execSwr (g : Guard) (sa idx : Nat) (s : State) : Host.Outcome State Fault Refusal :=
  s.under g (if 0x030 ≤ idx ∧ !s.cur.hdr.sys then s.raised (s.raise 0x14 [1, idx, 0, s.slotNo]) else (s.writeSys idx (s.rdS sa)).ran)

/-- The held copy-out queue has no place left (R208, R236). -/
def State.placeFault (s : State) : Option Raise :=
  if s.cur.heldq.length < 64 then none else some (s.raise 9 [2, s.cur.heldq.length, 64, s.slotNo])
/-- A held command takes its place (R236). -/
def State.keep (s : State) (k : HeldKind) : State := { s with cur := { s.cur with heldq := s.cur.heldq ++ [⟨k, s.ctx.pos⟩] } }

/-- The first rule of R237 that the record of a LNCH breaks. -/
def State.lnchFault (s : State) (l : List Byte) : Option Nat :=
  match s.launchFault l with
  | some o => some o
  | none =>
    let i := recF l 8 8
    let t := recF l 16 8
    if i = 0 then some 8 else if t = 0 then some 16
    else if s.cur.hdr.topup then none
    else if s.cur.arch.gi < i then some 8 else if s.cur.arch.gt < t then some 16 else none
/-- The scalar and predicate results of a held system command. -/
def State.answer (s : State) (sd qs : Nat) (v : Word) (ok : Bool) (bound : Nat) : State := (s.emitS sd v bound 0).emitQ qs ok bound
/-- A launch id (R306). -/
def launchId (die entry gen : Nat) : Nat := entry + die * 2 ^ 14 + gen * 2 ^ 16
/-- LNCH (R237, R305, R306, R362). -/
def execLnch (g : Guard) (sd qs sa : Nat) (s : State) : Host.Outcome State Fault Refusal :=
  s.under g <|
    let off := (s.rdS sa).toNat
    match s.winFault off 256 with
    | some r => s.raised r
    | none =>
      let l := s.spad off 256
      match s.lnchFault l with
      | some o => s.raised (s.raise 0x0D [off, 12, o, s.slotNo])
      | none =>
        match s.placeFault with
        | some r => s.raised r
        | none =>
          let die := s.stackNo
          if recDepth l < s.cur.level + 1 then ((s.keep .nothing).answer sd qs 2 false 8).ran
          else
            match s.pick ((List.range 4096).filter fun e => (s.poolOf (die * 4096 + e)).st == .free) with
            | none => ((s.keep .nothing).answer sd qs 1 false 8).ran
            | some e =>
              let p := s.poolOf (die * 4096 + e)
              let s1 := (s.used.setPool (die * 4096 + e) { p with st := .reserved, launcher := s.cur.id, record := l }).keep (.lnch die e)
              let s2 := s1.arch fun a => { a with gi := a.gi - recF l 8 8, gt := a.gt - recF l 16 8 }
              (s2.answer sd qs (wordN (launchId die e p.gen)) true 8).ran

/-- The pool entry that a launch id names; none for an unknown one (R306). -/
def State.launchOf (s : State) (id : Nat) : Option Nat :=
  let n := fld id 14 2 * 4096 + fld id 0 12
  let p := s.poolOf n
  if fld id 12 2 = 0 ∧ fld id 48 16 = 0 ∧ fld id 16 32 = p.gen ∧ p.st ≠ .free ∧ !p.joined then some n else none
/-- LJOIN (R238, R308). -/
def execLjoin (g : Guard) (qs sa : Nat) (s : State) : Host.Outcome State Fault Refusal :=
  s.under g <|
    match s.launchOf (s.rdS sa).toNat with
    | none => (s.emitQ qs false 1).ran
    | some n =>
      let p := s.poolOf n
      match p.st with
      | .free => (s.emitQ qs false 1).ran
      | .reserved => s.raised (s.raise 9 [4, s.cur.heldq.length, 64, 1])
      | .live => s.hold
      | .ended =>
        let s1 := (s.setPool n { p with joined := true }).sweepPool n
        let s2 := if p.ok then s1.arch fun a =>
          { a with bgi := min (a.bgi + p.unusedI) topBudget, bgt := min (a.bgt + p.unusedT) topBudget } else s1
        (s2.emitQ qs p.ok 1).ran

/-- ENQ (R239). -/
def execEnq (g : Guard) (qs sa sb : Nat) (s : State) : Host.Outcome State Fault Refusal :=
  s.under g <|
    let off := (s.rdS sa).toNat
    let qn := (s.rdS sb).toNat
    match s.winFault off 128 with
    | some r => s.raised r
    | none =>
      match s.placeFault with
      | some r => s.raised r
      | none =>
        let q := s.queueOf qn
        let ok := decide (qn < 256) && q.st == .opened && q.owner == s.cur.owner && !q.full
        let s1 := if ok then (s.setQueue qn { q with resv := q.resv + 1 }).keep (.enq qn (s.spad off 128)) else s.keep .nothing
        (s1.emitQ qs ok 8).ran
/-- DDEC (R239). -/
def execDdec (g : Guard) (sa : Nat) (s : State) : Host.Outcome State Fault Refusal :=
  s.under g <|
    match s.placeFault with
    | some r => s.raised r
    | none => (s.keep (.ddec (s.rdS sa).toNat)).ran
/-- What a HINT does to the cellar (R242): code 1 fetches the lines of a range, code 2 writes its dirty lines back. -/
def State.hint (s : State) (code : Nat) (h : Hold) : State :=
  match s.tensor h.id with
  | none => s
  | some t =>
    let ls := t.linesOf (t.byteRange h).1 (t.byteRange h).2
    if code = 1 then ls.foldl (fun s l => s.fillLine (homeOf h.id) l.1 l.2 false) s
    else if code = 2 then s.onLines (homeOf h.id) ls fun l => some { l with dirty := false }
    else s
/-- HINT (R242): it changes only timing, by what the cellar holds. -/
def execHint (g : Guard) (sa code : Nat) (s : State) : Host.Outcome State Fault Refusal :=
  s.under g ((match s.handleOf (fld (s.rdS sa).toNat 0 4) with | some b => s.hint code b.hold | none => s).ran)

/-- SEQF (R243, R340). -/
def execSeqf (g : Guard) (sd qs sa : Nat) (s : State) : Host.Outcome State Fault Refusal :=
  s.under g <|
    if !s.cur.hdr.seq then s.raised (s.raise 0x14 [3, 0, 0, s.slotNo])
    else
      match s.placeFault with
      | some r => s.raised r
      | none =>
        let parent := (s.rdS sa).toNat
        let made := match Store.look s.seqs parent with
          | some r => if s.forkable r then s.seqReserve .reserved r.owner parent else none
          | none => none
        match made with
        | none => ((s.keep .nothing).answer sd qs 0 false 32).ran
        | some (id, s1) => ((s1.keep (.seqf parent id)).answer sd qs (wordN id) true 32).ran
/-- SEQE (R243). -/
def execSeqe (g : Guard) (sa : Nat) (s : State) : Host.Outcome State Fault Refusal :=
  s.under g <|
    if !s.cur.hdr.seq then s.raised (s.raise 0x14 [3, 0, 0, s.slotNo])
    else
      match s.placeFault with
      | some r => s.raised r
      | none => (s.keep (.seqe (s.rdS sa).toNat)).ran

/-- The specification of R240, and whether it is well formed. A used dimension of extent 0 makes it malformed (log entry 86); what its reserved
bytes hold does not matter (R9). -/
def specOk (r : List Byte) : Bool :=
  let rank := recF r 5 1
  let ext := fun i => recF r (8 + 4 * i) 4
  fmtOk (recF r 4 1) && decide (1 ≤ rank) && decide (rank ≤ 6) && decide (1 ≤ recF r 6 1) && decide (recF r 6 1 ≤ 3)
    && (List.range 6).all (fun i => if i < rank then ext i != 0 else ext i == 0) && decide (ext 0 ≤ recF r 32 4)
    && fld (recF r 0 4) 29 1 == 0
/-- The id of the tensor: the one given, or one that the device chooses on the task's stack (R240). -/
def State.specId (s : State) (r : List Byte) : Nat :=
  if recF r 0 4 ≠ 0 then recF r 0 4
  else (Store.fresh s.tensors (s.stackNo * 2 ^ 30 + 1 + Config.choice s.free 1 % 2 ^ 28) (s.tensors.length + 1)).getD 0
/-- The key slot of the task's sequence; none where the sequence is not live. -/
def State.seqKey (s : State) (seq : Nat) : Option Nat :=
  if seq = 0 then some 0 else match Store.look s.seqs seq with | some r => if r.st = .live then some r.slot else none | none => none
/-- Room for so many bytes more on the home stack of a tensor and so many page entries, made as R316 has it (R241); none where it cannot be. -/
def State.roomAt (s : State) (id bytes entries : Nat) : Option State :=
  if s.entriesLeft (homeOf id) < entries then none else s.roomToHold (homeOf id) bytes
/-- HBM bytes of the pages of a tensor of n bytes. -/
def wholePages (n : Nat) : Nat := (n + 65535) / 65536 * 65536
/-- The tensor that TDEF would create; none where its conditions fail (R241). -/
def State.tdefTensor (s : State) (h : Nat) (r : List Byte) : Option Tensor :=
  let id := s.specId r
  match s.seqKey s.cur.seq with
  | none => none
  | some slot =>
    let t := { Tensor.make id (recF r 4 1) ((List.range (recF r 5 1)).map fun i => recF r (8 + 4 * i) 4) s.cur.seq slot with
               cap0 := recF r 32 4, tdef := true, holds := 1 }
    if specOk r && (s.handleOf h).isNone && (Store.look s.tensors id).isNone && decide (s.homed (homeOf id) < 2 ^ 18)
        && (s.roomAt id (wholePages t.size) (wholePages t.size / 65536)).isSome then some t else none
/-- TDEF (R240, R241). -/
def execTdef (g : Guard) (h qs sa : Nat) (s : State) : Host.Outcome State Fault Refusal :=
  s.under g <|
    let off := (s.rdS sa).toNat
    match s.winFault off 64 with
    | some r => s.raised r
    | none =>
      let r := s.spad off 64
      match s.tdefTensor h r with
      | none => (s.emitQ qs false 16).ran
      | some t =>
        let hold : Hold := ⟨t.id, 0, t.units, recF r 6 1⟩
        let s1 := ((s.roomAt t.id (wholePages t.size) (wholePages t.size / 65536)).getD s).used
        let s2 := ((s1.setTensor t).preparePages hold).arch fun a => { a with made := Store.put t.id t.e0 a.made }
        (s2.emit (.handle h (some ⟨hold, true⟩)) 16 0 |>.emitQ qs true 16).ran
/-- TGROW (R241). -/
def execTgrow (g : Guard) (h qs sa : Nat) (s : State) : Host.Outcome State Fault Refusal :=
  s.under g <|
    let n := (s.rdS sa).toNat
    match s.handleOf h with
    | none => (s.emitQ qs false 16).ran
    | some b =>
      match s.tensor b.hold.id with
      | none => (s.emitQ qs false 16).ran
      | some t =>
        let size := fmtSize t.fmt (n * t.rest)
        let more := wholePages size - wholePages t.size
        let made := b.own && (s.cur.arch.made.any fun kv => kv.1 == t.id)
        match (if made ∧ 2 ≤ b.hold.mode ∧ t.e0 ≤ n ∧ n ≤ t.cap0 then s.roomAt t.id more (more / 65536) else none) with
        | none => (s.emitQ qs false 16).ran
        | some s1 =>
          let hold := { b.hold with first := 0, count := unitsOf t.fmt (n * t.rest) }
          let zero := fun (s : State) p => match s.page (t.entry p) with
            | some _ => { s with mem := Memory.clear s.mem (pageAddr (t.entry p) (t.size - p * t.pageBytes)) (pageAddr (t.entry p) 65536) }
            | none => s
          let s2 := ((t.pagesOf t.size (size - t.size)).foldl zero s1).setTensor { t with e0 := n, size := size }
          let s3 := (s2.preparePages hold).arch fun a => { a with made := Store.put t.id n a.made }
          ((s3.emit (.handle h (some ⟨hold, true⟩)) 16 0).emitQ qs true 16).ran
/-- TFREE (R241). -/
def execTfree (g : Guard) (h : Nat) (s : State) : Host.Outcome State Fault Refusal :=
  s.under g <|
    match s.handleOf h with
    | none => s.ran
    | some b =>
      match s.placeFault with
      | some r => s.raised r
      | none =>
        let made := b.own && (s.cur.arch.made.any fun kv => kv.1 == b.hold.id)
        let s1 := s.arch fun a => { a with made := if made then Store.del b.hold.id a.made else a.made }
        ((s1.keep (if made then .tfree b.hold.id else .nothing)).emit (.handle h none) 1 0).ran

end Sys2Proof.Machine
end

