-- ==== Sys2Proof/Machine/Matrix.lean ====
section
/-! DEFINITION. The meanings of the operations of the M slot (R169 to R192). -/

namespace Sys2Proof.Machine

/-- A checked operation of the MMA family enters the array (R169, R178). -/
def State.runMma (s : State) (zero : Bool) (ta da db kb : Nat) : State :=
  let a := (Store.get none s.cur.arch.od da).getD 0
  let b := (Store.get none s.cur.arch.od db).getD 0
  let idx := if odMode a = 2 then s.indexList a else []
  s.pushArray (.mma zero da db kb (Store.get none s.cur.arch.nest da) a b idx) ta (kb * odQ b * (if 8 < odQ a then 2 else 1))
/-- The mould of R182: a busy tile stalls, the checks of R177, then the array. -/
def State.mmaOp (s : State) (mode : Nat) (zero : Bool) (ta da db kb : Nat) : Host.Outcome State Fault Refusal :=
  if s.cur.busy ta then s.hold
  else match s.mmaCheck mode da db kb with
    | some r => s.raised r
    | none => (s.runMma zero ta da db kb).ran
/-- MMA (R182, R183). -/
def execMma (ta da db kb : Nat) (s : State) : Host.Outcome State Fault Refusal := s.mmaOp 0 false ta da db kb
/-- MMAZ (R182, R183): from a tile of zeros. -/
def execMmaz (ta da db kb : Nat) (s : State) : Host.Outcome State Fault Refusal := s.mmaOp 0 true ta da db kb
/-- MMAW (R175, R182): A by window replay. -/
def execMmaw (ta da db kb : Nat) (s : State) : Host.Outcome State Fault Refusal := s.mmaOp 1 false ta da db kb
/-- MMAG (R176, R182): A by gather. -/
def execMmag (ta da db kb : Nat) (s : State) : Host.Outcome State Fault Refusal := s.mmaOp 2 false ta da db kb

/-- The offset of the drain's bias vector; none for an invalid descriptor (R177, R186). -/
def State.drainOff (s : State) (d : Nat) : Option Nat :=
  match Store.get none s.cur.arch.od d with
  | some x => if odKind x = 3 then some (odBase x) else none
  | none => none
/-- The checks of a drain (R177): its descriptor, the offset vector, the room of R191. -/
def State.drainCheck (s : State) (rq : Nat) (fmt : DrainFmt) (off : Option Nat) : Option Raise :=
  let q := s.cur.arch.queue rq
  let n := drainBytes fmt
  let room := if q.occ + q.retained + n ≤ q.cap then none else some (s.raise 5 [1, rq, n, q.cap - q.occ - q.retained])
  match off with
  | none => room
  | some d =>
    match s.drainOff d with
    | none => some (s.raise 0x0D [d, if (Store.get none s.cur.arch.od d).isNone then 1 else 2, 0, 0])
    | some b => match s.winFault b 512 with
      | some r => some r
      | none => room
/-- MDRN (R185 to R189). -/
def execMdrn (ta rq : Nat) (fmt : DrainFmt) (relu : Bool) (shift : Option Int) (off : Option Nat) (s : State) :
    Host.Outcome State Fault Refusal :=
  if s.cur.busy ta then s.hold
  else match s.drainCheck rq fmt off with
    | some r => s.raised r
    | none =>
      let s1 := s.pushArray (.drain rq fmt relu shift (off.bind s.drainOff)) ta 32
      (s1.arch fun a => a.setQueue rq { a.queue rq with promised := (a.queue rq).promised + drainBytes fmt }).ran
/-- MZERO (R184). -/
def execMzero (ta : Nat) (s : State) : Host.Outcome State Fault Refusal :=
  if s.cur.busy ta then s.hold else (s.pushArray .zero ta 1).ran
/-- MWAIT (R184). -/
def execMwait (ta : Nat) (s : State) : Host.Outcome State Fault Refusal := if s.cur.busy ta then s.hold else s.ran

/-- 64 bytes of the window as a descriptor. -/
def State.spadDesc (s : State) (a : Nat) : BitVec 512 := BitVec.ofNat 512 (s.spadNat a 64)
/-- MDLD (R181): kind 0 makes the descriptor invalid (R171). -/
def execMdld (da off : Nat) (s : State) : Host.Outcome State Fault Refusal :=
  match s.winFault (64 * off) 64 with
  | some r => s.raised r
  | none =>
    let d := s.spadDesc (64 * off)
    match odFault d with
    | some b => s.raised (s.raise 0x0D [da, 6, b, 0])
    | none => (s.emit (.od da (if odKind d = 0 then none else some d)) 1 0).ran
/-- MNEST (R174, R181). -/
def execMnest (da off : Nat) (s : State) : Host.Outcome State Fault Refusal :=
  match s.winFault (64 * off) 64 with
  | some r => s.raised r
  | none =>
    let d := s.spadDesc (64 * off)
    match nestFault d with
    | some b => s.raised (s.raise 0x0D [da, 6, b, 0])
    | none => (s.emit (.nest da d) 1 0).ran
/-- MQSET (R190). -/
def execMqset (rq size : Nat) (s : State) : Host.Outcome State Fault Refusal :=
  let q := s.cur.arch.queue rq
  let held := q.occ + q.retained
  let others := (List.range 8).foldl (fun acc i => if i = rq then acc else acc + (s.cur.arch.queue i).cap) 0
  if held ≠ 0 then s.raised (s.raise 5 [3, rq, 4096 * size, q.cap - held])
  else if s.cur.hdr.allot < others + 4096 * size then s.raised (s.raise 5 [2, rq, 4096 * size, s.cur.hdr.allot - others])
  else (s.emit (.qcap rq (4096 * size)) 1 0).ran

end Sys2Proof.Machine
end

