-- ==== Sys2Proof/Machine/Riscv.lean ====
section
/-! DEFINITION. The scalar instructions of a transform core (R216): RV64IMC, as the RISC-V manual gives it (log entry 91). -/

namespace Sys2Proof.Machine

/-- What an instruction of a transform core comes to: the core goes on, it calls its environment, it holds no instruction of the set, or it
reaches outside its buffers. -/
inductive RvOut
  | next (c : XfCore)
  | call (c : XfCore)
  | illegal
  | reach
  deriving DecidableEq, Repr

/-- Register x0 reads as 0 and discards what is written. -/
def XfCore.reg (c : XfCore) (r : Nat) : Word := if r = 0 then 0 else Store.get 0 c.x r
def XfCore.setReg (c : XfCore) (r : Nat) (v : Word) : XfCore := if r = 0 then c else { c with x := Store.set 0 c.x r v }

/-- Where the four stream buffers, the chain buffer and the instruction memory begin in the address space of a transform core, and their
sizes: R216 gives the sizes; the addresses, multiples of 64, are one fixed choice of the device (log entry 91). -/
def xfBase (k : Nat) : Nat := Config.choice k 6 % 2 ^ 58 * 64
def xfSpan (k : Nat) : Nat := if k < 4 then 32768 else if k = 4 then 262144 else 65536
/-- The buffer that holds an address, and the place in it; none lies outside the buffers. -/
def xfPlace (a : Nat) : Option (Nat × Nat) :=
  (List.range 5).findSome? fun k => if xfBase k ≤ a % 2 ^ 64 ∧ a % 2 ^ 64 < xfBase k + xfSpan k then some (k, a % 2 ^ 64 - xfBase k) else none
def XfCore.buffer (c : XfCore) (k : Nat) : List Byte := if k = 4 then c.chain else c.stream.getD k []
/-- A buffer with bytes put in at a place; what was never filled holds 0. -/
def putBytes (l : List Byte) (off : Nat) (bs : List Byte) : List Byte :=
  let l := l ++ List.replicate (off + bs.length - l.length) 0
  l.take off ++ bs ++ l.drop (off + bs.length)
def XfCore.setBuffer (c : XfCore) (k off : Nat) (bs : List Byte) : XfCore :=
  if k = 4 then { c with chain := putBytes c.chain off bs } else { c with stream := c.stream.set k (putBytes (c.stream.getD k []) off bs) }
/-- The bytes of an access, and a core in which they are stored; none where one lies outside the buffers. -/
def XfCore.load (c : XfCore) (a n : Nat) : Option Nat :=
  ((List.range n).mapM fun i => (xfPlace (a + i)).map fun (p : Nat × Nat) => (c.buffer p.1).getD p.2 0).map leNat
def XfCore.store (c : XfCore) (a n x : Nat) : Option XfCore :=
  (leBytes x n).zipIdx.foldlM (fun (t : XfCore) (b : Byte × Nat) => (xfPlace (a + b.2)).map fun (p : Nat × Nat) => t.setBuffer p.1 p.2 [b.1]) c

/-- The immediates of the formats I, S, B, U and J. -/
def rvI (w : Nat) : Int := sfld w 20 12
def rvS (w : Nat) : Int := sfld (fld w 25 7 * 32 + fld w 7 5) 0 12
def rvB (w : Nat) : Int := sfld (fld w 31 1 * 4096 + fld w 7 1 * 2048 + fld w 25 6 * 32 + fld w 8 4 * 2) 0 13
def rvU (w : Nat) : Int := sfld (fld w 12 20 * 4096) 0 32
def rvJ (w : Nat) : Int := sfld (fld w 31 1 * 2 ^ 20 + fld w 12 8 * 4096 + fld w 20 1 * 2048 + fld w 21 10 * 2) 0 21

/-- Multiplication and division at a width: MUL, MULH, MULHSU, MULHU, DIV, DIVU, REM, REMU by funct3. -/
def rvM (w f3 a b : Nat) : Int :=
  let x := sfld a 0 w
  let y := sfld b 0 w
  match f3 with
  | 0 => x * y
  | 1 => x * y / 2 ^ w
  | 2 => x * b / 2 ^ w
  | 3 => (a * b / 2 ^ w : Nat)
  | 4 => if b = 0 then -1 else Int.tdiv x y
  | 5 => if b = 0 then 2 ^ w - 1 else (a / b : Nat)
  | 6 => if b = 0 then x else Int.tmod x y
  | _ => if b = 0 then a else (a % b : Nat)
/-- The operations of OP and OP-IMM at 64 bits. -/
def rvOp (f7 f3 : Nat) (a b : Word) : Option Word :=
  match f7, f3 with
  | 0, 0 => some (a + b)
  | 0x20, 0 => some (a - b)
  | 0, 1 => some (a <<< (b.toNat % 64))
  | 0, 2 => some (if a.toInt < b.toInt then 1 else 0)
  | 0, 3 => some (if a.toNat < b.toNat then 1 else 0)
  | 0, 4 => some (a ^^^ b)
  | 0, 5 => some (a >>> (b.toNat % 64))
  | 0x20, 5 => some (a.sshiftRight (b.toNat % 64))
  | 0, 6 => some (a ||| b)
  | 0, 7 => some (a &&& b)
  | 1, f => some (BitVec.ofInt 64 (rvM 64 f a.toNat b.toNat))
  | _, _ => none
/-- The low 32 bits of a result, sign-extended. -/
def rvSext (x : Int) : Word := BitVec.ofInt 64 (sfld (x % 2 ^ 32).toNat 0 32)
/-- The operations of OP-32 and OP-IMM-32. -/
def rvOpW (f7 f3 : Nat) (a b : Word) : Option Word :=
  let x : Nat := a.toNat % 2 ^ 32
  let y : Nat := b.toNat % 2 ^ 32
  match f7, f3 with
  | 0, 0 => some (rvSext (x + y : Nat))
  | 0x20, 0 => some (rvSext ((x : Int) - y))
  | 0, 1 => some (rvSext (x * 2 ^ (y % 32) : Nat))
  | 0, 5 => some (rvSext (x / 2 ^ (y % 32) : Nat))
  | 0x20, 5 => some (rvSext (sfld x 0 32 / 2 ^ (y % 32)))
  | 1, f => if f = 0 ∨ 4 ≤ f then some (rvSext (rvM 32 f x y)) else none
  | _, _ => none
/-- The condition of a branch. -/
def rvTakes (f3 : Nat) (a b : Word) : Option Bool :=
  match f3 with
  | 0 => some (a == b) | 1 => some (a != b)
  | 4 => some (decide (a.toInt < b.toInt)) | 5 => some (decide (b.toInt ≤ a.toInt))
  | 6 => some (decide (a.toNat < b.toNat)) | 7 => some (decide (b.toNat ≤ a.toNat))
  | _ => none

/-- The words of the formats I, S, B, J and R, from which a compressed instruction is expanded. -/
def rvMakeI (op f3 rd rs1 : Nat) (imm : Int) : Nat := op + rd * 2 ^ 7 + f3 * 2 ^ 12 + rs1 * 2 ^ 15 + scode imm 12 * 2 ^ 20
def rvMakeR (op f3 f7 rd rs1 rs2 : Nat) : Nat := op + rd * 2 ^ 7 + f3 * 2 ^ 12 + rs1 * 2 ^ 15 + rs2 * 2 ^ 20 + f7 * 2 ^ 25
def rvMakeS (f3 rs1 rs2 imm : Nat) : Nat :=
  0x23 + imm % 32 * 2 ^ 7 + f3 * 2 ^ 12 + rs1 * 2 ^ 15 + rs2 * 2 ^ 20 + imm / 32 % 128 * 2 ^ 25
def rvMakeB (f3 rs1 : Nat) (imm : Int) : Nat :=
  let x := scode imm 13
  0x63 + fld x 11 1 * 2 ^ 7 + fld x 1 4 * 2 ^ 8 + f3 * 2 ^ 12 + rs1 * 2 ^ 15 + fld x 5 6 * 2 ^ 25 + fld x 12 1 * 2 ^ 31
def rvMakeJ (imm : Int) : Nat :=
  let x := scode imm 21
  0x6F + fld x 12 8 * 2 ^ 12 + fld x 11 1 * 2 ^ 20 + fld x 1 10 * 2 ^ 21 + fld x 20 1 * 2 ^ 31
/-- The instruction that a compressed one of 16 bits stands for; none for a reserved one, or one of a register file that the core has not. -/
def rvExpand (h : Nat) : Option Nat :=
  let f := fld h
  let rd := f 7 5
  let rs := f 2 5
  let lo := 8 + f 2 3
  let hi := 8 + f 7 3
  let imm6 := sfld (f 12 1 * 32 + f 2 5) 0 6
  let sh := f 12 1 * 32 + f 2 5
  let w4 := f 10 3 * 8 + f 6 1 * 4 + f 5 1 * 64
  let d8 := f 10 3 * 8 + f 5 2 * 64
  let jump := sfld (f 12 1 * 2048 + f 11 1 * 16 + f 9 2 * 256 + f 8 1 * 1024 + f 7 1 * 64 + f 6 1 * 128 + f 3 3 * 2 + f 2 1 * 32) 0 12
  let near := sfld (f 12 1 * 256 + f 10 2 * 8 + f 5 2 * 64 + f 3 2 * 2 + f 2 1 * 32) 0 9
  match h % 4, f 13 3 with
  | 0, 0 =>
    let imm := f 11 2 * 16 + f 7 4 * 64 + f 6 1 * 4 + f 5 1 * 8
    if imm = 0 then none else some (rvMakeI 0x13 0 lo 2 imm)
  | 0, 2 => some (rvMakeI 0x03 2 lo hi w4)
  | 0, 3 => some (rvMakeI 0x03 3 lo hi d8)
  | 0, 6 => some (rvMakeS 2 hi lo w4)
  | 0, 7 => some (rvMakeS 3 hi lo d8)
  | 1, 0 => some (rvMakeI 0x13 0 rd rd imm6)
  | 1, 1 => if rd = 0 then none else some (rvMakeI 0x1B 0 rd rd imm6)
  | 1, 2 => some (rvMakeI 0x13 0 rd 0 imm6)
  | 1, 3 =>
    if imm6 = 0 then none
    else if rd = 2 then some (rvMakeI 0x13 0 2 2 (sfld (f 12 1 * 512 + f 6 1 * 16 + f 5 1 * 64 + f 3 2 * 128 + f 2 1 * 32) 0 10))
    else some (0x37 + rd * 2 ^ 7 + scode imm6 20 * 2 ^ 12)
  | 1, 4 =>
    match f 10 2 with
    | 0 => some (rvMakeI 0x13 5 hi hi sh)
    | 1 => some (rvMakeI 0x13 5 hi hi (sh + 1024))
    | 2 => some (rvMakeI 0x13 7 hi hi imm6)
    | _ =>
      match f 12 1, f 5 2 with
      | 0, 0 => some (rvMakeR 0x33 0 0x20 hi hi lo)
      | 0, 1 => some (rvMakeR 0x33 4 0 hi hi lo)
      | 0, 2 => some (rvMakeR 0x33 6 0 hi hi lo)
      | 0, _ => some (rvMakeR 0x33 7 0 hi hi lo)
      | _, 0 => some (rvMakeR 0x3B 0 0x20 hi hi lo)
      | _, 1 => some (rvMakeR 0x3B 0 0 hi hi lo)
      | _, _ => none
  | 1, 5 => some (rvMakeJ jump)
  | 1, 6 => some (rvMakeB 0 hi near)
  | 1, 7 => some (rvMakeB 1 hi near)
  | 2, 0 => some (rvMakeI 0x13 1 rd rd sh)
  | 2, 2 => if rd = 0 then none else some (rvMakeI 0x03 2 rd 2 (f 12 1 * 32 + f 4 3 * 4 + f 2 2 * 64))
  | 2, 3 => if rd = 0 then none else some (rvMakeI 0x03 3 rd 2 (f 12 1 * 32 + f 5 2 * 8 + f 2 3 * 64))
  | 2, 4 =>
    if f 12 1 = 0 then
      if rs = 0 then (if rd = 0 then none else some (rvMakeI 0x67 0 0 rd 0)) else some (rvMakeR 0x33 0 0 rd 0 rs)
    else if rs = 0 then (if rd = 0 then some 0x00100073 else some (rvMakeI 0x67 0 1 rd 0))
    else some (rvMakeR 0x33 0 0 rd rd rs)
  | 2, 6 => some (rvMakeS 2 2 rs (f 9 4 * 4 + f 7 2 * 64))
  | 2, 7 => some (rvMakeS 3 2 rs (f 10 3 * 8 + f 7 3 * 64))
  | _, _ => none

/-- The control registers of the vector extension; no other is there. -/
def XfCore.csr (c : XfCore) (n : Nat) : Option Nat :=
  match n with
  | 0x008 => some c.vstart | 0x009 => some (c.vcsr % 2) | 0x00A => some (c.vcsr / 2 % 4) | 0x00F => some (c.vcsr % 8)
  | 0xC20 => some c.vl | 0xC21 => some c.vtype | 0xC22 => some 64
  | _ => none
/-- A write of one; those from 0xC00 on are for reading only. -/
def XfCore.setCsr (c : XfCore) (n x : Nat) : Option XfCore :=
  match n with
  | 0x008 => some { c with vstart := x % 512 }
  | 0x009 => some { c with vcsr := c.vcsr / 2 % 4 * 2 + x % 2 }
  | 0x00A => some { c with vcsr := x % 4 * 2 + c.vcsr % 2 }
  | 0x00F => some { c with vcsr := x % 8 }
  | _ => none
/-- CSRRW, CSRRS, CSRRC and their immediate forms. -/
def rvCsr (c : XfCore) (w : Nat) : Option XfCore :=
  let f3 := fld w 12 3
  let n := fld w 20 12
  let a := if 4 ≤ f3 then fld w 15 5 else (c.reg (fld w 15 5)).toNat
  (c.csr n).bind fun old =>
    let new := match f3 % 4 with
      | 1 => some a | 2 => some (old ||| a) | 3 => some (old &&& (2 ^ 64 - 1 - a)) | _ => none
    new.bind fun x => (if f3 % 4 ≠ 1 ∧ fld w 15 5 = 0 then some c else c.setCsr n x).map fun t => t.setReg (fld w 7 5) (BitVec.ofNat 64 old)

/-- A scalar instruction of 32 bits, `len` bytes long as it stands in the instruction memory. -/
def rvScalar (c : XfCore) (w len : Nat) : RvOut :=
  let rd := fld w 7 5
  let f3 := fld w 12 3
  let f7 := fld w 25 7
  let a := c.reg (fld w 15 5)
  let b := c.reg (fld w 20 5)
  let after := (c.pc + len) % 2 ^ 64
  let put := fun (v : Option Word) => match v with | some x => RvOut.next { c.setReg rd x with pc := after } | none => .illegal
  let jump := fun (t : XfCore) (a : Int) => RvOut.next { t with pc := scode a 64 }
  match w % 128 with
  | 0x37 => put (some (BitVec.ofInt 64 (rvU w)))
  | 0x17 => put (some (BitVec.ofInt 64 (c.pc + rvU w)))
  | 0x6F => jump (c.setReg rd (BitVec.ofNat 64 after)) (c.pc + rvJ w)
  | 0x67 => if f3 = 0 then jump (c.setReg rd (BitVec.ofNat 64 after)) ((a.toInt + rvI w) / 2 * 2) else .illegal
  | 0x63 =>
    match rvTakes f3 a b with
    | some t => jump c (if t then c.pc + rvB w else after)
    | none => .illegal
  | 0x03 =>
    let n := 2 ^ (f3 % 4)
    if f3 = 7 then .illegal
    else match c.load (scode (a.toInt + rvI w) 64) n with
      | none => .reach
      | some x => put (some (BitVec.ofInt 64 (if f3 < 4 then sfld x 0 (8 * n) else x)))
  | 0x23 =>
    if 4 ≤ f3 then .illegal
    else match c.store (scode (a.toInt + rvS w) 64) (2 ^ f3) b.toNat with
      | none => .reach
      | some t => .next { t with pc := after }
  | 0x13 =>
    if f3 % 4 = 1 then (if f3 = 1 ∧ f7 / 2 ≠ 0 ∨ f7 / 2 ≠ 0 ∧ f7 / 2 ≠ 0x10 then .illegal
      else put (rvOp (f7 / 2 * 2) f3 a (BitVec.ofNat 64 (fld w 20 6))))
    else put (rvOp 0 f3 a (BitVec.ofInt 64 (rvI w)))
  | 0x1B =>
    if f3 = 0 then put (rvOpW 0 0 a (BitVec.ofInt 64 (rvI w)))
    else if f3 % 4 = 1 ∧ f7 ≠ 1 then put (rvOpW f7 f3 a (BitVec.ofNat 64 (fld w 20 5)))
    else .illegal
  | 0x33 => put (rvOp f7 f3 a b)
  | 0x3B => put (rvOpW f7 f3 a b)
  | 0x0F => if f3 = 0 then .next { c with pc := after } else .illegal
  | 0x73 =>
    if w = 0x73 ∨ w = 0x00100073 then .call { c with pc := after }
    else match rvCsr c w with
      | some t => .next { t with pc := after }
      | none => .illegal
  | _ => .illegal

end Sys2Proof.Machine
end

