-- ==== Sys2Proof/Machine/RiscvVector.lean ====
section
/-! DEFINITION. The vector instructions of a transform core (R216): V at VLEN 512 on integers of 8 to 64 bits, as the RISC-V manual gives
them (log entry 91). Without F and D the floating-point ones are no instructions of the core. -/

namespace Sys2Proof.Machine

/-- The selected element width, and the exponent of LMUL, from -3 to 3. -/
def XfCore.sew (c : XfCore) : Nat := 8 * 2 ^ fld c.vtype 3 3
def XfCore.lmul (c : XfCore) : Int := sfld c.vtype 0 3
/-- The number of elements of a width that a group of registers holds. -/
def vCount (eew : Nat) (em : Int) : Nat := shiftExp (512 / eew) em
def XfCore.vlmax (c : XfCore) : Nat := vCount c.sew c.lmul
/-- A value of vtype that the core supports; any other sets vill. -/
def vtypeOk (t : Nat) : Bool := decide (t < 256) && decide (fld t 3 3 ≤ 3) && t % 8 != 4 && (t % 8 < 4 || decide (8 * 2 ^ fld t 3 3 ≤ shiftExp 64 (sfld t 0 3)))
def XfCore.vill (c : XfCore) : Bool := decide (2 ^ 63 ≤ c.vtype)
/-- VSETVLI, VSETIVLI and VSETVL: the new type and the length that it gives, which between VLMAX and its double is a free choice within the
limits of the manual; where the length is to stay, it stays below VLMAX. -/
def vSet (tag : Nat) (c : XfCore) (w : Nat) : Option XfCore :=
  let rd := fld w 7 5
  let rs := fld w 15 5
  let new := if fld w 31 1 = 0 then some (fld w 20 11) else if fld w 30 1 = 1 then some (fld w 20 10)
    else if fld w 25 6 = 0 then some (c.reg (fld w 20 5)).toNat else none
  new.map fun t =>
    if !vtypeOk t then { c.setReg rd 0 with vtype := 2 ^ 63, vl := 0, vstart := 0 }
    else
      let c1 := { c with vtype := t }
      let top := c1.vlmax
      let avl := if fld w 30 2 = 3 then rs else if rs ≠ 0 then (c.reg rs).toNat else if rd ≠ 0 then 2 ^ 64 - 1 else min c.vl top
      let least := (avl + 1) / 2
      let vl := if avl ≤ top then avl else if 2 * top ≤ avl then top else least + Config.choice tag 0 % (top - least + 1)
      { c1.setReg rd (BitVec.ofNat 64 vl) with vl := vl, vstart := 0 }

/-- An element of a group of registers, and a group with one written; a bit of a mask register. -/
def XfCore.vel (c : XfCore) (eew r i : Nat) : Nat := fld (Store.get 0 c.v ((r + i * eew / 512) % 32)).toNat (i * eew % 512) eew
def XfCore.setVel (c : XfCore) (eew r i x : Nat) : XfCore :=
  let k := (r + i * eew / 512) % 32
  let off := i * eew % 512
  let old := (Store.get 0 c.v k).toNat
  { c with v := Store.set 0 c.v k (BitVec.ofNat 512 (old - fld old off eew * 2 ^ off + x % 2 ^ eew * 2 ^ off)) }
def XfCore.vbit (c : XfCore) (r i : Nat) : Bool := (Store.get 0 c.v r).getLsbD i
/-- An element that an agnostic policy leaves: as it was, or all ones. -/
def vAgnostic (tag i eew old : Nat) : Nat := if Config.choice tag i % 2 = 1 then 2 ^ eew - 1 else old
/-- The elements of a destination of `count` elements: below `low` as they were, in the body what `f` gives where the mask says so, then the
tail. A body without elements changes nothing. -/
def XfCore.vwrite (c : XfCore) (tag eew vd count low : Nat) (vm : Bool) (f : Nat → Nat) : XfCore :=
  if c.vl ≤ c.vstart then { c with vstart := 0 }
  else
    let put := fun (t : XfCore) (i : Nat) =>
      let any := fun (on : Bool) => if on then t.setVel eew vd i (vAgnostic tag i eew (c.vel eew vd i)) else t
      if i < max c.vstart (min low c.vl) then t
      else if c.vl ≤ i then any (c.vtype.testBit 6)
      else if vm || c.vbit 0 i then t.setVel eew vd i (f i)
      else any (c.vtype.testBit 7)
    { (List.range count).foldl put c with vstart := 0 }
/-- The same for a mask register, whose tail is always agnostic. -/
def XfCore.vwriteMask (c : XfCore) (tag vd : Nat) (vm : Bool) (f : Nat → Bool) : XfCore :=
  ({ c with vtype := c.vtype ||| 64 } : XfCore).vwrite tag 1 vd 512 0 vm (fun i => bit (f i)) |> fun t => { t with vtype := c.vtype }

/-- The registers of a group; whether a number may begin one; whether a destination may lie where a source lies. -/
def vRegs (em : Int) : Nat := if em ≤ 0 then 1 else 2 ^ em.toNat
def vGroup (r : Nat) (em : Int) : Bool := decide (-3 ≤ em) && decide (em ≤ 3) && r % vRegs em == 0
def vDisjoint (d : Nat) (de : Int) (s : Nat) (se : Int) : Bool := decide (d + vRegs de ≤ s) || decide (s + vRegs se ≤ d)
def vFits (deew d : Nat) (de : Int) (seew s : Nat) (se : Int) : Bool :=
  vDisjoint d de s se || deew == seew || (decide (deew < seew) && d == s) ||
    (decide (seew < deew) && decide (0 ≤ se) && s + vRegs se == d + vRegs de)

/-- A value divided by 2 ^ d and rounded as vxrm says: to nearest, ties up or to even, down, or to odd. -/
def vRound (mode : Nat) (v : Int) (d : Nat) : Int :=
  let q := v / 2 ^ d
  let r := v % 2 ^ d
  if r = 0 then q
  else match mode with
    | 0 => if 2 ^ d ≤ 2 * r then q + 1 else q
    | 1 => if 2 ^ d < 2 * r ∨ (2 ^ d = 2 * r ∧ q % 2 = 1) then q + 1 else q
    | 2 => q
    | _ => if q % 2 = 0 then q + 1 else q
/-- A value clipped to a width, signed or not, and whether that changed it. -/
def vClip (w : Nat) (sgn : Bool) (v : Int) : Nat × Bool := (wrapBits (satInt v w sgn) w, satInt v w sgn != v)

/-- The operations of one width on the elements a of vs2 and b of the other operand, by funct6: those of OPI. -/
def vOpI (f6 sew a b : Nat) : Option Int :=
  let x := sfld a 0 sew
  let y := sfld b 0 sew
  match f6 with
  | 0x00 => some (a + b : Nat) | 0x02 => some ((a : Int) - b) | 0x03 => some ((b : Int) - a)
  | 0x04 => some (min a b : Nat) | 0x05 => some (min x y) | 0x06 => some (max a b : Nat) | 0x07 => some (max x y)
  | 0x09 => some (a &&& b : Nat) | 0x0A => some (a ||| b : Nat) | 0x0B => some (a ^^^ b : Nat)
  | 0x25 => some (a * 2 ^ (b % sew) : Nat) | 0x28 => some (a / 2 ^ (b % sew) : Nat) | 0x29 => some (x / 2 ^ (b % sew))
  | _ => none
/-- The comparisons. -/
def vCompare (f6 sew a b : Nat) : Option Bool :=
  let x := sfld a 0 sew
  let y := sfld b 0 sew
  match f6 with
  | 0x18 => some (a == b) | 0x19 => some (a != b) | 0x1A => some (decide (a < b)) | 0x1B => some (decide (x < y))
  | 0x1C => some (decide (a ≤ b)) | 0x1D => some (decide (x ≤ y)) | 0x1E => some (decide (b < a)) | 0x1F => some (decide (y < x))
  | _ => none
/-- The saturating and the scaled operations of OPI; for the clips `a` is twice as wide. -/
def vFixed (mode f6 sew a b : Nat) : Option (Nat × Bool) :=
  let x := sfld a 0 sew
  let y := sfld b 0 sew
  match f6 with
  | 0x20 => some (vClip sew false (a + b : Nat)) | 0x21 => some (vClip sew true (x + y))
  | 0x22 => some (vClip sew false ((a : Int) - b)) | 0x23 => some (vClip sew true (x - y))
  | 0x27 => some (vClip sew true (vRound mode (x * y) (sew - 1)))
  | 0x2A => some (wrapBits (vRound mode a (b % sew)) sew, false) | 0x2B => some (wrapBits (vRound mode x (b % sew)) sew, false)
  | 0x2E => some (vClip sew false (vRound mode a (b % (2 * sew))))
  | 0x2F => some (vClip sew true (vRound mode (sfld a 0 (2 * sew)) (b % (2 * sew))))
  | _ => none
/-- The operations of one width of OPM; `d` is the element of the destination. -/
def vOpM (mode f6 sew a b d : Nat) : Option Int :=
  let x := sfld a 0 sew
  let y := sfld b 0 sew
  match f6 with
  | 0x08 => some (vRound mode (a + b : Nat) 1) | 0x09 => some (vRound mode (x + y) 1)
  | 0x0A => some (vRound mode ((a : Int) - b) 1) | 0x0B => some (vRound mode (x - y) 1)
  | 0x20 => some (rvM sew 5 a b) | 0x21 => some (rvM sew 4 a b) | 0x22 => some (rvM sew 7 a b) | 0x23 => some (rvM sew 6 a b)
  | 0x24 => some (rvM sew 3 a b) | 0x25 => some (rvM sew 0 a b) | 0x26 => some (rvM sew 2 a b) | 0x27 => some (rvM sew 1 a b)
  | 0x29 => some ((b : Int) * d + a) | 0x2B => some (a - (b : Int) * d)
  | 0x2D => some ((b : Int) * a + d) | 0x2F => some (d - (b : Int) * a)
  | _ => none
/-- The widening ones: whether the source vs2 is wide already, and the result. -/
def vWiden (f6 sew a b d : Nat) : Option (Bool × Int) :=
  let x := sfld a 0 sew
  let y := sfld b 0 sew
  let z := sfld a 0 (2 * sew)
  match f6 with
  | 0x30 => some (false, (a + b : Nat)) | 0x31 => some (false, x + y) | 0x32 => some (false, (a : Int) - b) | 0x33 => some (false, x - y)
  | 0x34 => some (true, (a + b : Nat)) | 0x35 => some (true, z + y) | 0x36 => some (true, (a : Int) - b) | 0x37 => some (true, z - y)
  | 0x38 => some (false, (a * b : Nat)) | 0x3A => some (false, x * b) | 0x3B => some (false, x * y)
  | 0x3C => some (false, (a * b + d : Nat)) | 0x3D => some (false, x * y + d) | 0x3E => some (false, x * b + d) | 0x3F => some (false, a * y + d)
  | _ => none
/-- A step of a reduction, by funct6. -/
def vFold (f6 sew a b : Nat) : Nat :=
  let x := sfld a 0 sew
  let y := sfld b 0 sew
  match f6 with
  | 0 => (a + b) % 2 ^ sew | 1 => a &&& b | 2 => a ||| b | 3 => a ^^^ b
  | 4 => min a b | 5 => wrapBits (min x y) sew | 6 => max a b | _ => wrapBits (max x y) sew

/-- The vector arithmetic instructions; none for a reserved encoding. -/
def vArith (tag : Nat) (c : XfCore) (w : Nat) : Option XfCore :=
  let f3 := fld w 12 3
  let f6 := fld w 26 6
  let vm := fld w 25 1 == 1
  let v2 := fld w 20 5
  let v1 := fld w 15 5
  let vd := fld w 7 5
  let sew := c.sew
  let lm := c.lmul
  let top := c.vlmax
  let mode := c.vcsr / 2 % 4
  let vv := f3 == 0 || f3 == 2
  let vi := f3 == 3
  let count := max top (512 / sew)
  let unsignedImm := vi && (f6 == 0x25 || f6 == 0x28 || f6 == 0x29 || f6 == 0x2A || f6 == 0x2B || f6 == 0x2C || f6 == 0x2D || f6 == 0x2E || f6 == 0x2F)
  let scalar := if vi then (if unsignedImm then v1 else scode (sfld v1 0 5) 64) else (c.reg v1).toNat
  let big := if vi then v1 else (c.reg v1).toNat
  let a := fun (i : Nat) => c.vel sew v2 i
  let a2 := fun (i : Nat) => c.vel (2 * sew) v2 i
  let b := fun (i : Nat) => if vv then c.vel sew v1 i else scalar % 2 ^ sew
  let d := fun (i : Nat) => c.vel sew vd i
  let on := fun (i : Nat) => vm || c.vbit 0 i
  let unmasked := vm || vd != 0
  let src := vGroup v2 lm && (!vv || vGroup v1 lm)
  let same := src && vGroup vd lm && unmasked
  let write := fun (f : Nat → Int) => c.vwrite tag sew vd count 0 vm fun i => wrapBits (f i) sew
  let body := (List.range c.vl).filter fun i => decide (c.vstart ≤ i)
  let saturating := fun (f : Nat → Nat × Bool) =>
    let t := c.vwrite tag sew vd count 0 vm fun i => (f i).1
    if body.any fun i => on i && (f i).2 then { t with vcsr := t.vcsr ||| 1 } else t
  let maskFits := vFits 1 vd 0 sew v2 lm && (!vv || vFits 1 vd 0 sew v1 lm)
  let wide := decide (sew ≤ 32) && decide (lm ≤ 2)
  let zero := c.vstart == 0
  if c.vill then none
  else if f3 = 0 ∨ f3 = 3 ∨ f3 = 4 then
    match f6 with
    | 0x0C =>
      let i := fun (k : Nat) => if vv then c.vel sew v1 k else big
      if same && vDisjoint vd lm v2 lm && (!vv || vDisjoint vd lm v1 lm) then some (write fun k => if i k < top then a (i k) else 0) else none
    | 0x0E =>
      if vv then
        let em := lm + 4 - Nat.log2 sew
        let i := fun (k : Nat) => c.vel 16 v1 k
        if vGroup v2 lm && vGroup v1 em && vGroup vd lm && unmasked && vDisjoint vd lm v2 lm && vDisjoint vd lm v1 em then
          some (write fun k => if i k < top then a (i k) else 0) else none
      else if same && vDisjoint vd lm v2 lm then some (c.vwrite tag sew vd count big vm fun i => a (i - big)) else none
    | 0x0F => if !vv && same then some (write fun i => if i + big < top then a (i + big) else 0) else none
    | 0x10 | 0x12 =>
      let k := fun (i : Nat) => bit (c.vbit 0 i)
      if src && vGroup vd lm && !vm && vd != 0 && (f6 == 0x10 || !vi) then
        some (c.vwrite tag sew vd count 0 true fun i => wrapBits (if f6 = 0x10 then (a i + b i + k i : Nat) else (a i : Int) - b i - k i) sew) else none
    | 0x11 | 0x13 =>
      let k := fun (i : Nat) => if vm then 0 else bit (c.vbit 0 i)
      if src && maskFits && (f6 == 0x11 || !vi) then
        some (c.vwriteMask tag vd true fun i => if f6 = 0x11 then decide (2 ^ sew ≤ a i + b i + k i) else decide (a i < b i + k i)) else none
    | 0x17 =>
      if vm then (if v2 = 0 ∧ vGroup vd lm ∧ (!vv || vGroup v1 lm) then some (c.vwrite tag sew vd count 0 true b) else none)
      else if src && vGroup vd lm && vd != 0 then some (c.vwrite tag sew vd count 0 true fun i => if c.vbit 0 i then b i else a i) else none
    | 0x27 =>
      if vi then
        let n := v1 + 1
        if vm && (n == 1 || n == 2 || n == 4 || n == 8) && v2 % n == 0 && vd % n == 0 then
          some (({ c with vl := n * (512 / sew) } : XfCore).vwrite tag sew vd (n * (512 / sew)) 0 true a |> fun t => { t with vl := c.vl }) else none
      else if same then some (saturating fun i => (vFixed mode f6 sew (a i) (b i)).getD (0, false)) else none
    | 0x2C | 0x2D =>
      if wide && vGroup v2 (lm + 1) && (!vv || vGroup v1 lm) && vGroup vd lm && unmasked && vFits sew vd lm (2 * sew) v2 (lm + 1) then
        some (write fun i => if f6 = 0x2C then (a2 i / 2 ^ (b i % (2 * sew)) : Nat) else sfld (a2 i) 0 (2 * sew) / 2 ^ (b i % (2 * sew))) else none
    | 0x2E | 0x2F =>
      if wide && vGroup v2 (lm + 1) && (!vv || vGroup v1 lm) && vGroup vd lm && unmasked && vFits sew vd lm (2 * sew) v2 (lm + 1) then
        some (saturating fun i => (vFixed mode f6 sew (a2 i) (b i)).getD (0, false)) else none
    | 0x30 | 0x31 =>
      if vv && decide (sew ≤ 32) && zero && vGroup v2 lm then
        let ext := fun (i : Nat) => if f6 = 0x30 then a i else wrapBits (sfld (a i) 0 sew) (2 * sew)
        let sum := (body.filter on).foldl (fun acc i => vFold 0 (2 * sew) acc (ext i)) (c.vel (2 * sew) v1 0)
        some (if c.vl = 0 then c else { ({ c with vl := 1 } : XfCore).vwrite tag (2 * sew) vd (512 / (2 * sew)) 0 true (fun _ => sum) with vl := c.vl })
      else none
    | _ =>
      let sub := f6 == 0x02 || f6 == 0x04 || f6 == 0x05 || f6 == 0x06 || f6 == 0x07 || f6 == 0x22 || f6 == 0x23
      match vOpI f6 sew 0 0, vFixed mode f6 sew 0 0, vCompare f6 sew 0 0 with
      | some _, _, _ => if same && !(vi && sub) && !(vv && f6 == 0x03) then some (write fun i => (vOpI f6 sew (a i) (b i)).getD 0) else none
      | _, some _, _ => if same && !(vi && sub) then some (saturating fun i => (vFixed mode f6 sew (a i) (b i)).getD (0, false)) else none
      | _, _, some _ =>
        if src && maskFits && !(vi && (f6 == 0x1A || f6 == 0x1B)) && !(vv && (f6 == 0x1E || f6 == 0x1F)) then
          some (c.vwriteMask tag vd vm fun i => (vCompare f6 sew (a i) (b i)).getD false) else none
      | _, _, _ => none
  else if f3 = 2 ∨ f3 = 6 then
    match f6 with
    | 0x0E => if !vv && same && vDisjoint vd lm v2 lm then some (write fun i => if i = 0 then (c.reg v1).toNat else a (i - 1)) else none
    | 0x0F => if !vv && same then some (write fun i => if i + 1 = c.vl then (c.reg v1).toNat else a (i + 1)) else none
    | 0x10 =>
      if vv then
        if v1 = 0 then (if vm then some { c.setReg vd (BitVec.ofInt 64 (sfld (a 0) 0 sew)) with vstart := 0 } else none)
        else if v1 = 16 ∧ zero then some (c.setReg vd (BitVec.ofNat 64 (body.countP fun i => on i && c.vbit v2 i)))
        else if v1 = 17 ∧ zero then
          some (c.setReg vd (match body.find? fun i => on i && c.vbit v2 i with | some i => BitVec.ofNat 64 i | none => BitVec.allOnes 64))
        else none
      else if v2 = 0 ∧ vm then
        some { ({ c with vl := min c.vl 1 } : XfCore).vwrite tag sew vd (512 / sew) 0 true (fun _ => (c.reg v1).toNat) with vl := c.vl } else none
    | 0x12 =>
      let k := 4 - v1 / 2
      let e := sew / 2 ^ k
      if vv && decide (2 ≤ v1) && decide (v1 ≤ 7) && decide (8 ≤ e) && vGroup v2 (lm - k) && vGroup vd lm && unmasked && vFits sew vd lm e v2 (lm - k) then
        some (write fun i => if v1 % 2 = 0 then (c.vel e v2 i : Nat) else sfld (c.vel e v2 i) 0 e) else none
    | 0x14 =>
      let set := fun (i : Nat) => on i && c.vbit v2 i
      let below := fun (i : Nat) => (List.range i).any set
      if !vv || !unmasked then none
      else match v1 with
        | 1 => if zero && vd != v2 then some (c.vwriteMask tag vd vm fun i => !below i && !set i) else none
        | 2 => if zero && vd != v2 then some (c.vwriteMask tag vd vm fun i => !below i && set i) else none
        | 3 => if zero && vd != v2 then some (c.vwriteMask tag vd vm fun i => !below i) else none
        | 0x10 => if zero && vGroup vd lm && vDisjoint vd lm v2 0 then some (write fun i => ((List.range i).countP set : Nat)) else none
        | 0x11 => if v2 = 0 ∧ vGroup vd lm then some (write fun i => (i : Nat)) else none
        | _ => none
    | 0x17 =>
      if vv && vm && zero && vGroup v2 lm && vGroup vd lm && vDisjoint vd lm v2 lm && vDisjoint vd lm v1 0 then
        let kept := body.filter fun i => c.vbit v1 i
        some (if c.vl = 0 then c
          else { ({ c with vl := kept.length, vstart := 0 } : XfCore).vwrite tag sew vd count 0 true (fun i => a (kept.getD i 0)) with vl := c.vl })
      else none
    | 0x18 | 0x19 | 0x1A | 0x1B | 0x1C | 0x1D | 0x1E | 0x1F =>
      if !vv || !vm then none
      else some (c.vwriteMask tag vd true fun i =>
        let x := c.vbit v2 i
        let y := c.vbit v1 i
        match f6 with
        | 0x18 => x && !y | 0x19 => x && y | 0x1A => x || y | 0x1B => x != y
        | 0x1C => x || !y | 0x1D => !(x && y) | 0x1E => !(x || y) | _ => x == y)
    | _ =>
      if f6 < 8 then
        if vv && zero && vGroup v2 lm then
          let r := (body.filter on).foldl (fun acc i => vFold f6 sew acc (a i)) (c.vel sew v1 0)
          some (if c.vl = 0 then c else { ({ c with vl := 1 } : XfCore).vwrite tag sew vd (512 / sew) 0 true (fun _ => r) with vl := c.vl })
        else none
      else match vOpM mode f6 sew 0 0 0, vWiden f6 sew 0 0 0 with
        | some _, _ => if same then some (write fun i => (vOpM mode f6 sew (a i) (b i) (d i)).getD 0) else none
        | _, some (wideSrc, _) =>
          let d2 := fun (i : Nat) => c.vel (2 * sew) vd i
          let s2 := fun (i : Nat) => if wideSrc then a2 i else a i
          if wide && vGroup vd (lm + 1) && unmasked && (if wideSrc then vGroup v2 (lm + 1) else vGroup v2 lm && vFits (2 * sew) vd (lm + 1) sew v2 lm)
              && (!vv || vGroup v1 lm && vFits (2 * sew) vd (lm + 1) sew v1 lm && f6 != 0x3E) then
            some (c.vwrite tag (2 * sew) vd (max top (512 / (2 * sew))) 0 vm fun i =>
              wrapBits ((vWiden f6 sew (s2 i) (b i) (d2 i)).getD (false, 0)).2 (2 * sew)) else none
        | _, _ => none
  else none

/-- The vector loads and stores: unit-stride, strided, indexed, of segments, of whole registers, of masks, and fault-only-first, which ends
its body before the first access outside the buffers. -/
def vMem (tag : Nat) (c : XfCore) (w : Nat) : RvOut :=
  let isLoad := w % 128 == 0x07
  let nf := fld w 29 3 + 1
  let mop := fld w 26 2
  let vm := fld w 25 1 == 1
  let v2 := fld w 20 5
  let vd := fld w 7 5
  let width := fld w 12 3
  let base := (c.reg (fld w 15 5)).toNat
  let eew := if width = 0 then 8 else 8 * 2 ^ (width - 4)
  let unit := mop == 0
  let done := fun (o : Option XfCore) => match o with | some t => RvOut.next { t with vstart := 0 } | none => .reach
  if fld w 28 1 = 1 ∨ (1 ≤ width ∧ width ≤ 4) then .illegal
  else if unit && v2 == 8 then
    if !vm || !(nf == 1 || nf == 2 || nf == 4 || nf == 8) || vd % nf != 0 || (!isLoad && width != 0) then .illegal
    else
      let is := (List.range (nf * 512 / eew)).drop c.vstart
      done (is.foldlM (fun (t : XfCore) i => if isLoad then (c.load (base + i * eew / 8) (eew / 8)).map fun (x : Nat) => t.setVel eew vd i x
        else t.store (base + i * eew / 8) (eew / 8) (c.vel eew vd i)) c)
  else if c.vill then .illegal
  else if unit && v2 == 11 then
    if !vm || width != 0 || nf != 1 then .illegal
    else
      let is := (List.range ((c.vl + 7) / 8)).drop c.vstart
      done (is.foldlM (fun (t : XfCore) i => if isLoad then (c.load (base + i) 1).map fun (x : Nat) => t.setVel 8 vd i x
        else t.store (base + i) 1 (c.vel 8 vd i)) c)
  else
    let indexed := mop % 2 == 1
    let lm := c.lmul
    let em : Int := lm + Nat.log2 eew - Nat.log2 c.sew
    let de := if indexed then c.sew else eew
    let dm := if indexed then lm else em
    let regs := vRegs dm
    let stride : Int := if mop = 2 then (c.reg v2).toInt else (nf * (de / 8) : Nat)
    let place := fun (i k : Nat) =>
      scode (base + (if indexed then (c.vel eew v2 i : Int) else i * stride) + (k * (de / 8) : Nat)) 64
    let on := fun (i : Nat) => vm || c.vbit 0 i
    let ok := vGroup vd dm && decide (nf * regs ≤ 8) && decide (vd + nf * regs ≤ 32) && (!isLoad || vm || vd != 0) &&
      (!unit || v2 == 0 || (v2 == 16 && isLoad)) &&
      (!indexed || vGroup v2 em && (!isLoad || (if nf = 1 then vFits de vd dm eew v2 em else
        (List.range nf).all fun k => vDisjoint (vd + k * regs) dm v2 em)))
    let is := ((List.range c.vl).drop c.vstart).filter on
    let whole := fun (i : Nat) => (List.range nf).all fun k => (c.load (place i k) (de / 8)).isSome
    if !ok then .illegal
    else if !isLoad then
      done (is.foldlM (fun (t : XfCore) i => (List.range nf).foldlM (fun (t : XfCore) k => t.store (place i k) (de / 8) (c.vel de (vd + k * regs) i)) t) c)
    else
      let load := fun (c1 : XfCore) => (List.range nf).foldl (fun (t : XfCore) k =>
        ({ t with vstart := c.vstart } : XfCore).vwrite (tag + k) de (vd + k * regs) (max (vCount de dm) (512 / de)) 0 vm
          fun i => (c.load (place i k) (de / 8)).getD 0) c1
      match is.find? fun i => !whole i with
      | none => .next { load c with vstart := 0 }
      | some i => if unit && v2 == 16 && i != 0 then .next { load { c with vl := i } with vstart := 0 } else .reach

/-- A vector instruction, by its major opcode. -/
def rvVector (tag : Nat) (c : XfCore) (w : Nat) : RvOut :=
  let after := fun (o : Option XfCore) => match o with | some t => RvOut.next { t with pc := (c.pc + 4) % 2 ^ 64 } | none => .illegal
  if w % 128 = 0x57 then after (if fld w 12 3 = 7 then vSet tag c w else vArith tag c w)
  else match vMem tag c w with
    | .next t => after (some t)
    | o => o
/-- The instruction at the pc, from the bytes of the instruction memory (R216): a fetch outside it reaches outside, and memory that no image
fills holds 0. -/
def rvStep (tag : Nat) (mem : List Byte) (c : XfCore) : RvOut :=
  let at_ := fun (i : Nat) => let a := (c.pc + i) % 2 ^ 64
    if xfBase 5 ≤ a ∧ a < xfBase 5 + xfSpan 5 then some (mem.getD (a - xfBase 5) 0) else none
  match at_ 0, at_ 1 with
  | some b0, some b1 =>
    let h := leNat [b0, b1]
    if h % 4 ≠ 3 then (match rvExpand h with | some w => rvScalar c w 2 | none => .illegal)
    else if h % 32 = 31 then .illegal
    else match at_ 2, at_ 3 with
      | some b2, some b3 =>
        let w := leNat [b0, b1, b2, b3]
        if w % 128 = 0x57 ∨ ((w % 128 = 0x07 ∨ w % 128 = 0x27)) then rvVector tag c w else rvScalar c w 4
      | _, _ => .reach
  | _, _ => .reach

end Sys2Proof.Machine
end

