-- ==== Sys2Proof/Machine/Transform.lean ====
section
/-! DEFINITION. The transform core (R216 to R219): chain blocks and the shipped routines. -/

namespace Sys2Proof.Machine

/-- The fields of a chain block (R217). -/
def lkRoutine (b : List Byte) : Nat := recF b 0 2
def lkLast (b : List Byte) : Bool := (recF b 2 2).testBit 0
def lkNext (b : List Byte) : Nat := recF b 4 4
def lkOut (b : List Byte) : Nat := recF b 8 4
def lkFirst (b : List Byte) : Nat := recF b 12 4
def lkParam (b : List Byte) (i : Nat) : Nat := recF b (16 + 4 * i) 4

/-- The cost c of a routine (R219); that of a routine of another image is in the image (log entry 1). -/
def routineCost : Nat → Nat
  | 0x0001 => 2 | 0x0002 => 2 | 0x0010 => 3 | 0x0020 => 1 | 0x0030 => 4
  | n => Config.choice n 2

/-- x / d to the nearest integer, ties to even. -/
def rne (x d : Nat) : Nat :=
  let q := x / d
  let r := x % d
  if 2 * r < d then q else if d < 2 * r then q + 1 else q + q % 2

/-- The source samples of output sample x on an axis of n samples resized to m, with their weights (R219): the covered length
of each sample for a box mean, else the two neighbours of the sample centre, clamped at the edges. -/
def axisTaps (area : Bool) (n m x : Nat) : List (Nat × Nat) :=
  if area then
    (List.range n).filterMap fun i =>
      let lo := max (i * m) (x * n)
      let hi := min ((i + 1) * m) ((x + 1) * n)
      if lo < hi then some (i, hi - lo) else none
  else
    let c : Int := (2 * x + 1) * n - m
    let f := (c % (2 * m)).toNat
    let at_ := fun (i : Int) => min i.toNat (n - 1)
    [(at_ (c / (2 * m)), 2 * m - f), (at_ (c / (2 * m) + 1), f)].filter fun t => t.2 != 0

/-- A weighted mean of floating values, with one rounding. -/
def meanF (fm : Fmt) (vs : List (Nat × Nat)) (d : Nat) : Nat :=
  let sum := vs.foldl (fun acc v => (FVal.add .rne acc (FVal.mul (FVal.ofInt v.2) (fm.decode v.1)).1).1) (FVal.zero false)
  match sum with
  | .fin n m e => (encodeF fm 0 (.fin n (2 * (m * 2 ^ 200 / d) + (if m * 2 ^ 200 % d = 0 then 0 else 1)) (e - 201))).1
  | y => (encodeF fm 0 y).1
/-- One output sample of a resize. -/
def resizeAt (area : Bool) (et : Nat) (plane : List Nat) (w h ow oh x y : Nat) : Nat :=
  let ty := axisTaps area h oh y
  let taps := (ty.map fun b => (axisTaps area w ow x).map fun a => (plane.getD (b.1 * w + a.1) 0, a.2 * b.2)).flatten
  let d := if area then w * h else 4 * ow * oh
  match (ET.ofCode et).bind ET.fmt with
  | some fm => meanF fm taps d
  | none => rne (taps.foldl (fun acc v => acc + v.1 * v.2) 0) d
/-- Bytes cut into elements, and put together again. -/
def elemsOf (z : Nat) (bs : List Byte) : List Nat := (List.range (bs.length / z)).map fun i => leNat ((bs.drop (z * i)).take z)
def bytesOf (z : Nat) (xs : List Nat) : List Byte := (xs.map fun x => leBytes x z).flatten
/-- Bilinear and area resize (R219). -/
def resize (area : Bool) (b : List Byte) (input : List Byte) : List Byte :=
  let p := lkParam b
  let z := elemBytes (p 5)
  let xs := elemsOf z input
  bytesOf z <| ((List.range (p 4)).map fun k =>
    let plane := (xs.drop (k * (p 0 * p 1))).take (p 0 * p 1)
    (List.range (p 2 * p 3)).map fun i => resizeAt area (p 5) plane (p 0) (p 1) (p 2) (p 3) (i % p 2) (i / p 2)).flatten
/-- The luma weights of R and B in the matrix of ITU-R BT.601 or BT.709, in units of 1/10,000 (log entry 30). -/
def lumaWeights (matrix : Nat) : Int × Int := if matrix = 0 then (2990, 1140) else (2126, 722)
/-- R, G and B of a pixel as numerators over one denominator, 1 standing for full scale, from a 10-bit luma sample and chroma in units of
2^-16: the equations of BT.601 or BT.709, in the limited range (64 to 940, 64 to 960) or the full one. -/
def colourAt (matrix range : Nat) (y cb cr : Int) : List Int × Nat :=
  match lumaWeights matrix with
  | (kr, kb) =>
    let kg := 10000 - kr - kb
    let yd : Int := if range = 0 then 876 else 1023
    let cd : Int := if range = 0 then 896 else 1023
    let l := (y - (if range = 0 then 64 else 0)) * cd * 2 ^ 16 * 10000 * kg
    let u := (cb - 512 * 2 ^ 16) * yd
    let v := (cr - 512 * 2 ^ 16) * yd
    ([l + 2 * (10000 - kr) * kg * v, l - 2 * kb * (10000 - kb) * u - 2 * kr * (10000 - kr) * v, l + 2 * (10000 - kb) * kg * u],
      (yd * cd * 2 ^ 16 * 10000 * kg).toNat)
/-- A chroma sample at a pixel in units of 2^-16: some value between the least and the greatest of the chroma samples about it, for
the manual names no interpolation (log entry 30). -/
def chromaAt (tag i : Nat) (plane : List Nat) (w h x y : Nat) : Nat :=
  let at_ := fun (dx dy : Nat) => plane.getD (min (y / 2 + dy - 1) (h / 2 - 1) * (w / 2) + min (x / 2 + dx - 1) (w / 2 - 1)) 0 % 1024
  let near := (List.range 9).map fun k => at_ (k % 3) (k / 3)
  let lo := near.foldl min (at_ 1 1)
  let hi := near.foldl max (at_ 1 1)
  lo * 2 ^ 16 + Config.choice tag i % ((hi - lo) * 2 ^ 16 + 1)
/-- A component in its output form: scaled to 255 and saturated, or within 0 to 1 in bf16 or fp16; which of the two neighbours an inexact
one rounds to, the manual does not say (log entry 30). -/
def colourOut (tag i et : Nat) (n : Int) (d : Nat) : Nat :=
  let up := Config.choice tag i % 2
  if et = 4 then (max 0 (min 255 ((255 * n + (if up = 1 then (d : Int) - 1 else 0)) / d))).toNat
  else
    let m := min n.toNat d
    let v : FVal := .fin false (2 * (m * 2 ^ 60 / d) + (if m * 2 ^ 60 % d = 0 then 0 else 1)) (-61)
    match (ET.ofCode et).bind ET.fmt with
    | some fm => (encodeF fm (if up = 1 then 3 else 1) (if m = 0 then .fin false 0 0 else v)).1
    | none => 0
/-- Colour conversion (R219). -/
def colour (tag : Nat) (b : List Byte) (input : List Byte) : List Byte :=
  let p := lkParam b
  let w := p 0
  let h := p 1
  let xs := elemsOf 2 input
  let q := w / 2 * (h / 2)
  let px := (List.range (w * h)).map fun i =>
    colourAt (p 2) (p 3) (xs.getD i 0 % 1024 : Nat) (chromaAt tag (2 * i) ((xs.drop (w * h)).take q) w h (i % w) (i / w) : Nat)
      (chromaAt tag (2 * i + 1) ((xs.drop (w * h + q)).take q) w h (i % w) (i / w) : Nat)
  bytesOf (elemBytes (p 4)) <| ((List.range 3).map fun k =>
    ((List.range (w * h)).zip px).map fun x => colourOut tag (2 * w * h + 3 * x.1 + k) (p 4) (x.2.1.getD k 0) x.2.2).flatten
/-- Plane packing (R219): NPp blocks packed canonically, values saturated. -/
def packPlanes (b : List Byte) (input : List Byte) : List Byte :=
  let p := lkParam b 2
  let top : Int := 2 ^ (p - 1)
  ((List.range (input.length / 64)).map fun k =>
    planesOf (((input.drop (64 * k)).take 64).map fun x => max (-top) (min (top - 1) x.toInt)) p).flatten
/-- The kernel offset of a number on each axis: which axis varies fastest is one fixed choice of the device (log entry 30). -/
def kernelOffset (e k : Nat) : List Int :=
  let d := [k % e, k / e % e, k / e / e].map fun (x : Nat) => (x : Int) - (e / 2 : Nat)
  let orders := [[0, 1, 2], [0, 2, 1], [1, 0, 2], [1, 2, 0], [2, 0, 1], [2, 1, 0]]
  (orders.getD (Config.choice 0 4 % 6) []).map fun i => d.getD i 0
/-- Voxel hashing (R219): for a kernel offset and an output voxel, the number of the input voxel that lies at the output voxel's place plus
the offset, 0xFFFF for none. Output voxel o lies where input voxel o lies, the first of equal ones counts, and a number that 16 bits do not
hold is a free value (log entry 30). -/
def voxels (tag : Nat) (b : List Byte) (input : List Byte) : List Byte :=
  let p := lkParam b
  let xs := (elemsOf 4 input).map fun x => (BitVec.ofNat 32 x).toInt
  let at_ := fun (i : Nat) => (xs.drop (3 * i)).take 3
  let find := fun (k o : Nat) =>
    if p 2 ≤ o ∨ p 0 ≤ o then 0xFFFF
    else match (List.range (p 0)).find? fun i => at_ i == List.zipWith (· + ·) (at_ o) (kernelOffset (p 1) k) with
      | some i => if i < 0xFFFF then i else Config.freeNat tag i % 0x10000
      | none => 0xFFFF
  bytesOf 2 ((List.range (p 1 ^ 3)).map fun k => (List.range ((p 2 + 127) / 128 * 128)).map (find k)).flatten

/-- What a routine rejects: its parameters or its input size (R217, R219). Which of them a routine of another image rejects, is in that
image: one fixed choice for each block and size (log entry 30). -/
def routineRejects (b : List Byte) (input : Nat) : Bool :=
  let p := lkParam b
  match lkRoutine b with
  | 0x0001 | 0x0002 =>
    !([4, 5, 9, 10].contains (p 5)) || p 0 == 0 || p 1 == 0 || p 2 == 0 || p 3 == 0 || p 4 == 0
      || input != p 4 * p 0 * p 1 * elemBytes (p 5)
      || (lkRoutine b == 2 && (decide (p 0 < p 2) || decide (p 1 < p 3)))
  | 0x0010 => p 0 == 0 || p 1 == 0 || p 0 % 2 != 0 || p 1 % 2 != 0 || decide (1 < p 2) || decide (1 < p 3) || !([4, 8, 9].contains (p 4))
      || input != 3 * p 0 * p 1
  | 0x0020 => p 1 % 64 != 0 || decide (p 2 < 2) || decide (8 < p 2) || input != p 0 * p 1
  | 0x0030 => (p 1 != 3 && p 1 != 5) || input != 12 * p 0
  | _ => Config.choice (leNat b) input % 2 == 1
/-- A routine that the device ships (R219); one of another signed image runs from the instruction memory (R216). -/
def shipped (id : Nat) : Bool := [0x0001, 0x0002, 0x0010, 0x0020, 0x0030].contains id
/-- What a shipped routine produces. -/
def routineRun (tag : Nat) (b : List Byte) (input : List Byte) : List Byte :=
  match lkRoutine b with
  | 0x0001 => resize false b input
  | 0x0002 => resize true b input
  | 0x0010 => colour tag b input
  | 0x0020 => packPlanes b input
  | _ => voxels tag b input
/-- The output of a link from what its routine produced (R218): the rest is zero; none where that is more than the link declares. -/
def linkOut (b out : List Byte) : Option (List Byte) :=
  if lkOut b < out.length then none else some (out ++ List.replicate (lkOut b - out.length) 0)
/-- The buffers of a transform core that a link reads: the window streams into the first one, a later one reads the chain buffer (R218). -/
def XfCore.fed (c : XfCore) (first : Bool) (input : List Byte) : XfCore :=
  if first then { c with stream := (List.range 4).map fun i => (input.drop (32768 * i)).take 32768 } else { c with chain := input }
/-- The transform core with registers that nothing constrains: what a routine finds in them, and what a shipped one leaves (log entry 79). -/
def XfCore.anew (c : XfCore) (tag : Nat) : XfCore :=
  { c with pc := (xfBase 5 + Config.freeNat tag 0 % 32768 * 2) % 2 ^ 64, x := (List.range 31).map fun i => (i + 1, Config.freeBits 64 tag (i + 1))
           v := (List.range 32).map fun i => (i, Config.freeBits 512 tag (i + 32)), vl := 0, vtype := 2 ^ 63, vstart := 0, vcsr := Config.freeNat tag 64 % 8 }
/-- A routine of another image starts (R216 to R218): where it is entered and what its registers hold is open (log entry 91). -/
def XfCore.start (c : XfCore) (tag copy : Nat) (first : Bool) (b input : List Byte) : XfCore :=
  { (c.anew tag).fed first input with run := some ⟨copy, b, if first then input.drop 131072 else [], []⟩ }
/-- What the walk engine does for a routine that calls it: bytes of one of the buffers go to the link's output, the next bytes of the window
come into one of the stream buffers, and two registers answer. Which, and how many, is open (log entry 91). -/
def XfCore.served (c : XfCore) (tag : Nat) (r : XfRun) : XfCore :=
  let k := Config.choice tag 1 % 5
  let p := Config.choice tag 2 % xfSpan k
  let n := Config.choice tag 3 % (xfSpan k - p + 1)
  let m := Config.choice tag 4 % 32769
  let c1 := if r.left.isEmpty then c else c.setBuffer (Config.choice tag 5 % 4) 0 (r.left.take m)
  { (c1.setReg 10 (Config.freeBits 64 tag 6)).setReg 11 (Config.freeBits 64 tag 7) with
      run := some { r with left := r.left.drop m, out := r.out ++ (List.range n).map fun i => (c.buffer k).getD (p + i) 0 } }
/-- The term xf of a promise (R218). -/
def chainCost : List (List Byte) → Nat → Nat
  | [], _ => 0
  | b :: rest, input => (input * routineCost (lkRoutine b) + 63) / 64 + chainCost rest (lkOut b)

/-- A routine that the transform core holds: a shipped one, or one of an image that XFLOAD has loaded (R216, R384). -/
def State.routineLoaded (s : State) (id : Nat) : Bool := s.routines.contains id
/-- The chain is malformed or names a routine that is not loaded (R203, R217): the number of the block. -/
def State.chainFault (s : State) : List (List Byte) → Nat → Nat → Option Nat
  | [], _, _ => none
  | b :: rest, n, input =>
    if (n == 7 && !lkLast b) || decide (1 < recF b 2 2) || (n != 0 && lkFirst b != 0) || lkOut b == 0 || (!lkLast b && decide (262144 < lkOut b))
        || !s.routineLoaded (lkRoutine b) || routineRejects b input then some n
    else s.chainFault rest (n + 1) (lkOut b)
/-- The blocks from an offset on, at most eight, or the window fault of one (R203). -/
def State.chainAt (s : State) (off : Nat) : Nat → Raise ⊕ List (List Byte)
  | 0 => .inr []
  | n + 1 =>
    match s.winFault off 64 with
    | some r => .inl r
    | none =>
      let b := s.spad off 64
      if lkLast b then .inr [b]
      else match s.chainAt (lkNext b) n with | .inl r => .inl r | .inr l => .inr (b :: l)

end Sys2Proof.Machine
end

