-- ==== Sys2Proof/Machine/CopyOps.lean ====
section
/-! DEFINITION. Copies (R197 to R218): window descriptors, the checks at issue, element accesses, completion. -/

namespace Sys2Proof.Machine

/-- The strides of a window descriptor (R197). -/
def wdT (d : BitVec 512) (k : Nat) : Nat := if k = 0 then 1 else bf d (120 + 32 * (k - 1)) 32
def wdP (d : BitVec 512) (k : Nat) : Nat := if k = 0 then wdEsz d else bf d (280 + 24 * (k - 1)) 24
def wdTgt (d : BitVec 512) : Nat := bf d 464 48
def wdLvl (d : BitVec 512) : Nat := bf d 461 3
def wdBar (d : BitVec 512) : Option Nat := if bf d 455 1 = 1 then some (bf d 451 4) else none

/-- The lowest field bit of a window descriptor that breaks R197. -/
def wdFault (d : BitVec 512) : Option Nat :=
  let n := wdDims d
  let dims := if n = 0 ∨ n = 7 then [] else List.range 6
  leastOf <|
    [failAt (bf d 400 45 != 0) 400, failAt (n == 0 || n == 7) 445, failAt (decide (4 ≤ bf d 448 3)) 448,
     failAt (bf d 455 1 == 0 && bf d 451 4 != 0) 451, failAt (bf d 456 5 != 0) 456]
    ++ dims.map (fun k => failAt (if k < n then wdExtent d k == 0 else wdExtent d k != 0) (20 * k))
    ++ dims.map (fun k => failAt (decide (n ≤ k) && k != 0 && wdT d k != 0) (120 + 32 * (k - 1)))
    ++ dims.map (fun k => failAt (decide (n ≤ k) && k != 0 && wdP d k != 0) (280 + 24 * (k - 1)))

/-- The sum over the dimensions of index times stride, for the element of an ordinal (R199). -/
def wdSum (d : BitVec 512) (stride : Nat → Nat) (ord : Nat) : Nat :=
  ((List.range (wdDims d)).foldl (fun (acc : Nat × Nat) k =>
    (acc.1 + acc.2 % wdExtent d k * stride k, acc.2 / wdExtent d k)) (0, ord)).1
def wdSpad (d : BitVec 512) (s ord : Nat) : Nat := s + wdSum d (wdP d) ord
def wdTens (d : BitVec 512) (o ord : Nat) : Nat := o + wdSum d (wdT d) ord
/-- The number of elements, and the end of the footprint of an extent under strides. -/
def wdCount (d : BitVec 512) : Nat := wdBytes d / wdEsz d
def wdLast (d : BitVec 512) (stride : Nat → Nat) : Nat :=
  (List.range (wdDims d)).foldl (fun acc k => acc + (wdExtent d k - 1) * stride k) 0
/-- The least place at or beyond a limit that the footprint of the elements moved covers (log entry 75); elements cover z places. -/
def wdBeyond (d : BitVec 512) (at_ : Nat → Nat) (moved : Nat → Bool) (last z limit : Nat) : Option Nat :=
  if last + z ≤ limit then none
  else leastOf ((List.range (wdCount d)).map fun k => failAt (moved k && decide (limit < at_ k + z)) (max limit (at_ k)))

def CopyKind.reads : CopyKind → Bool
  | .cpin | .cpmc | .cpga | .cpxf | .cflush => true
  | .cpout | .cpsc | .cpqo | .cpqf | .cpfl => false
def CopyKind.rows : CopyKind → Bool
  | .cpga | .cpsc => true
  | _ => false
/-- Copy-outs are held until a checkpoint (R204). -/
def CopyKind.out : CopyKind → Bool
  | .cpin | .cpga | .cpxf | .cflush => false
  | _ => true
/-- The copies whose scratchpad side is the task's own window. -/
def CopyKind.own : CopyKind → Bool
  | .cpin | .cpga | .cpout | .cpsc => true
  | _ => false

/-- The task on core n that belongs to the issuing task's group at a level (R202): the one that runs there, else one that is parked there;
a saved task is on no core. -/
def State.targetOn (s : State) (lvl n : Nat) : Option Task :=
  let l := (s.groupOf s.cur lvl).filter fun t => t.core == n
  match l.find? (·.status == .running) with
  | some t => some t
  | none => l.find? (·.status == .parked)
/-- The cores that a target mask names. -/
def targetCores (d : BitVec 512) : List Nat := (List.range 48).filter fun n => (wdTgt d).testBit n
def State.targetsOf (s : State) (d : BitVec 512) : List Task := (targetCores d).filterMap (s.targetOn (wdLvl d))

/-- The entries of an index list (R201). -/
def State.rowList (s : State) (d : BitVec 512) (sb : Nat) : List Nat := (List.range (wdExtent d 1)).map fun j => s.spadNat (sb + 4 * j) 4

/-- Step 1 of R203. `count` is the handle's range, none for an unbound one. -/
def State.copyDesc (s : State) (kind : CopyKind) (k sb : Nat) (range : Option Hold) : Option Raise :=
  let bad := fun reason w => some (s.raise 0x0D [16 + k, reason, w, s.slotNo])
  match (if kind = .cpxf then s.chainAt sb 8 else .inr []) with
  | .inl r => some r
  | .inr blocks =>
    match Store.get none s.cur.arch.wd k with
    | none => bad 1 0
    | some d =>
      match (if kind.rows then s.winFault sb (4 * wdExtent d 1) else none) with
      | some r => some r
      | none =>
        if kind.rows && wdDims d != 2 then bad 3 445
        else if kind.rows && decide (65536 < wdExtent d 1) then bad 3 20
        else
          let row := match range with
            | some h => if kind.rows then (s.rowList d sb).findIdx? fun x => x != 0xFFFFFFFF && decide (h.count < x * wdT d 1 + wdExtent d 0)
                        else none
            | none => none
          match row with
          | some j => bad 5 j
          | none =>
            let tg := if !kind.targeted then none
              else if kind = .cpmc ∧ wdTgt d = 0 ∨ kind = .cpqf ∧ (targetCores d).length ≠ 1 then some 464
              else if recLevels (s.launchRec s.cur) ≤ wdLvl d then some 461
              else ((targetCores d).find? fun n => (s.targetOn (wdLvl d) n).isNone).map (464 + ·)
            match tg with
            | some w => bad 7 w
            | none =>
              let size := match range with | some h => elemBytes (s.fmtOf h.id) | none => wdEsz d
              if kind != .cpqf && size != wdEsz d then bad 8 448
              else (s.chainFault blocks 0 (wdBytes d)).elim none (bad 9)

/-- Step 2 of R203: the windows, the targets' in the order of their cores (log entry 74). A row that CPSC leaves out is not read (R201). -/
def State.copyWin (s : State) (kind : CopyKind) (d : BitVec 512) (sa sb : Nat) : Option Raise :=
  let z := wdEsz d
  let idx := if kind = .cpsc then s.rowList d sb else []
  let inWin := fun (size who : Nat) =>
    (wdBeyond d (wdSpad d sa) (fun k => kind != .cpsc || idx.getD (k / wdExtent d 0) 0 != 0xFFFFFFFF) (sa + wdLast d (wdP d)) z size).map fun a => s.raise 4 [a, size, who, s.slotNo]
  if kind.own then inWin s.cur.hdr.window 0xFF
  else if kind.targeted then (s.targetsOf d).findSome? fun t => inWin t.hdr.window (if t.id = s.cur.id then 0xFF else t.core)
  else if kind = .cpxf then
    match s.chainAt sb 8 with
    | .inr bs => s.winFault sa (match bs.getLast? with | some b => lkOut b | none => 0)
    | .inl r => some r
  else none

/-- Outside-hold fault of R50 and R208. -/
def State.holdRaise (s : State) (h off reason : Nat) : Raise := s.raise 0x0B [h, off, reason, s.slotNo]
/-- Step 3 of R203; of several elements outside the range the record names the least offset (log entry 75). -/
def State.copyHold (s : State) (kind : CopyKind) (d : BitVec 512) (h o : Nat) : Option Raise :=
  if kind = .cpqf then none
  else
    match s.handleOf h with
    | none => some (s.holdRaise h o 1)
    | some b =>
      if !b.hold.mode.testBit (if kind.reads then 0 else 1) then some (s.holdRaise h o 2)
      else if kind.rows then none
      else (wdBeyond d (wdTens d o) (fun _ => true) (o + wdLast d (wdT d)) 1 b.hold.count).map fun x => s.holdRaise h x 3

/-- The element accesses of a copy (R199 to R201), by ordinal. `data` gives the bytes that a copy brings of its own. -/
def State.copyList (s : State) (kind : CopyKind) (d : BitVec 512) (sa sb o base : Nat) (data : Nat → List Byte) : List (Nat × Access) :=
  let z := wdEsz d
  let tens := fun k => base + z * wdTens d o k
  let idx := if kind.rows then s.rowList d sb else []
  let row := fun k => idx.getD (k / wdExtent d 0) 0xFFFFFFFF
  let item := fun k =>
    match kind with
    | .cpin | .cpout | .cpmc => (⟨some (tens k), some (wdSpad d sa k), []⟩ : Access)
    | .cpxf => ⟨some (tens k), none, []⟩
    | .cpqo | .cpfl => ⟨some (tens k), none, data k⟩
    | .cpqf => ⟨none, some (wdSpad d sa k), data k⟩
    | .cpga | .cpsc =>
      if row k = 0xFFFFFFFF then ⟨none, some (wdSpad d sa k), List.replicate z 0⟩
      else ⟨some (base + z * (row k * wdT d 1 + k % wdExtent d 0)), some (wdSpad d sa k), []⟩
    | .cflush => ⟨none, none, []⟩
  let all := (List.range (wdCount d)).map fun k => (k, item k)
  if kind = .cpsc then all.filter fun x => x.2.tens.isSome else all

/-- A copy names its token (R209). -/
def Token.add (k : Token) (id : Nat) : Token := if k.st = .pending then { k with copies := k.copies ++ [id] } else ⟨.pending, [id], 0⟩
/-- The latency term of a promise (R210, R244). -/
def CopyKind.lat : CopyKind → Nat
  | .cpmc => 1500
  | .cpqf => 600
  | _ => 1200

/-- A checked copy comes to be: a copy-in starts, a copy-out takes its place in the held queue (R204, R209). -/
def State.startCopy (s : State) (kind : CopyKind) (k : Nat) (hold : Hold) (cls esz bytes : Nat) (todo : List (Nat × Access))
    (targets : List Nat) (barrier : Option Nat) (chain : List (List Byte)) (dest : Nat) : State :=
  let id := s.nextCopy
  let c : Copy := { id := id, num := k, kind := kind, st := .held, task := s.cur.id, core := s.core, pos := s.ctx.pos
                    slot := s.slotNo, hold := hold, cls := cls, esz := esz, todo := todo, targets := targets, barrier := barrier
                    bytes := bytes, lat := kind.lat, xf := chainCost chain bytes, promise := 0, fresh := true, chain := chain, read := []
                    order := id, dest := dest, forkAt := 0, sent := [], links := 0 }
  let c := if kind.out then c else { c with promise := s.promiseOf c }
  let s := { s with copies := s.copies ++ [c], nextCopy := s.nextCopy + 1 }
  let s := s.arch fun a => a.setToken k ((a.token k).add id)
  if kind.out then { s with cur := { s.cur with heldq := s.cur.heldq ++ [⟨.copy id, s.ctx.pos⟩] } } else s.forkCopy c s.cur

/-- A frozen walk engine or transform core takes no copy (R370). -/
def State.copyFrozen (s : State) (kind : CopyKind) (k id o : Nat) : Option Raise :=
  let c := s.coreOf s.core
  if c.walkFrozen then some (s.raise 0x10 [id, o, 0, 0xFF])
  else if c.xfFrozen && kind == .cpxf then some (s.raise 0x0D [16 + k, 10, Config.freeNat s.free 0, s.slotNo])
  else none

/-- A copy that an error reaches raises its fault in its task (R207); `flags`: FROZEN where the error also froze a master (R364). -/
def State.copyEnd (s : State) (flags : Nat) (c : Copy) (cause : Nat) (words : List Nat) : State := s.faultWith flags c.task cause c.slot words c.pos
def State.copyFail (s : State) (c : Copy) (cause : Nat) (words : List Nat) : State := s.copyEnd 0 c cause words

/-- Bytes of a window as a copy reads them: where writes race with it, one of the values (R206, R274). -/
def State.copyRead (s : State) (c : Copy) (a n : Nat) : List Byte :=
  match s.taskOf c.task with
  | none => []
  | some t =>
    if t.races.alts.isEmpty && t.races.sources.isEmpty then t.win.read a n
    else (List.range n).map fun i =>
      let l := (t.races.live (a + i) (t.win.byte (a + i))).map (·.byte) ++ (t.races.sources.filter fun x => x.1 == c.id && x.2.1 == a + i).map (·.2.2)
      l.getD (Config.raced s.now (32 + c.id) (a + i) % l.length) 0

/-- Bytes put into a task's window by a copy, logged where the copy was issued in the current interval (R205). -/
def State.copyPut (s : State) (c : Copy) (task a : Nat) (bs : List Byte) : State :=
  match s.taskOf task with
  | none => s
  | some t =>
    if c.fresh ∧ !c.kind.targeted then
      let ls := linesOf a bs.length
      let n := t.undo.length + (t.newLines ls).length
      if 4096 < n then s.copyFail c 9 [1, t.undo.length, 4096, c.slot]
      else s.putTask ((t.log ls).put (some c.id) a bs)
    else s.putTask (t.put (some c.id) a bs)
/-- Bytes put into the windows of the targets whose gang stands (R202). -/
def State.copySpread (s : State) (c : Copy) (a : Nat) (bs : List Byte) : State :=
  c.targets.foldl (fun s id => match s.taskOf id with
    | some t => if s.brokenAny t then s else s.copyPut c id a bs
    | none => s) s

/-- The tile of a page that a write covers whole: the last of its bytes is still to be written by the copy (R326). -/
def Copy.covers (c : Copy) (lo : Nat) : Bool :=
  (List.range (256 / c.esz)).all fun j => c.todo.any fun x => x.2.tens == some (lo + j * c.esz)
/-- A tile written whole loses the code POISONED (R326, R311). -/
def State.healTile (s : State) (t : Tensor) (off : Nat) : State :=
  let e := t.entry (off / t.pageBytes)
  match s.page e with
  | none => s
  | some p =>
    if !p.bad.contains (tileOf (off % t.pageBytes)) then s
    else
      let s := s.setPage e { p with bad := p.bad.filter (· != tileOf (off % t.pageBytes)) }
      s.onSharers e fun t => { t with poison := t.poison - 1, st := if t.poison ≤ 1 ∧ t.st = .poisoned then s.summary t else t.st }

/-- The tensor side of one element access of a copy: what it reads, or what it writes. -/
def State.copyTensor (s : State) (c : Copy) (off : Nat) (write : Option (List Byte)) : State × List Byte × Bool :=
  let g := Agent.onStack (c.core / 12)
  match s.tensor c.hold.id with
  | none => ({ s with free := s.free + 1 }, (List.range c.esz).map fun i => Config.freeBits 8 s.free i, true)
  | some t =>
    match s.meet t off c.esz, write with
    | some m, none => (s.copyFail c m.cause m.words, [], false)
    | some m, some bs =>
      if m.cause = 0x0F ∧ c.covers (off / 256 * 256) then ((s.healTile t off).writeTensor g c.task (some c.id) t off bs, [], true)
      else (s.copyFail c m.cause m.words, [], false)
    | none, none => (s, s.tensorBytes g t off c.esz, true)
    | none, some bs => (s.writeTensor g c.task (some c.id) t off bs, [], true)
/-- One element access of a copy. -/
def State.copyStep (s : State) (c : Copy) (ord : Nat) (x : Access) : State :=
  if c.kind.reads then
    let r := match x.tens with | some off => s.copyTensor c off none | none => (s, x.data, true)
    if !r.2.2 then r.1
    else
      match c.kind, x.spad with
      | .cpxf, none => match r.1.copyOf c.id with
        | some c => r.1.setCopy { c with read := Store.put ord r.2.1 c.read }
        | none => r.1
      | .cpmc, some a => r.1.copySpread c a r.2.1
      | _, some a => r.1.copyPut c c.task a r.2.1
      | _, none => r.1
  else
    let bs := match x.spad, c.kind with
      | some _, .cpqf => x.data
      | some a, _ => s.copyRead c a c.esz
      | none, _ => x.data
    match x.tens, x.spad with
    | some off, _ => (s.copyTensor c off (some bs)).1
    | none, some a => s.copySpread c a bs
    | none, none => s
/-- Two copies of a task are ordered by their classes (R273). -/
def Copy.ordered (c d : Copy) : Bool :=
  c.task == d.task && c.hold.id == d.hold.id && (c.cls == d.cls || c.cls == 0 || d.cls == 0) && (!c.kind.reads || !d.kind.reads)
/-- A link of a chain has ended (R218): the next one reads its output, and that of the last is still to be written, byte by byte. -/
def State.linkDone (s : State) (c : Copy) (out : List Byte) : State :=
  match c.chain with
  | _ :: b :: rest => s.setCopy { c with chain := b :: rest, read := [(0, out)], links := c.links + 1 }
  | _ => s.setCopy { c with chain := [], read := [], todo := ((List.range out.length).zip out).map fun x => (x.1, ⟨none, some (c.dest + x.1), [x.2]⟩) }
/-- A link ends the copy with a transform routine error (R218). -/
def State.linkFails (s : State) (c : Copy) : State :=
  ({ s with free := s.free + 1 } : State).copyFail c 0x0D [16 + c.num, 10, Config.freeNat s.free 0, c.slot]
/-- The chain of a CPXF goes on once its window has been read, where the transform core is free (R218): its links one after another, a shipped
routine at once, up to one of another image, which the core runs from then on. -/
def State.chainGo (s : State) (id : Nat) : Nat → State
  | 0 => s
  | n + 1 =>
    match (s.copyOf id).filter fun (c : Copy) => c.st == .active && c.kind == .cpxf && c.todo.isEmpty with
    | none => s
    | some c =>
      let core := s.coreOf c.core
      match c.chain with
      | [] => s
      | b :: _ =>
        let input := (c.read.map (·.2)).flatten
        if core.xf.run.isSome then s
        else
          let with_ := fun (x : XfCore) => ({ s with free := s.free + 1 } : State).setCore c.core { core with xf := x }
          if shipped (lkRoutine b) then
            let s1 := with_ ((core.xf.anew s.free).fed (c.links == 0) input)
            match linkOut b (routineRun s.free b input) with
            | none => s1.linkFails c
            | some out => (s1.linkDone c out).chainGo id n
          else with_ (core.xf.start s.free c.id (c.links == 0) b input)
/-- An element access of an active copy, after those of earlier copies that come before it (R273) and the stores that come before its fork
(R272). -/
def State.copyAccess (s : State) (id ord : Nat) : Nat → State
  | 0 => s
  | fuel + 1 =>
    match s.copyOf id with
    | none => s
    | some c =>
      match (if c.st = .active then Store.look c.todo ord else none) with
      | none => s
      | some x =>
        let s := s.drainUpTo c.task c.forkAt
        let before := s.copies.filter fun b => b.st == .active && decide (b.order < c.order) && b.ordered c && x.tens.isSome
        let s := before.foldl (fun s b => (b.todo.filter fun y => y.2.tens == x.tens).foldl (fun s y => State.copyAccess s b.id y.1 fuel) s) s
        match s.copyOf id with
        | none => s
        | some c =>
          match Store.look c.todo ord with
          | none => s
          | some x =>
            let s := s.copyStep c ord x
            match s.copyOf id with
            | some c => let c := { c with todo := Store.del ord c.todo, sent := Store.del ord c.sent }; (s.setCopy c).chainGo id (c.chain.length + 1)
            | none => s

/-- A copy's credit to a task's barrier, and to the checkpointed one, which the copy survives a rollback of (R215). -/
def State.creditTask (s : State) (copy task b n : Nat) (both : Bool) : State :=
  match s.taskOf task with
  | none => s
  | some t =>
    let t := { t with races := t.races.mapFlows fun (f : Flow) => if f.copy = copy then { f with credited := true } else f }
    let sh := if both then t.shadow.setBarrier b (addCredit (t.shadow.barrier b) n) else t.shadow
    (s.putTask { t with arch := t.arch.setBarrier b (addCredit (t.arch.barrier b) n), shadow := sh }).testBarrier task b
/-- The accesses that a copy has not yet made. -/
def State.copyRest (s : State) (id : Nat) : State :=
  match s.copyOf id with
  | none => s
  | some c => (c.todo.map (·.1)).foldl (fun s o => s.copyAccess id o (s.copies.length + 1)) s
/-- A copy completes (R207, R209, R215): the accesses left, those of the output of a chain, the credit, the token. One
whose chain a transform core still runs does not complete yet. -/
def State.finishCopy (s : State) (id : Nat) : State :=
  match s.copyOf id with
  | none => s
  | some c =>
    if c.st ≠ .active then s
    else
      let s := (s.copyRest id).copyRest id
      match s.copyOf id with
      | none => s
      | some c =>
        if !c.chain.isEmpty then s
        else
          let s := s.setCopy { c with st := .done, todo := [], read := [] }
          let s := match (if c.kind = .cflush then s.tensor c.hold.id else none) with
            | some t => s.onLines (homeOf t.id) (t.linesOf c.dest c.bytes) fun _ => none
            | none => s
          let s := match c.barrier with
            | none => s
            | some b =>
              if c.kind.targeted then
                c.targets.foldl (fun s t => match s.taskOf t with
                  | some x => if s.brokenAny x then s else s.creditTask c.id t b c.bytes true
                  | none => s) s
              else s.creditTask c.id c.task b c.bytes (!c.fresh)
          match s.taskOf c.task with
          | some t => s.putTask { t with arch := s.tokensUp t.arch }
          | none => s

end Sys2Proof.Machine
end

