-- ==== Sys2Proof/Machine/Special.lean ====
section
/-! DEFINITION. The special functions of the F slot (R165 to R168). FRCP and FSQRT are exact divisions and roots rounded once.
The others are computed to some 300 bits; the delivered binary32 value is a free choice within the bound of R168 and the
monotonicity of R167. -/

namespace Sys2Proof.Machine

/-- The functions of R101. -/
inductive FOp | exp2 | exp | log2 | ln | rcp | rsq | sqrt | tanh | sigm | erf | sin | cos | gelu
  deriving DecidableEq, Repr

/-- The opcode of R101. -/
def FOp.code : FOp → Nat
  | .exp2 => 1 | .exp => 2 | .log2 => 3 | .ln => 4 | .rcp => 5 | .rsq => 6 | .sqrt => 7 | .tanh => 8 | .sigm => 9
  | .erf => 10 | .sin => 11 | .cos => 12 | .gelu => 13

/-- Fixed-point numbers with 512 fraction bits, rounded downwards: one, ln 2, π, 2/√π and 1/√2. -/
def fxOne : Int := 2 ^ 512
def fxLn2 : Int := 0xb17217f7d1cf79abc9e3b39803f2f6af40f343267298b62d8a0d175b8baafa2be7b876206debac98559552fb4afa1b10ed2eae35c138214427573b291169b825
def fxPi : Int := 0x3243f6a8885a308d313198a2e03707344a4093822299f31d0082efa98ec4e6c89452821e638d01377be5466cf34e90c6cc0ac29b7c97c50dd3f84d5b5b5470917
def fxTwoOverSqrtPi : Int := 0x120dd750429b6d11ae3a914fed7fd8688281341d7587cea2e7342b06199cc416180eb39f0b24e1e2281806c12d98f35d77a3e9ddc91c394f0e9eedf0efffd84a2
def fxSqrtHalf : Int := 0xb504f333f9de6484597d89b3754abe9f1d6f60ba893ba84ced17ac85833399154afc83043ab8a2c3a8b1fe6fdc83db390f74a85e439c7b4a780487363dfa2768

def fxMul (a b : Int) : Int := a * b / fxOne
def fxDiv (a b : Int) : Int := a * fxOne / b
/-- m * 2 ^ e in fixed point. -/
def fxOf (neg : Bool) (m : Nat) (e : Int) : Int :=
  let x : Int := (shiftExp m (e + 512) : Nat)
  if neg then -x else x
/-- A fixed-point number times 2 ^ k as an exact value. -/
def fxVal (x k : Int) : FVal := .fin (decide (x < 0)) x.natAbs (k - 512)

/-- e^f for 0 ≤ f < 1, by its series. -/
def fxExp (f : Int) : Int := (List.range 128).foldr (fun (n : Nat) (acc : Int) => fxOne + fxMul f acc / ((n : Int) + 1)) fxOne
/-- e^x as a pair y, k with e^x = y * 2^k. -/
def fxExpPair (x : Int) : Int × Int := let k := x / fxLn2; (fxExp (x - k * fxLn2), k)
/-- ln of m * 2 ^ -(log2 m), a number in [1, 2). -/
def fxLnFrac (m : Nat) : Int :=
  let f := fxOf false m (-(Nat.log2 m : Int))
  let t := fxDiv (f - fxOne) (f + fxOne)
  let t2 := fxMul t t
  2 * fxMul t ((List.range 176).foldr (fun (k : Nat) (acc : Int) => fxOne / (2 * (k : Int) + 1) + fxMul t2 acc) 0)
/-- erf z for 0 ≤ z < 12, by its series. -/
def fxErf (z : Int) : Int :=
  let z2 := fxMul z z
  let r := (List.range 900).foldl (fun (s : Int × Int) (n : Nat) => (-(fxMul s.1 z2) / (n + 1), s.2 + s.1 / (2 * n + 1))) (z, 0)
  fxMul fxTwoOverSqrtPi r.2
/-- x less the nearest multiple of 2π. -/
def fxReduce (x : Int) : Int :=
  let r := x % (2 * fxPi)
  if fxPi < r then r - 2 * fxPi else r
/-- The series of the sine and of the cosine, from their first term and the first divisor. -/
def fxTrig (first r : Int) (d : Nat) : Int :=
  let r2 := fxMul r r
  ((List.range 100).foldl (fun (s : Int × Int) (n : Nat) => (-(fxMul s.1 r2) / ((2 * n + d) * (2 * n + d + 1)), s.2 + s.1)) (first, 0)).2
/-- The integer square root of a number below 2 ^ 640. -/
def isqrt (n : Nat) : Nat :=
  (List.range 320).foldl (fun acc i => let c := acc + 2 ^ (319 - i); if c * c ≤ n then c else acc) 0

/-- 1/v with enough bits for one correct rounding: a last bit that stands for what the division leaves. -/
def rcpExact (n : Bool) (m : Nat) (e : Int) : FVal :=
  let k := Nat.log2 m + 80
  .fin n (2 * (2 ^ k / m) + (if 2 ^ k % m = 0 then 0 else 1)) (-e - k - 1)
/-- √v for v above zero, likewise. -/
def sqrtExact (m : Nat) (e : Int) : FVal :=
  let m1 := if e % 2 = 0 then m else 2 * m
  let e1 := if e % 2 = 0 then e else e - 1
  let r := isqrt (m1 * 2 ^ 120)
  .fin false (2 * r + (if r * r = m1 * 2 ^ 120 then 0 else 1)) (e1 / 2 - 61)

/-- The special sources of R166, for a source that is not NaN; none where the value is computed. -/
def fSpecial (op : FOp) (v : FVal) : Option (FVal × Flags) :=
  let bad : FVal × Flags := (.nan, Flags.nv)
  let one : FVal := .fin false 1 0
  match v with
  | .nan => some (.nan, 0)
  | .inf n =>
    match op, n with
    | .exp2, true | .exp, true | .sigm, true => some (.zero false, 0)
    | .exp2, false | .exp, false => some (.inf false, 0)
    | .log2, false | .ln, false | .sqrt, false | .gelu, false => some (.inf false, 0)
    | .log2, true | .ln, true | .rsq, true | .sqrt, true => some bad
    | .rcp, n => some (.zero n, 0)
    | .rsq, false => some (.zero false, 0)
    | .tanh, n | .erf, n => some (.fin n 1 0, 0)
    | .sigm, false => some (one, 0)
    | .sin, _ | .cos, _ => some bad
    | .gelu, true => some (.zero true, 0)
  | .fin n m _ =>
    if m = 0 then
      match op with
      | .exp2 | .exp | .cos => some (one, 0)
      | .log2 | .ln => some (.inf true, Flags.dz)
      | .rcp | .rsq => some (.inf n, Flags.dz)
      | .sqrt | .tanh | .erf | .sin | .gelu => some (.zero n, 0)
      | .sigm => some (.fin false 1 (-1), 0)
    else if n then
      match op with
      | .log2 | .ln | .rsq | .sqrt => some bad
      | _ => none
    else none

/-- t when the value is 2^t. -/
def pow2Of (n : Bool) (m : Nat) (e : Int) : Option Int :=
  if !n && m == 2 ^ Nat.log2 m then some (floorLog2 m e) else none

/-- The exact cases of R167 that the rounding of FRCP and FSQRT and the specials do not already give. -/
def fExact (op : FOp) (n : Bool) (m : Nat) (e : Int) : Option FVal :=
  match op with
  | .exp2 =>
    match roundInt m e n .rtz with
    | (a, true) => let t : Int := if n then -(a : Int) else a
      if -149 ≤ t ∧ t ≤ 127 then some (.fin false 1 t) else none
    | _ => none
  | .log2 => (pow2Of n m e).map FVal.ofInt
  | .ln => if pow2Of n m e = some 0 then some (.zero false) else none
  | .rsq => (pow2Of n m e).bind fun t => if t % 2 = 0 then some (.fin false 1 (-(t / 2))) else none
  | _ => none

/-- The number just below 1 that stands for a function that has all but reached it. -/
def nearOne (n : Bool) : FVal := .fin n (2 ^ 200 - 1) (-200)
/-- The result of a function on a finite nonzero source, within 2^−70 of an ulp and on its side of every binary32 value: FRCP and
FSQRT excepted. A magnitude that is far beyond binary32 in either direction stands for itself. -/
def fCompute (op : FOp) (n : Bool) (m : Nat) (e : Int) : FVal :=
  let big := decide (floorLog2 m e > 8)
  let x := fxOf n m e
  let a := fxOf false m e
  match op with
  | .exp2 => if big then .fin false 1 (if n then -700 else 700)
    else let k := x / fxOne; fxVal (fxExp (fxMul (x - k * fxOne) fxLn2)) k
  | .exp => if big then .fin false 1 (if n then -700 else 700) else fxVal (fxExpPair x).1 (fxExpPair x).2
  | .log2 => fxVal (floorLog2 m e * fxOne + fxDiv (fxLnFrac m) fxLn2) 0
  | .ln => fxVal (floorLog2 m e * fxLn2 + fxLnFrac m) 0
  | .rsq =>
    let m1 := if e % 2 = 0 then m else 2 * m
    let e1 := if e % 2 = 0 then e else e - 1
    .fin false (isqrt (2 ^ 600 / m1)) (-(e1 / 2) - 300)
  | .tanh =>
    if decide (floorLog2 m e > 4) then nearOne n
    else
      match fxExpPair (2 * x) with
      | (y, k) => let u := fxOf false y.natAbs (k - 512); fxVal (fxDiv (u - fxOne) (u + fxOne)) 0
  | .sigm =>
    if big then (if n then .fin false 1 (-700) else nearOne false)
    else
      match fxExpPair (-a) with
      | (y, k) =>
        let d := fxOne + fxOf false y.natAbs (k - 512)
        if n then fxVal (fxDiv y d) k else fxVal (fxDiv fxOne d) 0
  | .erf => if decide (floorLog2 m e > 2) then nearOne n else fxVal (if n then -(fxErf a) else fxErf a) 0
  | .sin => let r := fxReduce x; fxVal (fxTrig r r 2) 0
  | .cos => fxVal (fxTrig fxOne (fxReduce x) 1) 0
  | .gelu =>
    if decide (floorLog2 m e > 3) then (if n then .fin true 1 (-700) else .fin false (m * 2 ^ 190 - 1) (e - 190))
    else
      let g := fxErf (fxMul a fxSqrtHalf)
      if n then fxVal (-(fxMul a (fxOne - g)) / 2) 0 else fxVal (fxMul a (fxOne + g) / 2) 0
  | .rcp | .sqrt => .fin n m e

/-- The factor b of R168, in units of the last place. -/
def FOp.bound : FOp → Nat
  | .exp2 | .log2 | .rsq => 1
  | .gelu => 4
  | _ => 2

/-- The delivered value z is within the bound of R168 of the exact result y. `far`: FSIN or FCOS of a source beyond 2^15·π. -/
def fWithin (op : FOp) (far : Bool) (y z : FVal) : Bool :=
  match y, FVal.add .rne z y.negate with
  | .fin _ m e, (.fin _ dm de, _) =>
    if far then !(magGt dm de 1 (-12)) && (match z with | .fin _ zm ze => !(magGt zm ze 1 0) | _ => false)
    else
      let u := max (if m = 0 then -126 else floorLog2 m e) (-126) - 23
      !(magGt dm de op.bound u)
  | _, _ => false

/-- The binary32 value that the device takes for a source inside the range (R168); the nearest one where its own choice lies outside the
bound, or where the choices are not `kept`. -/
def fTaken (op : FOp) (kept : Unit → Bool) (m : Nat) (e : Int) (bits : Nat) (y : FVal) : FVal :=
  let far := (op == .sin || op == .cos) && decide (2 ^ 15 * fxPi < fxOf false m e)
  let z := Fmt.fp32.decode (Config.fPick op.code bits % 2 ^ 32)
  if fWithin op far y z && kept () then z else (roundTo .fp32 y .rne).1
/-- The binary32 value r of R165 for a source read under DAZ, whose binary32 bits are `bits`, and its flags. `kept`: the device's choices for
the function keep R167. FRCP of a negative source raises NX whatever it delivers: R167 names the positive powers of two alone. -/
def fDeliverOf (op : FOp) (kept : Unit → Bool) (t : Tctl) (v : FVal) (bits : Nat) : FVal × Flags :=
  match fSpecial op v with
  | some r => r
  | none =>
    match v with
    | .fin n m e =>
      match op with
      | .rcp => match roundTo .fp32 (rcpExact n m e) t.rm with | (r, fl) => (r, if n then fl ||| Flags.nx else fl)
      | .sqrt => roundTo .fp32 (sqrtExact m e) t.rm
      | _ =>
        match fExact op n m e with
        | some r => (r, 0)
        | none =>
          match fCompute op n m e with
          | .fin yn ym ye =>
            if magGt ym ye Fmt.fp32.maxfin.1 Fmt.fp32.maxfin.2 then
              (overflowValue .fp32 yn t.rm, Flags.ovf ||| Flags.nx)
            else (fTaken op kept m e bits (.fin yn ym ye), Flags.nx)
          | y => (y, 0)
    | _ => (v, 0)

/-- x is at or below y, neither being NaN. -/
def FVal.atMost (x y : FVal) : Bool :=
  match x, y with
  | .nan, _ | _, .nan => false
  | .inf true, _ | _, .inf false => true
  | .inf false, _ | _, .inf true => false
  | .fin a m e, .fin b n f =>
    if m = 0 ∧ n = 0 then true
    else match a && m != 0, b && n != 0 with
      | true, false => true
      | false, true => false
      | false, false => !(magGt m e n f)
      | true, true => !(magGt n f m e)
/-- A function that R167 calls monotonic and whose values are a choice. -/
def FOp.monotone : FOp → Bool
  | .exp2 | .exp | .log2 | .ln | .tanh | .sigm | .erf | .rsq => true
  | .rcp | .sqrt | .sin | .cos | .gelu => false
/-- The choices for two binary32 sources stand in the order that R167 demands. -/
def fOrdered (op : FOp) (a b : Nat) : Bool :=
  let r := fun (x : Nat) => (fDeliverOf op (fun _ => true) 0 (Fmt.fp32.decode x) x).1
  let free := !((Fmt.fp32.decode a).atMost (Fmt.fp32.decode b)) || (r a).isNan || (r b).isNan
  if op = .rsq then free || decide (2 ^ 31 ≤ a) || decide (2 ^ 31 ≤ b) || (r b).atMost (r a) else free || (r a).atMost (r b)
/-- The device's choices for a function keep the monotonicity of R167 over all binary32 sources: non-increasing for FRSQ over the
positive sources, non-decreasing for the others. -/
def fKept (op : FOp) : Bool :=
  (List.range (2 ^ 32)).all fun a => (List.range (2 ^ 32)).all (fOrdered op a)
/-- The binary32 value r of R165, and its flags: the device's choices where they keep R167. -/
def fDeliver (op : FOp) (t : Tctl) (v : FVal) (bits : Nat) : FVal × Flags :=
  fDeliverOf op (fun _ => !op.monotone || fKept op) t v bits

/-- A result whose rounded value is nonzero and below the smallest normal number (R78). -/
def isTiny : FVal → Bool
  | .fin _ m e => tiny m e
  | _ => false

/-- The element that an F operation writes, and its flags (R165): underflow is judged in the destination (R78). -/
def fElem (op : FOp) (bf : Bool) (t : Tctl) (x : Nat) : Nat × Flags :=
  let bits := if bf then x * 2 ^ 16 else x
  let v := srcF .fp32 t bits
  match fDeliver op t v (bitsOf .fp32 v) with
  | (r, fl) =>
    let fm := if bf then Fmt.bf16 else Fmt.fp32
    let fl := if bf then fl &&& ~~~Flags.uf else fl
    let big := fl &&& Flags.ovf != 0
    let r1 := if bf && big then FVal.fin r.isNeg 1 200 else r
    match encodeF fm t r1 with
    | (b, f2) =>
      let all := fl ||| f2
      (b, if all &&& Flags.nx != 0 && isTiny (roundTo fm r1 t.rm).1 then all ||| Flags.uf else all)

/-- An F operation on a register (R165). -/
def fMap (op : FOp) (t : Tctl) (f : FMode) (p : PWord) (a : VWord) : VRes :=
  let e := if f.bf then 16 else 32
  vmap e (elemCount f.w e) p f.zero fun i => fElem op f.bf t (elem a e i)

end Sys2Proof.Machine
end

