-- ==== Sys2Proof/Machine/Vector.lean ====
section
/-! DEFINITION. The meanings of the vector and special-function operations (R136 to R168). -/

namespace Sys2Proof.Machine

/-- A vector result on its way. -/
def State.putV (s : State) (vd : Nat) (r : VRes) (bound : Nat) : Host.Outcome State Fault Refusal := (s.emitV vd r bound).ran
def State.putP (s : State) (pd : Nat) (r : PRes) (bound : Nat) : Host.Outcome State Fault Refusal := (s.emitP pd r bound).ran
/-- The bound of an operation whose bound depends on the element type (R100). -/
def boundOf (f : VMode) (i fl : Nat) : Nat := if f.et.isInt then i else fl

/-- VADD (R139, R140). -/
def execVadd (f : VMode) (vd va vb : Nat) (s : State) : Host.Outcome State Fault Refusal :=
  s.putV vd (vAdd s.tctl f (s.rdP f.pg) (s.rdV va) (s.rdV vb)) (boundOf f 2 4)
/-- VSUB (R139, R140). -/
def execVsub (f : VMode) (vd va vb : Nat) (s : State) : Host.Outcome State Fault Refusal :=
  s.putV vd (vSub s.tctl f (s.rdP f.pg) (s.rdV va) (s.rdV vb)) (boundOf f 2 4)
/-- VMUL (R139, R140). -/
def execVmul (f : VMode) (vd va vb : Nat) (s : State) : Host.Outcome State Fault Refusal :=
  s.putV vd (vMul s.tctl f (s.rdP f.pg) (s.rdV va) (s.rdV vb)) 4
/-- VMULH (R139, R140). -/
def execVmulh (f : VMode) (vd va vb : Nat) (s : State) : Host.Outcome State Fault Refusal :=
  s.putV vd (vMulh s.tctl f (s.rdP f.pg) (s.rdV va) (s.rdV vb)) 4
/-- VFMA (R139, R140): reads its destination. -/
def execVfma (f : VMode) (vd va vb : Nat) (s : State) : Host.Outcome State Fault Refusal :=
  s.putV vd (vFused false s.tctl f (s.rdP f.pg) (s.rdV va) (s.rdV vb) (s.rdV vd)) 4
/-- VFMS (R139, R140): reads its destination. -/
def execVfms (f : VMode) (vd va vb : Nat) (s : State) : Host.Outcome State Fault Refusal :=
  s.putV vd (vFused true s.tctl f (s.rdP f.pg) (s.rdV va) (s.rdV vb) (s.rdV vd)) 4
/-- VMIN (R139, R140). -/
def execVmin (f : VMode) (vd va vb : Nat) (s : State) : Host.Outcome State Fault Refusal :=
  s.putV vd (vMin s.tctl f (s.rdP f.pg) (s.rdV va) (s.rdV vb)) 2
/-- VMAX (R139, R140). -/
def execVmax (f : VMode) (vd va vb : Nat) (s : State) : Host.Outcome State Fault Refusal :=
  s.putV vd (vMax s.tctl f (s.rdP f.pg) (s.rdV va) (s.rdV vb)) 2
/-- VABS (R139, R140). -/
def execVabs (f : VMode) (vd va : Nat) (s : State) : Host.Outcome State Fault Refusal :=
  s.putV vd (vAbs f (s.rdP f.pg) (s.rdV va)) 2
/-- VNEG (R139, R140). -/
def execVneg (f : VMode) (vd va : Nat) (s : State) : Host.Outcome State Fault Refusal :=
  s.putV vd (vNeg f (s.rdP f.pg) (s.rdV va)) 2
/-- VADDS (R139, R140). -/
def execVadds (f : VMode) (vd va vb : Nat) (s : State) : Host.Outcome State Fault Refusal :=
  s.putV vd (vAdds s.tctl f (s.rdP f.pg) (s.rdV va) (s.rdV vb)) 2
/-- VSUBS (R139, R140). -/
def execVsubs (f : VMode) (vd va vb : Nat) (s : State) : Host.Outcome State Fault Refusal :=
  s.putV vd (vSubs s.tctl f (s.rdP f.pg) (s.rdV va) (s.rdV vb)) 2
/-- VAVG (R139, R140). -/
def execVavg (f : VMode) (vd va vb : Nat) (s : State) : Host.Outcome State Fault Refusal :=
  s.putV vd (vAvg s.tctl f (s.rdP f.pg) (s.rdV va) (s.rdV vb)) 2
/-- VAND (R141). -/
def execVand (f : VMode) (vd va vb : Nat) (s : State) : Host.Outcome State Fault Refusal :=
  s.putV vd (vAnd f (s.rdP f.pg) (s.rdV va) (s.rdV vb)) 2
/-- VOR (R141). -/
def execVor (f : VMode) (vd va vb : Nat) (s : State) : Host.Outcome State Fault Refusal :=
  s.putV vd (vOr f (s.rdP f.pg) (s.rdV va) (s.rdV vb)) 2
/-- VXOR (R141). -/
def execVxor (f : VMode) (vd va vb : Nat) (s : State) : Host.Outcome State Fault Refusal :=
  s.putV vd (vXor f (s.rdP f.pg) (s.rdV va) (s.rdV vb)) 2
/-- VANDN (R141). -/
def execVandn (f : VMode) (vd va vb : Nat) (s : State) : Host.Outcome State Fault Refusal :=
  s.putV vd (vAndn f (s.rdP f.pg) (s.rdV va) (s.rdV vb)) 2
/-- VNOT (R141). -/
def execVnot (f : VMode) (vd va : Nat) (s : State) : Host.Outcome State Fault Refusal :=
  s.putV vd (vNot f (s.rdP f.pg) (s.rdV va)) 2
/-- VSHL (R142). -/
def execVshl (f : VMode) (vd va vb : Nat) (s : State) : Host.Outcome State Fault Refusal :=
  s.putV vd (vShl f (s.rdP f.pg) (s.rdV va) (s.rdV vb)) 2
/-- VSHR (R142). -/
def execVshr (f : VMode) (vd va vb : Nat) (s : State) : Host.Outcome State Fault Refusal :=
  s.putV vd (vShr f (s.rdP f.pg) (s.rdV va) (s.rdV vb)) 2
/-- VSRA (R142). -/
def execVsra (f : VMode) (vd va vb : Nat) (s : State) : Host.Outcome State Fault Refusal :=
  s.putV vd (vSra f (s.rdP f.pg) (s.rdV va) (s.rdV vb)) 2
/-- VCLZ (R142). -/
def execVclz (f : VMode) (vd va : Nat) (s : State) : Host.Outcome State Fault Refusal :=
  s.putV vd (vClz f (s.rdP f.pg) (s.rdV va)) 2
/-- VPOPC (R142). -/
def execVpopc (f : VMode) (vd va : Nat) (s : State) : Host.Outcome State Fault Refusal :=
  s.putV vd (vPopc f (s.rdP f.pg) (s.rdV va)) 2
/-- VCMP (R143). -/
def execVcmp (wid : Width) (pg : Nat) (et : ET) (cc : FCond) (pd va vb : Nat) (s : State) : Host.Outcome State Fault Refusal :=
  s.putP pd (vCmp s.tctl wid (s.rdP pg) et cc (s.rdV va) (s.rdV vb)) 2
/-- VSEL (R144). -/
def execVsel (wid : Width) (pg : Nat) (et : ET) (vd va vb : Nat) (s : State) : Host.Outcome State Fault Refusal :=
  s.putV vd (vSel wid (s.rdP pg) et (s.rdV va) (s.rdV vb)) 2
/-- VCLASS (R145). -/
def execVclass (f : VMode) (vd va : Nat) (s : State) : Host.Outcome State Fault Refusal :=
  s.putV vd (vClass f (s.rdP f.pg) (s.rdV va)) 2
/-- VCVT (R146). -/
def execVcvt (f : VMode) (src : ET) (vd va : Nat) (s : State) : Host.Outcome State Fault Refusal :=
  s.putV vd (vConvert s.tctl false f src (s.rdP f.pg) (s.rdV va)) 4
/-- VCVTS (R146). -/
def execVcvts (f : VMode) (src : ET) (vd va : Nat) (s : State) : Host.Outcome State Fault Refusal :=
  s.putV vd (vConvert s.tctl true f src (s.rdP f.pg) (s.rdV va)) 4
/-- VPACK (R147). -/
def execVpack (f : VMode) (vd va vb : Nat) (s : State) : Host.Outcome State Fault Refusal :=
  s.putV vd (vPack s.tctl f (s.rdP f.pg) (s.rdV va) (s.rdV vb)) 4
/-- VUNPK (R148). -/
def execVunpk (f : VMode) (vd va : Nat) (half : Bool) (s : State) : Host.Outcome State Fault Refusal :=
  s.putV vd (vUnpk s.tctl f (s.rdP f.pg) (s.rdV va) half) 4
/-- VSCL (R149). -/
def execVscl (f : VMode) (vd va sb : Nat) (s : State) : Host.Outcome State Fault Refusal :=
  s.putV vd (vScl s.tctl f (s.rdP f.pg) (s.rdV va) (s.rdS sb)) 4
/-- VRND (R150). -/
def execVrnd (f : VMode) (vd va : Nat) (s : State) : Host.Outcome State Fault Refusal :=
  s.putV vd (vRnd s.tctl f (s.rdP f.pg) (s.rdV va)) 4
/-- VADDI (R151). -/
def execVaddi (f : VMode) (vd va : Nat) (imm : Int) (s : State) : Host.Outcome State Fault Refusal :=
  s.putV vd (vImm f (s.rdP f.pg) (s.rdV va) imm (· + ·)) 2
/-- VMULI (R151). -/
def execVmuli (f : VMode) (vd va : Nat) (imm : Int) (s : State) : Host.Outcome State Fault Refusal :=
  s.putV vd (vImm f (s.rdP f.pg) (s.rdV va) imm (· * ·)) 4
/-- VSHLI (R151). -/
def execVshli (f : VMode) (vd va n : Nat) (s : State) : Host.Outcome State Fault Refusal :=
  s.putV vd (bits1 f (s.rdP f.pg) (s.rdV va) fun x => shlN x n f.et.bits) 2
/-- VSHRI (R151). -/
def execVshri (f : VMode) (vd va n : Nat) (s : State) : Host.Outcome State Fault Refusal :=
  s.putV vd (bits1 f (s.rdP f.pg) (s.rdV va) fun x => shrN x n f.et.bits) 2
/-- VSRAI (R151). -/
def execVsrai (f : VMode) (vd va n : Nat) (s : State) : Host.Outcome State Fault Refusal :=
  s.putV vd (bits1 f (s.rdP f.pg) (s.rdV va) fun x => sraN x n f.et.bits) 2
/-- VANDI (R151). -/
def execVandi (f : VMode) (vd va : Nat) (imm : Int) (s : State) : Host.Outcome State Fault Refusal :=
  s.putV vd (vAndi f (s.rdP f.pg) (s.rdV va) imm) 2
/-- VBC (R151). -/
def execVbc (f : VMode) (vd sb : Nat) (s : State) : Host.Outcome State Fault Refusal :=
  s.putV vd (vBc f (s.rdP f.pg) (s.rdS sb)) 2
/-- VLDI (R151). -/
def execVldi (f : VMode) (vd : Nat) (imm : Int) (s : State) : Host.Outcome State Fault Refusal :=
  s.putV vd (vLdi f (s.rdP f.pg) imm) 2
/-- VPERM (R152, R153). -/
def execVperm (f : VMode) (vd va vb : Nat) (s : State) : Host.Outcome State Fault Refusal :=
  s.putV vd (vPerm f (s.rdP f.pg) (s.rdV va) (s.rdV vb)) 6
/-- VROT (R152, R153). -/
def execVrot (f : VMode) (vd va sb : Nat) (s : State) : Host.Outcome State Fault Refusal :=
  s.putV vd (vRot f (s.rdP f.pg) (s.rdV va) (s.rdS sb)) 6
/-- VSLD (R152, R153). -/
def execVsld (f : VMode) (vd va sb : Nat) (s : State) : Host.Outcome State Fault Refusal :=
  s.putV vd (vSld f (s.rdP f.pg) (s.rdV va) (s.rdS sb)) 6
/-- VEXT (R154). -/
def execVext (f : VMode) (sd va sb : Nat) (s : State) : Host.Outcome State Fault Refusal :=
  (s.emitS sd (vExt f (s.rdP f.pg) (s.rdV va) (s.rdS sb)) 6 0).ran
/-- VINS (R152, R153). -/
def execVins (f : VMode) (vd sa sb : Nat) (s : State) : Host.Outcome State Fault Refusal :=
  s.putV vd (vIns f (s.rdP f.pg) (s.rdS sa) (s.rdS sb)) 6
/-- VIOTA (R155). -/
def execViota (f : VMode) (vd : Nat) (s : State) : Host.Outcome State Fault Refusal :=
  s.putV vd (vIota f (s.rdP f.pg)) 6
/-- VCMPR (R155). -/
def execVcmpr (f : VMode) (vd va : Nat) (s : State) : Host.Outcome State Fault Refusal :=
  s.putV vd (vCmpr f (s.rdP f.pg) (s.rdV va)) 6
/-- VXPND (R155). -/
def execVxpnd (f : VMode) (vd va : Nat) (s : State) : Host.Outcome State Fault Refusal :=
  s.putV vd (vXpnd f (s.rdP f.pg) (s.rdV va)) 6
/-- VRADD (R156). -/
def execVradd (f : VMode) (vd va : Nat) (s : State) : Host.Outcome State Fault Refusal :=
  s.putV vd (vRadd s.tctl f (s.rdP f.pg) (s.rdV va)) 8
/-- VRMAX (R156). -/
def execVrmax (f : VMode) (vd va : Nat) (s : State) : Host.Outcome State Fault Refusal :=
  s.putV vd (vRmax s.tctl f (s.rdP f.pg) (s.rdV va)) 8
/-- VRMIN (R156). -/
def execVrmin (f : VMode) (vd va : Nat) (s : State) : Host.Outcome State Fault Refusal :=
  s.putV vd (vRmin s.tctl f (s.rdP f.pg) (s.rdV va)) 8
/-- VDOT (R157). -/
def execVdot (f : VMode) (vd va vb : Nat) (s : State) : Host.Outcome State Fault Refusal :=
  s.putV vd (vDot s.tctl f (s.rdP f.pg) (s.rdV va) (s.rdV vb)) 8
/-- PAND (R158). -/
def execPand (pd pa pb : Nat) (s : State) : Host.Outcome State Fault Refusal :=
  s.putP pd ⟨s.rdP pa &&& s.rdP pb, BitVec.allOnes 128⟩ 2
/-- POR (R158). -/
def execPor (pd pa pb : Nat) (s : State) : Host.Outcome State Fault Refusal :=
  s.putP pd ⟨s.rdP pa ||| s.rdP pb, BitVec.allOnes 128⟩ 2
/-- PXOR (R158). -/
def execPxor (pd pa pb : Nat) (s : State) : Host.Outcome State Fault Refusal :=
  s.putP pd ⟨s.rdP pa ^^^ s.rdP pb, BitVec.allOnes 128⟩ 2
/-- PNOT (R158). -/
def execPnot (pd pa : Nat) (s : State) : Host.Outcome State Fault Refusal :=
  s.putP pd ⟨~~~s.rdP pa, BitVec.allOnes 128⟩ 2
/-- PFIRST (R159). -/
def execPfirst (wid : Width) (et : ET) (pd pa : Nat) (s : State) : Host.Outcome State Fault Refusal :=
  s.putP pd (pFirst wid et (s.rdP pa)) 2
/-- PCNT (R159). -/
def execPcnt (wid : Width) (et : ET) (sd pa : Nat) (s : State) : Host.Outcome State Fault Refusal :=
  (s.emitS sd (pCnt wid et (s.rdP pa)) 2 0).ran
/-- PLEN (R159). -/
def execPlen (wid : Width) (et : ET) (pd sb : Nat) (s : State) : Host.Outcome State Fault Refusal :=
  s.putP pd (pLen wid et (s.rdS sb)) 2
/-- VPLN (R160). -/
def execVpln (f : VMode) (vd va p : Nat) (s : State) : Host.Outcome State Fault Refusal :=
  s.putV vd (vPln f p (s.rdP f.pg) (s.rdV va)) 6
/-- VUPLN (R161). -/
def execVupln (f : VMode) (vd va p : Nat) (s : State) : Host.Outcome State Fault Refusal :=
  s.putV vd (vUpln f p (s.rdP f.pg) (s.rdV va)) 6
/-- VBSC (R162). -/
def execVbsc (f : VMode) (vd va : Nat) (s : State) : Host.Outcome State Fault Refusal :=
  s.putV vd (vBsc s.tctl f (s.rdP f.pg) (s.rdV va)) 6
/-- Bytes asked of a result queue (R191, R163): an underflow, a stall while promised bytes have not landed, or the bytes. -/
inductive Popped
  | under (r : Raise)
  | stall
  | bytes (l : List Byte)
def State.popOf (s : State) (rq n : Nat) : Popped :=
  let q := s.cur.arch.queue rq
  if q.occ < n then .under (s.raise 6 [rq, n, q.occ, 0])
  else if q.data.length < n then .stall
  else .bytes (q.data.take n)
/-- Bytes taken out of a result queue. -/
def State.popQueue (s : State) (rq n : Nat) : State := s.arch fun a => a.setQueue rq ((a.queue rq).pop n)
/-- VPOP (R163, R164): the next bytes of a queue, an inactive element's discarded. -/
def execVpop (f : VMode) (vd rq : Nat) (s : State) : Host.Outcome State Fault Refusal :=
  match s.popOf rq f.w.bytes with
  | .under r => s.raised r
  | .stall => s.hold
  | .bytes l =>
    (s.popQueue rq f.w.bytes).putV vd (vmapF f (s.rdP f.pg) fun i => (leNat ((l.drop (f.et.bits / 8 * i)).take (f.et.bits / 8)), 0)) 4
/-- FEXP2 (R165 to R168). -/
def execFexp2 (f : FMode) (vd va : Nat) (s : State) : Host.Outcome State Fault Refusal :=
  s.putV vd (fMap .exp2 s.tctl f (s.rdP f.pg) (s.rdV va)) 8
/-- FEXP (R165 to R168). -/
def execFexp (f : FMode) (vd va : Nat) (s : State) : Host.Outcome State Fault Refusal :=
  s.putV vd (fMap .exp s.tctl f (s.rdP f.pg) (s.rdV va)) 8
/-- FLOG2 (R165 to R168). -/
def execFlog2 (f : FMode) (vd va : Nat) (s : State) : Host.Outcome State Fault Refusal :=
  s.putV vd (fMap .log2 s.tctl f (s.rdP f.pg) (s.rdV va)) 8
/-- FLN (R165 to R168). -/
def execFln (f : FMode) (vd va : Nat) (s : State) : Host.Outcome State Fault Refusal :=
  s.putV vd (fMap .ln s.tctl f (s.rdP f.pg) (s.rdV va)) 8
/-- FRCP (R165 to R168). -/
def execFrcp (f : FMode) (vd va : Nat) (s : State) : Host.Outcome State Fault Refusal :=
  s.putV vd (fMap .rcp s.tctl f (s.rdP f.pg) (s.rdV va)) 8
/-- FRSQ (R165 to R168). -/
def execFrsq (f : FMode) (vd va : Nat) (s : State) : Host.Outcome State Fault Refusal :=
  s.putV vd (fMap .rsq s.tctl f (s.rdP f.pg) (s.rdV va)) 8
/-- FSQRT (R165 to R168). -/
def execFsqrt (f : FMode) (vd va : Nat) (s : State) : Host.Outcome State Fault Refusal :=
  s.putV vd (fMap .sqrt s.tctl f (s.rdP f.pg) (s.rdV va)) 8
/-- FTANH (R165 to R168). -/
def execFtanh (f : FMode) (vd va : Nat) (s : State) : Host.Outcome State Fault Refusal :=
  s.putV vd (fMap .tanh s.tctl f (s.rdP f.pg) (s.rdV va)) 8
/-- FSIGM (R165 to R168). -/
def execFsigm (f : FMode) (vd va : Nat) (s : State) : Host.Outcome State Fault Refusal :=
  s.putV vd (fMap .sigm s.tctl f (s.rdP f.pg) (s.rdV va)) 8
/-- FERF (R165 to R168). -/
def execFerf (f : FMode) (vd va : Nat) (s : State) : Host.Outcome State Fault Refusal :=
  s.putV vd (fMap .erf s.tctl f (s.rdP f.pg) (s.rdV va)) 12
/-- FSIN (R165 to R168). -/
def execFsin (f : FMode) (vd va : Nat) (s : State) : Host.Outcome State Fault Refusal :=
  s.putV vd (fMap .sin s.tctl f (s.rdP f.pg) (s.rdV va)) 12
/-- FCOS (R165 to R168). -/
def execFcos (f : FMode) (vd va : Nat) (s : State) : Host.Outcome State Fault Refusal :=
  s.putV vd (fMap .cos s.tctl f (s.rdP f.pg) (s.rdV va)) 12
/-- FGELU (R165 to R168). -/
def execFgelu (f : FMode) (vd va : Nat) (s : State) : Host.Outcome State Fault Refusal :=
  s.putV vd (fMap .gelu s.tctl f (s.rdP f.pg) (s.rdV va)) 12

end Sys2Proof.Machine
end

