-- ==== Sys2Proof/Machine/Copy.lean ====
section
/-! DEFINITION. The meanings of the operations of C0 and C1: scratchpad accesses, copies, tokens, single-element accesses,
fences and barriers (R193 to R215, R220 to R228, R244). -/

namespace Sys2Proof.Machine

/-- A scratchpad address: a scalar register and a byte offset, summed without wrap (R53). -/
def State.spadAt (s : State) (sa off : Nat) : Nat := (s.rdS sa).toNat + off
/-- The checks of a load of n bytes. -/
def State.loadAt (s : State) (g : Guard) (a n : Nat) (k : List Byte → State) : Host.Outcome State Fault Refusal :=
  s.under g (match s.winFault a n with | some r => s.raised r | none => (k (s.spad a n)).ran)
/-- The checks of a store (R193, R254), and the store. -/
def State.storeAt (s : State) (g : Guard) (a : Nat) (bs : List Byte) : Host.Outcome State Fault Refusal :=
  s.under g (match s.winFault a bs.length with
    | some r => s.raised r
    | none => match s.logFault (linesOf a bs.length) with
      | some r => s.raised r
      | none => (s.store a bs).ran)

/-- LDV (R194). -/
def execLdv (g : Guard) (vd sa imm : Nat) (s : State) : Host.Outcome State Fault Refusal :=
  s.loadAt g (s.spadAt sa (128 * imm)) 128 fun bs => s.emitV vd ⟨BitVec.ofNat 1024 (leNat bs), BitVec.allOnes 128, 0⟩ 6
/-- STV (R194). -/
def execStv (g : Guard) (vd sa imm : Nat) (s : State) : Host.Outcome State Fault Refusal :=
  s.storeAt g (s.spadAt sa (128 * imm)) (vBytes (s.rdV vd) 0 128)
/-- LDS of the scratchpad (R194). -/
def execLds (g : Guard) (sd sa imm : Nat) (s : State) : Host.Outcome State Fault Refusal :=
  s.loadAt g (s.spadAt sa imm) 8 fun bs => s.emitS sd (wordN (leNat bs)) 6 0
/-- STS (R194). -/
def execSts (g : Guard) (sd sa imm : Nat) (s : State) : Host.Outcome State Fault Refusal :=
  s.storeAt g (s.spadAt sa imm) (leBytes (s.rdS sd).toNat 8)
/-- LDP (R194). -/
def execLdp (g : Guard) (pd sa imm : Nat) (s : State) : Host.Outcome State Fault Refusal :=
  s.loadAt g (s.spadAt sa (128 * imm)) 16 fun bs => s.emitP pd ⟨BitVec.ofNat 128 (leNat bs), BitVec.allOnes 128⟩ 6
/-- STP (R194). -/
def execStp (g : Guard) (pd sa imm : Nat) (s : State) : Host.Outcome State Fault Refusal :=
  s.storeAt g (s.spadAt sa (128 * imm)) (leBytes (s.rdP pd).toNat 16)

/-- The 32 addresses of LDVX and STVX, and their window fault (R195). -/
def State.spadList (s : State) (sa vx : Nat) : List Nat := (List.range 32).map fun i => s.spadAt sa (elem (s.rdV vx) 32 i)
def State.listFault (s : State) (l : List Nat) : Option Raise :=
  (leastOf (l.map fun a => failAt (decide (s.cur.hdr.window < a + 4)) (max a s.cur.hdr.window))).map
    fun a => s.raise 4 [a, s.cur.hdr.window, 0xFF, s.slotNo]
/-- LDVX (R195). -/
def execLdvx (g : Guard) (vd sa vx : Nat) (s : State) : Host.Outcome State Fault Refusal :=
  s.under g (match s.listFault (s.spadList sa vx) with
    | some r => s.raised r
    | none => (s.emitV vd ⟨packV 32 ((s.spadList sa vx).map fun a => s.spadNat a 4), BitVec.allOnes 128, 0⟩ 10).ran)
/-- STVX (R195): in ascending index. -/
def execStvx (g : Guard) (vd sa vx : Nat) (s : State) : Host.Outcome State Fault Refusal :=
  let l := s.spadList sa vx
  s.under g (match s.listFault l with
    | some r => s.raised r
    | none => match s.logFault ((l.map fun a => linesOf a 4).flatten) with
      | some r => s.raised r
      | none => ((l.zip (List.range 32)).foldl (fun (t : State) (x : Nat × Nat) => t.store x.1 (leBytes (elem (s.rdV vd) 32 x.2) 4)) s).ran)

/-- WDLD (R198). -/
def execWdld (g : Guard) (wd sa imm : Nat) (s : State) : Host.Outcome State Fault Refusal :=
  let a := s.spadAt sa (64 * imm)
  s.under g (match s.winFault a 64 with
    | some r => s.raised r
    | none =>
      match wdFault (BitVec.ofNat 512 (leNat (s.spad a 64))) with
      | some b => s.raised (s.raise 0x0D [16 + wd, 6, b, s.slotNo])
      | none => (s.emit (.wd wd (BitVec.ofNat 512 (leNat (s.spad a 64)))) 1 0).ran)

/-- The alias class of an access or a copy (R104, R220). -/
def State.classOf (s : State) (cls : Option Nat) : Nat := cls.getD s.tctl.acls
/-- The range of a copy; CPQF has none. -/
def State.copyRange (s : State) (kind : CopyKind) (h : Nat) : Option Hold :=
  if kind = .cpqf then none else (s.handleOf h).map (·.hold)
/-- The targets of a copy; a copy of another kind ignores TGT (R197). -/
def State.targetIds (s : State) (kind : CopyKind) (d : BitVec 512) : List Nat := if kind.targeted then (s.targetsOf d).map (·.id) else []
/-- Every copy but those from a queue (R200 to R204): the checks of R203 in their order, then the copy. -/
def State.copyOp (s : State) (kind : CopyKind) (g : Guard) (h k sa sb o : Nat) (cls : Option Nat) (fill : Nat) : Host.Outcome State Fault Refusal :=
  s.under g <|
    let range := s.copyRange kind h
    match s.copyDesc kind k sb range with
    | some r => s.raised r
    | none =>
      let d := (Store.get none s.cur.arch.wd k).getD 0
      match s.copyWin kind d sa sb with
      | some r => s.raised r
      | none =>
        match s.copyHold kind d h o with
        | some r => s.raised r
        | none =>
          match (if kind.out then s.placeFault else none) with
          | some r => s.raised r
          | none =>
            let hold := range.getD ⟨0, 0, 0, 0⟩
            match s.copyFrozen kind k hold.id o with
            | some r => s.raised r
            | none =>
              let z := wdEsz d
              let blocks := if kind = .cpxf then (match s.chainAt sb 8 with | .inr l => l | .inl _ => []) else []
              let todo := s.copyList kind d sa sb o (hold.first * z) fun _ => leBytes fill z
              (s.startCopy kind k hold (s.classOf cls) z (wdBytes d) todo (s.targetIds kind d) (wdBar d) blocks sa).ran
/-- A copy of the bytes popped from a queue (R200, R204). -/
def State.queueCopy (s : State) (kind : CopyKind) (g : Guard) (h k sa rq o : Nat) (cls : Option Nat) : Host.Outcome State Fault Refusal :=
  s.under g <|
    let range := s.copyRange kind h
    match s.copyDesc kind k 0 range with
    | some r => s.raised r
    | none =>
      let d := (Store.get none s.cur.arch.wd k).getD 0
      match s.copyWin kind d sa 0 with
      | some r => s.raised r
      | none =>
        match s.copyHold kind d h o with
        | some r => s.raised r
        | none =>
          match s.popOf rq (wdBytes d) with
          | .under r => s.raised r
          | .stall => s.hold
          | .bytes l =>
            match s.placeFault with
            | some r => s.raised r
            | none =>
              let hold := range.getD ⟨0, 0, 0, 0⟩
              match s.copyFrozen kind k hold.id o with
              | some r => s.raised r
              | none =>
                let z := wdEsz d
                let todo := s.copyList kind d sa 0 o (hold.first * z) fun i => (l.drop (z * i)).take z
                ((s.popQueue rq (wdBytes d)).startCopy kind k hold (if kind = .cpqf then 0 else s.classOf cls) z (wdBytes d) todo
                  (s.targetIds kind d) (wdBar d) [] sa).ran

/-- CPIN (R200). -/
def execCpin (g : Guard) (h k sa sb : Nat) (cls : Option Nat) (s : State) : Host.Outcome State Fault Refusal :=
  s.copyOp .cpin g h k (s.rdS sa).toNat 0 (s.rdS sb).toNat cls 0
/-- CPOUT (R200, R204). -/
def execCpout (g : Guard) (h k sa sb : Nat) (cls : Option Nat) (s : State) : Host.Outcome State Fault Refusal :=
  s.copyOp .cpout g h k (s.rdS sa).toNat 0 (s.rdS sb).toNat cls 0
/-- CPMC (R200, R202). -/
def execCpmc (g : Guard) (h k sa sb : Nat) (cls : Option Nat) (s : State) : Host.Outcome State Fault Refusal :=
  s.copyOp .cpmc g h k (s.rdS sa).toNat 0 (s.rdS sb).toNat cls 0
/-- CPGA (R201). -/
def execCpga (g : Guard) (h k sa sb : Nat) (cls : Option Nat) (s : State) : Host.Outcome State Fault Refusal :=
  s.copyOp .cpga g h k (s.rdS sa).toNat (s.rdS sb).toNat 0 cls 0
/-- CPSC (R201). -/
def execCpsc (g : Guard) (h k sa sb : Nat) (cls : Option Nat) (s : State) : Host.Outcome State Fault Refusal :=
  s.copyOp .cpsc g h k (s.rdS sa).toNat (s.rdS sb).toNat 0 cls 0
/-- CPXF (R217, R218). -/
def execCpxf (g : Guard) (h k sa sb : Nat) (cls : Option Nat) (s : State) : Host.Outcome State Fault Refusal :=
  s.copyOp .cpxf g h k (s.rdS sa).toNat (s.rdS sb).toNat (s.spadNat ((s.rdS sb).toNat + 12) 4) cls 0
/-- CPQO (R200): the queue's bytes to the tensor. -/
def execCpqo (g : Guard) (h k sa rq : Nat) (cls : Option Nat) (s : State) : Host.Outcome State Fault Refusal :=
  s.queueCopy .cpqo g h k 0 rq (s.rdS sa).toNat cls
/-- CPQF (R200, R202): the queue's bytes to a target's window. -/
def execCpqf (g : Guard) (k sa rq : Nat) (s : State) : Host.Outcome State Fault Refusal :=
  s.queueCopy .cpqf g 0 k (s.rdS sa).toNat rq 0 none
/-- CPFL (R200): a register's low bytes as fill. -/
def execCpfl (g : Guard) (h k sa sb : Nat) (cls : Option Nat) (s : State) : Host.Outcome State Fault Refusal :=
  s.copyOp .cpfl g h k 0 0 (s.rdS sb).toNat cls (s.rdS sa).toNat
/-- CFLUSH (R244): it changes no value; at its completion the cellar holds the lines no longer. -/
def execCflush (g : Guard) (h k sa sb : Nat) (s : State) : Host.Outcome State Fault Refusal :=
  s.under g <|
    let o := (s.rdS sa).toNat
    let n := (s.rdS sb).toNat
    match s.handleOf h with
    | none => s.raised (s.holdRaise h o 1)
    | some b =>
      if b.hold.count < o + n then s.raised (s.holdRaise h (max o b.hold.count) 3)
      else match s.copyFrozen .cflush k b.hold.id o with
        | some r => s.raised r
        | none => (s.startCopy .cflush k b.hold 0 1 (n * elemBytes (s.fmtOf b.hold.id)) [] [] none []
          ((b.hold.first + o) * elemBytes (s.fmtOf b.hold.id))).ran

/-- A token waited for or tested: what is known of its copies. -/
def State.tokenHeld (s : State) (k : Token) : Bool := s.copies.any fun c => k.copies.contains c.id && c.st == .held
def State.tokenPromise (s : State) (k : Token) : Nat := s.copies.foldl (fun acc c => if k.copies.contains c.id then max acc c.promise else acc) k.promise
/-- A wait or a test that succeeds joins the token's copies (R206). -/
def State.joinToken (s : State) (k : Nat) (st : TokSt) : State :=
  (s.join (s.cur.arch.token k).copies).arch fun a => a.setToken k ⟨st, [], 0⟩
/-- WAITK and WAITKX (R211). -/
def State.waitToken (s : State) (g : Guard) (k : Nat) (promised : Bool) : Host.Outcome State Fault Refusal :=
  s.under g <|
    let t := s.tokenUp (s.cur.arch.token k)
    if t.st ≠ .pending then (s.joinToken k .done).ran
    else if s.tokenHeld t then s.raised (s.raise 9 [3, s.cur.heldq.length, 64, s.slotNo])
    else if promised ∧ s.tokenPromise t ≤ s.time then s.raised (s.raise 0x0A [k, s.tokenPromise t, s.time, s.slotNo])
    else s.hold
/-- WAITK (R211). -/
def execWaitk (g : Guard) (k : Nat) (s : State) : Host.Outcome State Fault Refusal := s.waitToken g k true
/-- WAITKX (R211). -/
def execWaitkx (g : Guard) (k : Nat) (s : State) : Host.Outcome State Fault Refusal := s.waitToken g k false
/-- TESTK (R212): a result of 1 is a join. -/
def execTestk (g : Guard) (qd k : Nat) (s : State) : Host.Outcome State Fault Refusal :=
  s.under g <|
    let t := s.tokenUp (s.cur.arch.token k)
    if t.st = .pending then (s.emitQ qd false 1).ran else ((s.joinToken k t.st).emitQ qd true 1).ran
/-- KREL (R213): the token is FREE, and its copies go on. -/
def execKrel (g : Guard) (k : Nat) (s : State) : Host.Outcome State Fault Refusal :=
  s.under g (s.arch fun a => a.setToken k Token.init).ran

/-- Where a single-element access lies (R220): the id, the element of the range, the byte offset in the tensor, the width. -/
structure Spot where
  id    : Nat
  elem  : Nat
  off   : Nat
  width : Nat
/-- The position and the checks of R220 in the order of R208; `need` is the mode that the access needs; the width none for AMO. -/
def State.locate (s : State) (h sa need : Nat) (width : Option Nat) : Raise ⊕ Spot :=
  match s.handleOf h with
  | none => .inl (s.holdRaise h sa 1)
  | some b =>
    if b.hold.mode &&& need ≠ need then .inl (s.holdRaise h sa 2)
    else
      let z := elemBytes (s.fmtOf b.hold.id)
      let n := width.getD z
      if b.hold.count * z < sa * z + n then .inl (s.holdRaise h (max sa b.hold.count) 3)
      else if (sa * z) % n ≠ 0 ∨ (width = none ∧ z ≠ 4 ∧ z ≠ 8) then .inl (s.holdRaise h sa 4)
      else .inr ⟨b.hold.id, sa, b.hold.first * z + sa * z, n⟩

/-- The stores that come before an access of a class of the task in focus enter the global order (R270). -/
def State.drainClass (s : State) (cls : Nat) : State :=
  if s.cur.stores.isEmpty then s else s.pull s.cur fun p => p.before s.cur.fences s.cur.place cls
/-- The class of the page that holds a byte of a tensor (R224). -/
def State.pageClass (s : State) (t : Tensor) (off : Nat) : Nat :=
  match s.page (t.entry (off / t.pageBytes)) with | some p => p.coh | none => t.coh
/-- The cause that an error in flight gives a single-element access (R326, R329, R346, R356); none where the error is not one that the access
can meet: one in the device's own memory on a tensor of its own (`read`: the access reads), one of the Trellis through a proxy. What an exporter's tensor can give is what a local one can (log entry 71). -/
def State.errorOf (s : State) (e : AccessErr) (p : Spot) (read : Bool) (slot : Nat) : Option Meet :=
  match s.tensor p.id with
  | some t => s.localError t p.off read e
  | none =>
    match e with
    | .stale why => if why = 1 ∨ why = 2 ∨ why = 3 then some ⟨0x10, [p.id, p.elem, why, slot]⟩ else none
    | .key => some ⟨0x10, [p.id, p.elem, 4, slot]⟩
    | .bounds => some ⟨0x10, [p.id, p.elem, 5, slot]⟩
    | .exporter c ws => if c = 0x0E ∨ c = 0x0F ∨ c = 0x17 then some ⟨c, ws⟩ else none
    | .timeout link => if link < linkCount then some ⟨0x11, [p.id, p.elem, link, slot]⟩ else none
    | _ => none
/-- A link timeout comes too early for an access sent at a TIME: TLTO ticks have not passed without a reply (R346). -/
def State.early (s : State) (e : AccessErr) (sent : Option Nat) : Bool :=
  match e with
  | .timeout _ => !(match sent with | some t => decide (t + s.tlto ≤ s.time) | none => false)
  | _ => false
/-- What a single-element access meets: its tensor's own state, or an error in flight. -/
def State.spotMeet (s : State) (p : Spot) (read : Bool) : Option Meet :=
  match (match s.tensor p.id with | some t => s.meet t p.off p.width | none => none) with
  | some m => some m
  | none => (s.coreOf s.core).meets.bind fun e => if s.early e (s.coreOf s.core).sentAt then none else s.errorOf e p read s.slotNo
/-- A load at its point in the global order: its cause, or the value (R267); a remote element's value is free (log entry 1). -/
def State.loadGlobal (s : State) (p : Spot) (cls : Nat) : Raise ⊕ (State × Nat) :=
  let s := s.drainClass cls
  match s.spotMeet p true with
  | some m => .inl (s.raise m.cause m.words)
  | none =>
    match s.tensor p.id with
    | none => .inr ({ s with free := s.free + 1 }, Config.freeNat s.free 0 % 2 ^ (8 * p.width))
    | some t => .inr (s, leNat (s.tensorBytes (Agent.onStack s.stackNo) t p.off p.width))
/-- An access of the bundle that issues: made now, or already made, with the value it gave (R268, R270). -/
def State.once (s : State) (p : Spot) (now : Raise ⊕ (State × Nat)) : Raise ⊕ (State × Nat) :=
  match (s.coreOf s.core).early with
  | some e => if e.slot = s.slotNo ∧ e.id = p.id ∧ e.off = p.off then .inr (s.setCore s.core { s.coreOf s.core with early := none }, e.val) else now
  | none => now
/-- LDG and the global LDS (R221). -/
def State.loadOp (s : State) (g : Guard) (h sa dst width : Nat) (cls : Option Nat) : Host.Outcome State Fault Refusal :=
  s.under g <|
    match s.locate h (s.rdS sa).toNat 1 (some width) with
    | .inl r => s.raised r
    | .inr p => match s.once p (s.loadGlobal p (s.classOf cls)) with
      | .inl r => s.raised r
      | .inr (s1, v) => (s1.emitS dst (wordN v) 1 0).ran
/-- LDG (R221). -/
def execLdg (g : Guard) (h : Nat) (size : GSize) (sa sb : Nat) (cls : Option Nat) (s : State) : Host.Outcome State Fault Refusal :=
  s.loadOp g h sa sb size.bytes cls
/-- LDS of a tensor element (R221). -/
def execLdsGlobal (g : Guard) (sd h sa : Nat) (cls : Option Nat) (s : State) : Host.Outcome State Fault Refusal :=
  s.loadOp g h sa sd 8 cls
/-- A store (R221): one of class 0 enters the global order now, one of another class when what follows it demands (R270). What a store
through a proxy writes, another device holds. -/
def State.storeGlobal (s : State) (p : Spot) (cls : Nat) (bs : List Byte) : Raise ⊕ (State × Nat) :=
  match s.spotMeet p false with
  | some m => .inl (s.raise m.cause m.words)
  | none =>
    if cls = 0 then
      let s := s.drainClass 0
      .inr (match s.tensor p.id with | some t => s.writeTensor (Agent.onStack s.stackNo) s.cur.id none t p.off bs | none => s, 0)
    else
      .inr ({ s with cur := { s.cur with stores := s.cur.stores ++ [(⟨cls, s.cur.place, p.id, p.off, bs, s.time, s.slotNo, s.ctx.pos⟩ : PStore)]
                                         place := s.cur.place + 1 } }, 0)
/-- STG (R221). -/
def execStg (g : Guard) (h : Nat) (size : GSize) (sa sb : Nat) (cls : Option Nat) (s : State) : Host.Outcome State Fault Refusal :=
  s.under g <|
    match s.locate h (s.rdS sa).toNat 2 (some size.bytes) with
    | .inl r => s.raised r
    | .inr p => match s.once p (s.storeGlobal p (s.classOf cls) (leBytes (s.rdS sb).toNat size.bytes)) with
      | .inl r => s.raised r
      | .inr (s1, _) => s1.ran

/-- The page classes and scopes of R224. -/
def atomicOk (coh : Nat) (scope : Scope) (wide : Bool) : Bool :=
  match coh, scope with
  | 0, .core => true | 0, .stack => true | 0, _ => false
  | _, .core => true | _, .quad => true | _, .stack => true | _, .package => true
  | 2, _ => wide
  | _, _ => false
/-- The element after an AMO (R222). -/
def amoNew (fn : AmoFn) (w old b : Nat) : Nat :=
  let sg := fun x => (BitVec.ofNat w x).toInt
  match fn with
  | .add => (old + b) % 2 ^ w
  | .and => old &&& b
  | .or => old ||| b
  | .xor => old ^^^ b
  | .min => if sg b < sg old then b else old
  | .max => if sg old < sg b then b else old
  | .minu => min old b
  | .maxu => max old b
  | .xchg => b
/-- An atomic through a proxy that the exporter takes: its old value is free; without the permission, a violation (R346, R370). -/
def State.remoteAtomic (s : State) (ok : Bool) (p : Spot) : Raise ⊕ (State × Nat) :=
  if ok then .inr ({ s.drainClass 0 with free := s.free + 1 }, Config.freeNat s.free 0 % 2 ^ (8 * p.width))
  else .inl (s.raise 0x10 [p.id, p.elem, 5, s.slotNo])
/-- An atomic access (R222 to R224) of element i of a handle's range: it gives the old value, and writes where there is a new one.
Through a proxy, the exporter's page decides what it may be. -/
def State.atomicGlobal (s : State) (p : Spot) (h i : Nat) (scope : Scope) (wide : Bool) (new : Nat → Nat → Option Nat) : Raise ⊕ (State × Nat) :=
  let bad := fun (coh : Nat) => (.inl (s.raise 0x18 [h, i, coh, scope.code]) : Raise ⊕ (State × Nat))
  match s.tensor p.id with
  | none =>
    let ok := match Store.look s.imports (importKey p.id) with | some e => e.perms.testBit 2 | none => false
    let far := match (s.coreOf s.core).meets with | some (.exporter 0x18 ws) => ws.head? | _ => none
    match s.spotMeet p true, far with
    | some m, _ => .inl (s.raise m.cause m.words)
    | none, some coh => if ok && !atomicOk coh scope wide then bad coh else s.remoteAtomic ok p
    | none, none => s.remoteAtomic ok p
  | some t =>
    let coh := s.pageClass t p.off
    if !atomicOk coh scope wide then bad coh
    else match s.loadGlobal p 0 with
      | .inl r => .inl r
      | .inr (s1, old) => .inr (match new p.width old with
        | some x => s1.writeTensor (Agent.onStack s.stackNo) s.cur.id none t p.off (leBytes x p.width)
        | none => s1, old)
/-- AMO and AMOC (R222, R223). -/
def State.atomicOp (s : State) (g : Guard) (h sa dst : Nat) (width : Option Nat) (scope : Scope) (wide : Bool) (new : Nat → Nat → Option Nat) :
    Host.Outcome State Fault Refusal :=
  s.under g <|
    let i := (s.rdS sa).toNat
    match s.locate h i 3 width with
    | .inl r => s.raised r
    | .inr p => match s.once p (s.atomicGlobal p h i scope wide new) with
      | .inl r => s.raised r
      | .inr (s1, old) => (s1.emitS dst (wordN old) 1 0).ran
/-- AMO (R222). -/
def execAmo (g : Guard) (h : Nat) (fn : AmoFn) (sa sb : Nat) (scope : Scope) (s : State) : Host.Outcome State Fault Refusal :=
  s.atomicOp g h sa sb none scope (fn == .add || fn == .xchg) fun n old => some (amoNew fn (8 * n) old ((s.rdS sb).toNat % 2 ^ (8 * n)))
/-- AMOC (R223): it writes only where the comparison succeeds. -/
def execAmoc (g : Guard) (h : Nat) (size : CSize) (sa sb : Nat) (scope : Scope) (s : State) : Host.Outcome State Fault Refusal :=
  s.atomicOp g h sa sb (some size.bytes) scope true fun n old =>
    if old = (s.rdS sb).toNat % 2 ^ (8 * n) then some ((s.rdS (sb + 1)).toNat % 2 ^ (8 * n)) else none

/-- A store of the task that an NC page holds. -/
def State.ncStore (s : State) (p : PStore) : Bool := match s.tensor p.tensor with | some t => s.pageClass t p.offset == 0 | none => false
/-- The stores of the task to NC pages, with those that come before them, enter the global order, and every store of its own to such a page
reaches the scope (R277). -/
def State.flush (s : State) (reach : Nat) : State :=
  let s1 := if s.cur.stores.isEmpty then s else s.pull s.cur s.ncStore
  State.ncSettle { s1 with nc := s1.nc.map fun (n : NcStore) => if n.task = s1.cur.id ∧ n.copy = none then { n with reach := max n.reach reach } else n }
/-- FENCE (R225, R277). -/
def execFence (g : Guard) (scope : Scope) (mask : Nat) (flush : Bool) (s : State) : Host.Outcome State Fault Refusal :=
  s.under g <|
    let s1 : State := if s.cur.stores.isEmpty then s
      else { s with cur := { s.cur with fences := s.cur.fences ++ [(⟨s.cur.place, mask⟩ : FenceAt)], place := s.cur.place + 1 } }
    if flush then (s1.flush scope.code).ran else s1.ran

/-- BINIT (R227). -/
def execBinit (g : Guard) (b count : Nat) (s : State) : Host.Outcome State Fault Refusal :=
  s.under g (s.arch fun a => a.setBarrier b (mkBar 0 0 1 0 count (barCredited (a.barrier b)) (barExpected (a.barrier b)))).ran
/-- BARV or BWAIT on a barrier that BINIT has not made valid (R227, R245). -/
def State.barFault (s : State) (b : Nat) : Option Raise :=
  if barValid (s.cur.arch.barrier b) = 1 then none else some (s.raise 0x0D [32 + b, 11, 0, s.slotNo])
/-- BARV (R227). -/
def execBarv (g : Guard) (b sa : Nat) (s : State) : Host.Outcome State Fault Refusal :=
  s.under g (match s.barFault b with
    | some r => s.raised r
    | none =>
      let s1 := s.arch fun a =>
        let x := a.barrier b
        a.setBarrier b (mkBar 1 (barPhase x) 1 (barArrived x + 1) (barCount x) (credit (barCredited x) ((s.rdS sa).toNat % 2 ^ 48)) (barExpected x))
      (s1.testBarrier s1.cur.id b).ran)
/-- The copies whose credit a completed phase of a barrier has counted. -/
def Task.counted (t : Task) (b : Nat) : List Nat :=
  ((t.races.inbound ++ t.races.outbound).filter fun (f : Flow) => f.counted && f.bar == some b).map (·.copy)
/-- BWAIT (R227, R215): it joins the copies that the phase counted, those of other tasks that wrote the task's window included (R274). -/
def execBwait (g : Guard) (b : Nat) (s : State) : Host.Outcome State Fault Refusal :=
  s.under g (match s.barFault b with
    | some r => s.raised r
    | none =>
      if barPend (s.cur.arch.barrier b) = 1 ∧ !s.brokenAny s.cur then s.hold
      else
        (s.join (s.cur.counted b)).ran)
/-- BEXP (R215). -/
def execBexp (g : Guard) (b sa : Nat) (s : State) : Host.Outcome State Fault Refusal :=
  s.under g (s.arch fun a =>
    let x := a.barrier b
    a.setBarrier b (mkBar (barPend x) (barPhase x) (barValid x) (barArrived x) (barCount x) (barCredited x) ((s.rdS sa).toNat % 2 ^ 48))).ran
/-- Every other member of a task's group has arrived at a generation, or has ended (R228). -/
def State.gbarOver (s : State) (t : Task) (level gen : Nat) : Bool :=
  (s.groupOf t level).all fun x => x.id == t.id || x.status == .ended || decide (gen ≤ Store.get 0 x.gbarSeen level)
/-- A member of a group learns what happens before its next accesses (R275): copies of others that have been joined there are joined for its window
(R274). -/
def State.tell (seen : Store Nat) (s : State) (id : Nat) : State :=
  match s.taskOf id with
  | none => s
  | some t =>
    let done := (t.races.inbound.filter fun (f : Flow) => f.task != t.id && decide (1 ≤ Store.get 0 seen (copyKey f.copy))).map (·.copy)
    let t := if done.isEmpty then t else t.joinRaces s.now done
    s.putTask { t with arch := { t.arch with seen := mergeSeen t.arch.seen seen }, stamp := t.stamp + 1 }
/-- The members of a group know together what each of them knew or did before its GBAR of a generation (R275). -/
def State.meetGroup (s : State) (ids : List Nat) (level gen : Nat) : State :=
  let s1 := ids.foldl State.drainAll s
  let seen := ids.foldl (fun m id => match s1.taskOf id with | some t => mergeSeen m t.clock | none => m) []
  ids.foldl (fun (s : State) id => match (s.tell seen id).taskOf id with
    | some t => (s.tell seen id).putTask { t with meets := t.meets ++ [⟨level, gen, seen⟩] }
    | none => s) s1
/-- A member passes a generation that its group has completed: what they knew then, and all that it has done before this GBAR, comes before what any
member does after its own. -/
def State.meetAgain (s : State) (ids : List Nat) (level gen : Nat) : State :=
  let s1 := s.drainAll s.cur.id
  let then_ := (s1.cur.meets.find? fun (m : Meeting) => m.level == level && m.gen == gen).map (·.seen)
  ids.foldl (State.tell (mergeSeen s1.cur.clock (then_.getD []))) s1
/-- GBAR (R228). The first member that passes finds every other one at the barrier; one that passes a completed generation again, after a
rollback, gives the join edge once more. -/
def execGbar (g : Guard) (qs level : Nat) (s : State) : Host.Outcome State Fault Refusal :=
  s.under g <|
    let gen := Store.get 0 s.cur.arch.gbar level + 1
    let count := fun (s : State) => s.arch fun a => { a with gbar := Store.set 0 a.gbar level gen }
    if recLevels (s.launchRec s.cur) ≤ level then ((count s).emitQ qs true 1).ran
    else if s.brokenAt s.cur level then ((count s).emitQ qs false 1).ran
    else
      let s1 := { s with cur := { s.cur with gbarSeen := Store.set 0 s.cur.gbarSeen level (max gen (Store.get 0 s.cur.gbarSeen level)) } }
      if s1.gbarOver s1.cur level gen then
        let group := s1.groupOf s1.cur level
        let first := group.all fun x => decide (Store.get 0 x.arch.gbar level < gen)
        let s2 := if first then s1.meetGroup (group.map (·.id)) level gen else s1.meetAgain (group.map (·.id)) level gen
        ((count s2).emitQ qs true 1).ran
      else s1.hold

end Sys2Proof.Machine
end

