-- ==== Sys2Proof/Machine/Sched.lean ====
section
/-! DEFINITION. The scheduler (R249, R251, R261, R263, R295 to R303): allotment on a core, saving, gang placement, ranks,
choice, dispatch, resumption, pre-emption. -/

namespace Sys2Proof.Machine

/-- What a task takes of a core (R249): register units, window pages, physical tiles, queue bytes. -/
structure Room where
  units : Nat
  pages : Nat
  tiles : Nat
  queue : Nat
def coreRoom : Room := ⟨48, 128, 16, 262144⟩
def Task.needs (t : Task) : Room := ⟨t.hdr.frame / 128, t.hdr.window / 65536, 2 * countBits t.hdr.tiles 8, t.hdr.allot⟩
def Task.keeps (t : Task) : Room := ⟨t.hdr.frame / 128, t.hdr.window / 65536, t.kept, t.hdr.allot⟩
/-- The sum of what a list takes lies within a core. -/
def fits (l : List Room) : Bool :=
  let s := l.foldl (fun (a b : Room) => ⟨a.units + b.units, a.pages + b.pages, a.tiles + b.tiles, a.queue + b.queue⟩) (⟨0, 0, 0, 0⟩ : Room)
  decide (s.units ≤ coreRoom.units) && decide (s.pages ≤ coreRoom.pages) && decide (s.tiles ≤ coreRoom.tiles) && decide (s.queue ≤ coreRoom.queue)

/-- The tasks parked on a core, the one that ran longest ago first. -/
def State.parkedOn (s : State) (n : Nat) : List Task :=
  (s.allTasks.filter fun t => t.status == .parked && t.core == n).mergeSort fun a b => decide (a.lastRun < b.lastRun) || (a.lastRun == b.lastRun && decide (a.id ≤ b.id))
/-- Every copy of the task has completed, and none targets it (R202, R261). -/
def State.settled (s : State) (t : Task) : Bool := !s.copies.any fun c => c.st != .done && (c.task == t.id || c.targets.contains t.id)
/-- The parked tasks to be saved until the room exists (R249); none where it cannot be made. -/
def State.saveList (s : State) (need : Room) : List Task → Option (List Task)
  | [] => if fits [need] then some [] else none
  | x :: rest =>
    if fits (need :: Task.keeps x :: rest.map Task.keeps) then some []
    else if s.settled x then (s.saveList need rest).map (x :: ·) else none
/-- The tasks to be saved so that a core can hold a task; none where it cannot. -/
def State.roomOn (s : State) (t : Task) (n : Nat) : Option (List Task) := s.saveList t.needs ((s.parkedOn n).filter fun x => x.id != t.id)
/-- A parked task saved (R261, R262). -/
def State.saveTask (s : State) (t : Task) : State :=
  let c := t.cont.take 7 ++ [1#8] ++ (t.cont.drop 8).take 56 ++ leBytes (Config.freeNat s.free 0) 8 ++ t.cont.drop 72
  { s.putTask { t with status := .saved, cont := c } with free := s.free + 1 }

/-- The die of a work item's scheduler. -/
def Work.die (w : Work) : Nat := match w.kind with | .queue q _ => q / 64 | .pool d _ _ _ => d | .lane d => d
/-- The instance of a domain that holds a core (R294). Cores from 48 on are those of other devices of the group (log entry 84). -/
def domainOf (d core : Nat) : Nat :=
  match d with | 0 => core | 1 => core / 2 | 2 => core / 4 | 3 => core / 12 | 4 => core / 48 | _ => 0

/-- The members of a gang that wait to start. -/
def State.starters (s : State) (w : Work) (gang : Nat) : List Task :=
  (s.tasksOf w.id).filter fun t => !t.reissued && t.status == .ready && groupNo w.launch t.inst 0 == gang
/-- A gang of two or more members, all READY. -/
def State.wholeGang (s : State) (w : Work) (gang : Nat) : Bool :=
  decide (2 ≤ groupSize w.launch 0) && (s.starters w gang).length == groupSize w.launch 0
/-- The gang for which a core is held at the request of another device (R295, log entry 84): no work item of this one has number 0. -/
def foreignGang : Nat × Nat := (0, 0)
/-- A gang that waits for its cores. -/
def State.gangWaits (s : State) (gang : Nat × Nat) : Bool :=
  gang == foreignGang || (match s.workOf gang.1 with | some w => s.wholeGang w gang.2 | none => false)
/-- The gang for which a core is held idle once it is free: that which holds it, or the first of those that want it (R295). -/
def State.holder (s : State) (n : Nat) : Option (Nat × Nat) :=
  ((s.coreOf n).heldFor.toList ++ (s.coreOf n).wanted).find? s.gangWaits
/-- A core that takes a dispatch: it runs nothing and is not frozen (R370), and it is not held for other work. -/
def State.isFree (s : State) (gang : Option (Nat × Nat)) (n : Nat) : Bool :=
  let c := s.coreOf n
  c.task == 0 && !c.frozen && ((s.holder n).isNone || s.holder n == gang)

/-- A list cut into pieces of n. -/
def chunks (n : Nat) (l : List (List Nat)) : Nat → List (List (List Nat))
  | 0 => []
  | k + 1 => if n = 0 ∨ l.length < n then [] else l.take n :: chunks n (l.drop n) k
/-- The groups of a level that a list of cores can hold, each inside one instance of its domain (R295). -/
def places (l : List Byte) (level : Nat) (cores : List Nat) : Nat → List (List Nat)
  | 0 => cores.map fun c => [c]
  | k + 1 =>
    let dom := recDomain l level
    let insts := (cores.map (domainOf dom)).eraseDups
    (insts.map fun i =>
      let here := cores.filter fun c => domainOf dom c == i
      if recLevels l ≤ level + 1 then here.map fun c => [c]
      else
        let sub := places l (level + 1) here k
        (chunks (recExtent l (level + 1)) sub sub.length).map List.flatten).flatten
/-- The cores for a gang among those given, in the order of its members; none where they do not suffice. -/
def gangPlace (l : List Byte) (cores : List Nat) : Option (List Nat) := (places l 0 cores (recLevels l)).head?

/-- The gang instance chosen for a gang, as the work item keeps it. -/
def Work.homeOf (w : Work) (gang : Nat) : Option Home := w.homes.find? (·.gang == gang)
/-- The gangs of a work item may span several dies: the domain of level 0 is package or group (R295). -/
def Work.spans (w : Work) : Bool := decide (4 ≤ recDomain w.launch 0)
/-- The cores of a domain instance that could hold a gang of a die. -/
def State.instances (_s : State) (die d : Nat) : List Nat :=
  match d with
  | 1 => (List.range 6).map (6 * die + ·)
  | 2 => (List.range 3).map (3 * die + ·)
  | 3 => [die]
  | 4 | 5 => [0]
  | _ => (List.range 12).map (12 * die + ·)
/-- Cores of a domain instance: those of the device, and in a group of devices those that the schedulers of others hold for a gang led
here (R295). -/
def State.coresIn (s : State) (d inst : Nat) : List Nat :=
  (List.range 48 ++ if d = 5 then s.granted else []).filter fun c => domainOf d c == inst
/-- The choice of R295: most free cores, then the lowest core number, among the instances that have enough, else among all. -/
def State.chooseInst (s : State) (w : Work) (gang : Nat) : Option Nat :=
  let d := recDomain w.launch 0
  let free := fun i => (s.coresIn d i).filter (s.isFree (some (w.id, gang)))
  let all := s.instances w.die d
  let enough := all.filter fun i => (gangPlace w.launch (free i)).isSome
  (if enough.isEmpty then all else enough).foldl (fun (best : Option Nat) i => match best with
    | none => some i
    | some b => if (free b).length < (free i).length then some i else some b) none

/-- The cores that the leading scheduler chooses for a gang that spans several dies (R295): of the free ones, or of all that are not frozen,
the free ones first; none while they do not suffice. -/
def State.chooseCores (s : State) (w : Work) (gang : Nat) : Option (List Nat) :=
  let all := (s.coresIn (recDomain w.launch 0) 0).filter fun n => !(s.coreOf n).frozen
  let free := all.filter (s.isFree (some (w.id, gang)))
  match gangPlace w.launch free with
  | some cs => some cs
  | none => gangPlace w.launch (free ++ all.filter fun n => !free.contains n)
/-- The work of a die whose queue lets it dispatch: that of OPEN queues, of the pool and of the recompute lane (R286, R297). -/
def State.openWork (s : State) (die : Nat) : List Work :=
  s.works.filter fun w => w.die == die && !w.retired && (match w.kind with | .queue q _ => (s.queueOf q).st == .opened | _ => true)
/-- The gangs of a die that wait for their cores, the oldest first. -/
def State.gangs (s : State) (die : Nat) : List (Work × Nat) :=
  ((s.openWork die).map fun w =>
    (((s.tasksOf w.id).filter (·.status == .ready)).map fun t => groupNo w.launch t.inst 0).eraseDups.filter (s.wholeGang w) |>.map fun g => (w, g)).flatten

/-- Cores held idle for a gang (R295). -/
def State.gangHold (s : State) (gang : Nat × Nat) (cores : List Nat) : State :=
  cores.foldl (fun s n => if s.isFree (some gang) n then s.setCore n { s.coreOf n with heldFor := some gang } else s) s
/-- Cores wanted for a gang, each of them held idle for it once it is free (R295). -/
def State.want (s : State) (gang : Nat × Nat) (cores : List Nat) : State :=
  cores.foldl (fun s n => if (s.coreOf n).wanted.contains gang then s else s.setCore n { s.coreOf n with wanted := (s.coreOf n).wanted ++ [gang] }) s
/-- The scheduler of a die holds the cores for a gang: those of the chosen instance as they free; of the chosen cores of a gang that spans
several dies, those of its own die, the other dies being asked (R295). -/
def State.holdGang (s : State) (die : Nat) (w : Work) (gang : Nat) : State :=
  let keep := fun (s : State) (h : Home) => if (w.homeOf gang).isSome then s else s.setWork { w with homes := w.homes ++ [h] }
  if w.spans then
    match (w.homeOf gang).orElse fun _ => (s.chooseCores w gang).map fun cs => ⟨gang, 0, cs⟩ with
    | none => s
    | some h => (keep s h).want (w.id, gang) (h.cores.filter fun c => decide (48 ≤ c) || c / 12 == die)
  else
    match (w.homeOf gang).orElse fun _ => (s.chooseInst w gang).map fun i => ⟨gang, i, []⟩ with
    | none => s
    | some h =>
      let s := keep s h
      let free := (s.coresIn (recDomain w.launch 0) h.inst).filter (s.isFree (some (w.id, gang)))
      s.gangHold (w.id, gang) ((gangPlace w.launch free).getD free)
/-- The choices and holds of the gangs of a die brought up to date (R295). -/
def State.holdCores (s : State) (die : Nat) : State :=
  (s.gangs die).foldl (fun (s : State) x => s.holdGang die ((s.workOf x.1.id).getD x.1) x.2) s
/-- The cores of another die that the leading scheduler has chosen for a gang, with those of them that are still to be asked for (R295). -/
def State.unasked (s : State) (x : Work × Nat) (die : Nat) : List Nat :=
  match x.1.homeOf x.2 with
  | some h => h.cores.filter fun c => decide (c < 48) && c / 12 == die && die != x.1.die && !(s.coreOf c).wanted.contains (x.1.id, x.2)
  | none => []
/-- The gangs of all dies that wait for their cores. -/
def State.allGangs (s : State) : List (Work × Nat) := ((List.range 4).map s.gangs).flatten

/-- Eligible work (R297): its rank, whether free cores can hold it, the tasks it starts or resumes with their cores (none where no
core can hold it, or no save area is there, R250). -/
structure Item where
  work  : Nat
  task  : Nat
  start : Bool
  prio  : Nat
  age   : Nat
  no    : Nat
  est   : Nat
  ahead : Bool
  fit   : Bool
  place : List (Nat × Nat)

/-- A wait that parked a task would succeed now (R303). -/
def State.waitOver (s : State) (t : Task) (w : Wait) : Bool :=
  match w with
  | .token k promised =>
    let x := s.tokenUp (t.arch.token k)
    x.st != .pending || (promised && !s.tokenHeld x && decide (s.tokenPromise x ≤ s.time))
  | .barrier b => barPend (t.arch.barrier b) != 1 || s.brokenAny t
  | .gbar level => s.brokenAt t level || s.gbarOver t level (Store.get 0 t.arch.gbar level + 1)
  | .join id => match s.launchOf id with | some n => (s.poolOf n).st != .live | none => true
/-- A PARKED or SAVED task whose target can proceed (R251, R297, R303). -/
def State.resumable (s : State) (t : Task) : Bool :=
  (t.status == .parked || t.status == .saved) && decide (0 < t.arch.bgi) && decide (0 < t.arch.bgt) && t.wait.all (s.waitOver t)
/-- A member whose sibling is held in a GBAR or BWAIT of a group that contains it (R295). -/
def State.ahead (s : State) (t : Task) : Bool :=
  (s.groupOf t 0).any fun x => x.id != t.id && x.wait.any fun w => match w with
    | .barrier _ => true
    | .gbar level => (s.groupOf x level).any (·.id == t.id)
    | _ => false
/-- The cores on which a task may resume (R263, R295): a saved one on every core of its stack that lies in its domain instances; a domain of
one core does not bind it to that core (log entry 84). -/
def State.resumeCores (s : State) (t : Task) : List Nat :=
  let l := s.launchRec t
  if t.status = .parked then [t.core]
  else (List.range 48).filter fun n => n / 12 == t.core / 12 &&
    (List.range (recLevels l)).all fun k => recDomain l k == 0 || domainOf (recDomain l k) n == domainOf (recDomain l k) t.core

/-- The save area that a task which starts on a stack still needs there (R250); one reserved on another stack is given up at dispatch. -/
def Task.saveOn (t : Task) (stack : Nat) : Nat := if t.saveArea ≠ 0 ∧ t.core / 12 = stack then 0 else t.hdr.save
/-- HBM for the save areas of tasks that start (R250). -/
def State.saveRoom (s : State) (ts : List Task) (cores : List Nat) : Bool :=
  (List.range 4).all fun k =>
    decide (((ts.zip cores).filter fun x => x.2 / 12 == k).foldl (fun acc x => acc + x.1.saveOn k) 0 ≤ s.hbmFree k)
/-- The cores for tasks that start (R295): the gang's, or for a task alone the lowest free core that can hold it, in the instance of
its domain that has most free cores. -/
def State.startCores (s : State) (w : Work) (ts : List Task) : Option (List Nat) :=
  match ts with
  | [] => none
  | t :: _ =>
    let gang := groupNo w.launch t.inst 0
    let d := recDomain w.launch 0
    if groupSize w.launch 0 < 2 then
      let able := fun i => (s.coresIn d i).filter fun n => s.isFree none n && (s.roomOn t n).isSome
      let free := fun i => ((s.coresIn d i).filter (s.isFree none)).length
      let is := (s.instances w.die d).filter fun i => !(able i).isEmpty
      (is.foldl (fun (b : Option Nat) i => match b with | none => some i | some j => if free j < free i then some i else some j) none).bind fun i =>
        ((able i).head?).map fun n => [n]
    else
      match (match w.homeOf gang with
        | some h =>
          if w.spans then (if h.cores.all (s.isFree (some (w.id, gang))) then some h.cores else none)
          else gangPlace w.launch ((s.coresIn d h.inst).filter (s.isFree (some (w.id, gang))))
        | none => none) with
      | some cs => if (ts.zip cs).all fun x => (s.roomOn x.1 x.2).isSome then some cs else none
      | none => none
def State.startPlace (s : State) (w : Work) (ts : List Task) : List (Nat × Nat) :=
  match s.startCores w ts with
  | some cs => if s.saveRoom ts cs then (ts.map (·.id)).zip cs else []
  | none => []
/-- The tasks that a work item would start next: the oldest READY task, or, of the gangs all of whose members are READY, the oldest that
completes its placement (R297), failing that the oldest. -/
def State.nextStart (s : State) (w : Work) : List Task :=
  let rs := ((s.tasksOf w.id).filter fun t => !t.reissued && t.status == .ready).mergeSort fun a b => decide (a.inst ≤ b.inst)
  if groupSize w.launch 0 < 2 then rs.take 1
  else
    let gangs := (((rs.map fun t => groupNo w.launch t.inst 0).eraseDups).filter (s.wholeGang w)).map fun g =>
      rs.filter fun x => groupNo w.launch x.inst 0 == g
    ((gangs.find? fun ts => (s.startCores w ts).isSome).orElse fun _ => gangs.head?).getD []
def State.startItem (s : State) (w : Work) : Option Item :=
  match s.nextStart w with
  | [] => none
  | t :: ts => some ⟨w.id, t.id, true, t.prio, w.age, w.rankNo, s.estimate t, false, (s.startCores w (t :: ts)).isSome, s.startPlace w (t :: ts)⟩
def State.resumeItem (s : State) (t : Task) : Option Item :=
  match s.workOf t.work with
  | none => none
  | some w =>
    if !s.resumable t then none
    else
      let n := (s.resumeCores t).find? fun n => s.isFree none n && (s.roomOn t n).isSome
      some ⟨w.id, t.id, false, t.prio, t.age, w.rankNo, s.estimate t, s.ahead t, n.isSome, match n with | some n => [(t.id, n)] | none => []⟩
/-- The eligible work of a die, with that of which no core can hold it yet. Every launch of the pool competes with an age of its own, at queue
number 64 (R307, log entry 88). -/
def State.items (s : State) (die : Nat) : List Item :=
  (s.openWork die).filterMap s.startItem ++ (s.allTasks.filter fun t => t.core / 12 == die).filterMap s.resumeItem

/-- Rank order (R297). -/
def Item.rank (i : Item) : Nat := i.prio * 256 + i.age
def Item.before (a b : Item) : Bool :=
  decide (b.rank < a.rank) || (a.rank == b.rank && (decide (a.no < b.no) || (a.no == b.no && decide (a.task < b.task))))
def best (l : List Item) : Option Item := l.foldl (fun (b : Option Item) x => match b with | none => some x | some y => if x.before y then some x else some y) none
/-- An estimate fits a slice (R298). -/
def fitsSlice (slice est : Nat) : Bool := decide (3 * est ≤ 5 * slice)
/-- The arbiter's choice (R298). -/
def choose (slice : Nat) (l : List Item) : Option Item :=
  match best l with
  | none => none
  | some top =>
    if fitsSlice slice top.est || decide (256 ≤ top.age) then some top
    else match best (l.filter fun i => fitsSlice slice i.est) with | some i => some i | none => some top

/-- The work that takes the place of the arbiter's choice: that which is resumed ahead of all other on one of its cores (R295). -/
def goesFirst (ready : List Item) (c : Item) : Item :=
  (best (ready.filter fun i => i.ahead && i.place.any fun x => c.place.any fun y => y.2 == x.2)).getD c

/-- The age of an item set (R297). -/
def State.setAge (s : State) (i : Item) (age : Nat) : State :=
  if i.start then (match s.workOf i.work with | some w => s.setWork { w with age := age } | none => s)
  else (match s.taskOf i.task with | some t => s.putTask { t with age := age } | none => s)

/-- A task in focus on a core: it becomes the core's running task. -/
def State.seat (s : State) (t : Task) (n : Nat) : State :=
  let s := s.putTask { t with status := .running, core := n, slice := (s.stackOf (n / 12)).slice, age := 0, wait := [], waitAt := none }
  s.setCore n { s.coreOf n with task := t.id, heldFor := none, drainAt := none }
/-- The parked tasks that stand in the way saved (R249). -/
def State.makeSeat (s : State) (t : Task) (n : Nat) : State := ((s.roomOn t n).getD []).foldl State.saveTask s
/-- First dispatch (R249, R250): save area, implicit checkpoint at the entry position, the inputs' epochs for a recipe, one
that no tensor has for a slot whose tensor does not exist (R318, R319). -/
def State.dispatch (s : State) (id n : Nat) : State :=
  match s.taskOf id with
  | none => s
  | some t =>
    let s := s.makeSeat t n
    let s := { s with serial := s.serial + 1 }
    let s := match s.workOf t.work with
      | some w =>
        if w.epochs.isEmpty then
          s.setWork { w with epochs := (slotsOf w.record).filterMap fun (sl : SlotRec) =>
            if sl.mode % 2 = 1 then some (sl.id, match s.tensor sl.id with | some (x : Tensor) => x.epoch | none => 2 ^ 32) else none }
        else s
      | none => s
    let t1 := { t with img := s.loadImage { t with core := n }, core := n, saveArea := t.hdr.save, serial := s.serial, estAt := t.estAt, win := ⟨[], []⟩ }
    (({ s with free := s.free + 1 }.putTask t1).seat (t1.checkpoint t.hdr.entry) n).passHead t.work
/-- The implicit checkpoint at a resumption (R256, R263): it releases what the task's switching yield bundle has left held (R252), for the core
on which the task resumes, and its copies run on over a later rollback (R255). The underflow of a DDEC is a task fault (R239). -/
def State.resumeCheckpoint (s : State) (n pos : Nat) : State :=
  let s1 := s.focus n
  let s2 := { s1 with copies := s1.copies.map fun (c : Copy) => if c.task = s1.cur.id ∧ c.st = CopySt.held then { c with core := n } else c }
  match s2.release with
  | (s3, some r) => s3.taskFault s1.cur.id r.cause r.slot r.words (r.pos.getD pos)
  | (s3, none) => s3.checkpoint pos
/-- Resumption (R263): an implicit checkpoint; the target directly where the header says so, or inside a pinned body; the nest
pinned again, the blend loaded again where it has been displaced (R30). Delay bundles that remain come at the target. -/
def State.resume (s : State) (id n : Nat) : State :=
  match s.taskOf id with
  | none => s
  | some t =>
    let s := s.makeSeat t n
    let pinned := t.arch.loops.head?.any fun l => l.body.any fun p => (p : Int) == t.contPos
    let direct := t.hdr.cont == t.hdr.entry || pinned
    let t := { t.fenceAll with img := s.reloadImage { t with core := n } }
    let t1 := if direct then { t with pc := t.contPos }
      else { t with pc := (t.hdr.cont : Nat), delay := 0, redirect := .none
                    arch := { t.arch with s := Store.set 0 t.arch.s 57 (word t.contPos)
                                          owed := if 0 < t.delay then some ⟨t.contPos, t.delay, t.redirect⟩ else t.arch.owed } }
    let t1 := { t1 with pins := ({ s with core := n, cur := t1 } : State).repin.cur.pins }
    (({ s.seat t1 n with free := s.free + 1 } : State).resumeCheckpoint n t1.pc.toNat).focus s.core
/-- A core no longer held or wanted for a gang. -/
def CoreSt.without (c : CoreSt) (gang : Nat × Nat) : CoreSt :=
  { c with heldFor := if c.heldFor = some gang then none else c.heldFor, wanted := c.wanted.filter (· != gang) }
/-- The cores held for a gang that has been dispatched are held no longer (R295). -/
def State.unholdCores (s : State) (gang : Nat × Nat) : State := { s with cores := s.cores.map fun kv => (kv.1, kv.2.without gang) }
def State.launchItem (s : State) (i : Item) : State :=
  let s := i.place.foldl (fun (s : State) x => if i.start then s.dispatch x.1 x.2 else s.resume x.1 x.2) (s.setAge i 0)
  let s := { s with granted := s.granted.filter fun c => !i.place.any fun x => x.2 == c }
  match s.workOf i.work with
  | some w => if i.start then (i.place.foldl (fun (s : State) x => match s.taskOf x.1 with
      | some t => s.unholdCores (w.id, groupNo w.launch t.inst 0)
      | none => s) s).setWork { w with homes := w.homes.filter fun h => i.place.all fun x => match s.taskOf x.1 with | some t => groupNo w.launch t.inst 0 != h.gang | none => true } else s
  | none => s

/-- The clip latch of a running task set (R259, R301). -/
def State.clip (s : State) (id : Nat) : State :=
  match s.taskOf id with
  | some t => if t.status = .running then s.putTask { t with arch := { t.arch with clip := true } } else s
  | none => s
/-- The running tasks that could make way for a newcomer, the victim first (R301). -/
def State.preemptee (s : State) (die : Nat) (i : Item) : Option Task :=
  match s.taskOf i.task with
  | none => none
  | some new =>
    let cores : List Nat := if i.start then
        (match s.workOf i.work with
         | some w => (match w.homeOf (groupNo w.launch new.inst 0) with
           | some h => if w.spans then h.cores else s.coresIn (recDomain w.launch 0) h.inst
           | none => ((s.instances die (recDomain w.launch 0)).map (s.coresIn (recDomain w.launch 0))).flatten)
         | none => [])
      else s.resumeCores new
    let ok := fun (t : Task) => t.status == .running && cores.contains t.core && !(s.coreOf t.core).frozen && (s.roomOn new t.core).isSome
    (s.allTasks.filter ok).foldl (fun (b : Option Task) t => match b with
      | none => some t
      | some v => if t.prio < v.prio ∨ t.prio = v.prio ∧ t.core < v.core then some t else some v) none
/-- Pre-emption for a newcomer (R301). A clip latch that stands, be it for a used-up slice, is a pre-emption in progress (log entry 86). -/
def State.preempt (s : State) (die : Nat) (i : Item) : State :=
  let k := s.stackOf die
  match s.preemptee die i with
  | none => s
  | some v =>
    if i.prio ≤ v.prio ∨ (s.coreOf v.core).drainAt.isSome ∨ v.arch.clip then s
    else
      let gang := s.gangOf v
      if gang.all fun t => decide (s.estimate t ≤ k.drainMax) then
        gang.foldl (fun s t => if t.status = .running then s.setCore t.core { s.coreOf t.core with drainAt := some (s.time + k.drainMax) } else s) s
      else if v.hdr.restart && decide (k.killTokens ≤ i.prio - v.prio) then s.killTask v
      else gang.foldl (fun s t => s.clip t.id) s

/-- A decision of a die's scheduler (R297 to R301). Work that could start, and every task that could go on were its core free, grows
older where it is not chosen. -/
def State.decision (s : State) (die : Nat) : State :=
  let s := s.holdCores die
  let all := s.items die
  let s := match best all with
    | some top => if top.fit then s else s.preempt die top
    | none => s
  let ready := all.filter fun i => !i.place.isEmpty
  let older := fun (s : State) (c : Option Item) => (all.filter fun i => (!i.start || !i.place.isEmpty) && (match c with
    | some c => !(i.start == c.start && i.task == c.task)
    | none => true)).foldl (fun s i => s.setAge i (min 65535 (i.age + 1))) s
  match choose (s.stackOf die).slice ready with
  | none => older s none
  | some c => let c := goesFirst ready c; (older s (some c)).launchItem c
/-- A decision of a die would start, resume, hold or stop something. -/
def State.decides (s : State) (die : Nat) : Bool :=
  let s1 := s.holdCores die
  let all := s1.items die
  s1 != s || (all.any fun i => !i.place.isEmpty) || (match best all with | some top => !top.fit && s1.preempt die top != s1 | none => false)

/-- The scheduler has other work for a core, were its task switched out (R299, R303): eligible work of some die, other than the task, that a
decision made then would put on the core. -/
def State.workFor (s : State) (t : Task) : Bool :=
  let s1 := (List.range 4).foldl State.holdCores ((s.setCore t.core { s.coreOf t.core with task := 0 }).putTask { t with status := .killed })
  (List.range 4).any fun die => (s1.items die).any fun i => i.task != t.id && i.place.any fun x => x.2 == t.core

end Sys2Proof.Machine
end

