-- ==== Sys2Proof/Machine/Prepare.lean ====
section
/-! DEFINITION. Taking holds (R248, R312 to R315, R337): the checks before a task is dispatched, the preparation of its ranges,
room, suspension and recomputes (R320 to R322), save areas (R250). -/

namespace Sys2Proof.Machine

/-- The checks of R248, in their order: cause and detail words. -/
def State.headerRaise (s : State) (t : Task) (w : Work) : Option (Nat × List Nat) :=
  let r := s.idBytes (recHeader w.launch) 0 256
  let want := [t.hdr.topup, t.hdr.seq, t.hdr.sys]
  match (List.range 3).find? fun b => want.getD b false && !w.permit.testBit b with
  | some b => some (0x14, [4, b, 0, 0])
  | none =>
    let carry := s.sizeOf t.hdr.carry
    let blend := s.sizeOf t.hdr.blend
    match s.headerFault r with
    | some o => some (0x0D, [0xFFFFFFFF, 13, o, 0])
    | none =>
      if t.hdr.carry ≠ 0 ∧ (carry % 32 ≠ 0 ∨ 512 < carry) then some (0x0D, [0xFFFFFFFF, 13, 48, 0])
      else if blend = 0 ∨ blend % 48 ≠ 0 ∨ 196608 < blend then some (0x01, [1, 0, 0, 0])
      else none
/-- The checks of R312, R337 and R345 on one range. -/
def State.rangeRaise (s : State) (t : Task) (i : Nat) (h : Hold) : Option (Nat × List Nat) :=
  let bad := fun reason => some (0x0B, [i, h.id, reason, 0])
  let out := fun (n reason : Nat) => some (0x0B, [i, max h.first n, reason, 0xFF])
  if isProxy h.id then
    match (if fld h.id 12 16 = 0 then Store.look s.imports (importKey h.id) else none) with
    | none => bad 6
    | some e => if e.count < h.first + h.count then out e.count 3 else if h.mode &&& e.perms ≠ h.mode then out h.first 2 else none
  else
    match s.holdable h.id with
    | none => bad 6
    | some x =>
      if x.ro ∧ 2 ≤ h.mode then bad 5
      else if x.units < h.first + h.count then out x.units 3
      else if (x.seq ≠ 0 ∧ t.seq ≠ x.seq ∧ !t.hdr.seq) ∨ (2 ≤ h.mode ∧ x.paged ∧ t.seq ≠ x.seq) then bad 7
      else none
/-- Every check made before a task's first hold; the code, the blend and the carry tensor are held by the same rules (R314, R337). -/
def State.firstRaise (s : State) (t : Task) (w : Work) : Option (Nat × List Nat) :=
  match s.headerRaise t w with
  | some x => some x
  | none =>
    let l := s.ranges t
    ((List.range l.length).zip l).findSome? fun x => s.rangeRaise t x.1 x.2

/-- The pages that the ranges of a task need on a stack, tensor and page number, with the bytes of each in the form that the range's mode
needs (R315). -/
def State.pageNeeds (s : State) (t : Task) (stack : Nat) : List ((Nat × Nat) × Nat) :=
  ((s.rangesOn t stack).map fun x => match s.tensor x.2.id with
    | none => []
    | some e => (e.pagesOf (e.byteRange x.2).1 (e.byteRange x.2).2).map fun n => ((e.id, n), match s.page (e.entry n) with
        | some p => if x.2.mode = 1 then p.bytes else e.pageBytes
        | none => e.pageBytes)).flatten
/-- N and A of R315: a page that several ranges cover counts once in N; in A, a page that two tensors share counts for each (log entry 89). -/
def State.needOn (s : State) (t : Task) (stack : Nat) : Nat :=
  let l := s.pageNeeds t stack
  ((l.map (·.1)).eraseDups).foldl (fun acc k => acc + (l.filter (·.1 == k)).foldl (fun m x => max m x.2) 0) 0
def State.availOn (s : State) (stack : Nat) : Nat :=
  let saves := (s.cur :: s.tasks).foldl (fun acc t => if t.core / 12 = stack then acc + t.saveArea else acc) 0
  let fixed := (s.tensors.filter fun kv => homeOf kv.1 == stack && (s.actions kv.2).isEmpty).foldl (fun acc kv => acc + s.hbmOf kv.2) 0
  (s.stackOf stack).hbm - saves - fixed

/-- What an attempt at room or at a range comes to. -/
inductive Prepd
  | ok (s : State)
  | wait (s : State)
  | suspend (ids : List Nat)
  | bad (cause : Nat) (words : List Nat)

/-- The poisoned tile that a record at dispatch names (R329): of several, the lowest of the first page that has one (log entry 85). -/
def State.firstBad (s : State) (t : Tensor) : Nat × Nat :=
  (t.pages.findSome? fun kv => match s.page kv.2 with
    | some p => (p.bad.foldl (fun (b : Option Nat) x => some (match b with | some y => min x y | none => x)) none).map fun b => (kv.1, b)
    | none => none).getD (0, 0)
/-- A SEQF released and not done waits for the write holds of its parent (R340). -/
def State.forkWaits (s : State) (seq : Nat) : Bool := s.seqs.any fun kv => kv.2.st == .released && kv.2.parent == seq
/-- DROPPED tensors whose recipes read a tensor (R313). -/
def State.droppedOf (s : State) (id : Nat) : List Nat :=
  (s.tensors.filter fun kv => kv.2.st == .dropped && (match s.recipeOf kv.2 with | some r => r.inputs.any (·.1 == id) | none => false)).map (·.1)

/-- A recompute holds for writing a tensor that it was built to produce (R357). -/
def State.produces (s : State) (t : Task) (h : Hold) : Bool :=
  decide (2 ≤ h.mode) && (match s.workOf t.work with
    | some w => (match w.kind with | .lane _ => w.targets.contains h.id | _ => false)
    | none => false)
/-- A recompute of a tensor is in flight (R320). -/
def State.recomputing (s : State) (id : Nat) : Bool :=
  s.works.any fun w => w.onLane && w.targets.contains id
/-- The pages of a POISONED target of a recompute are freed before zero pages take their places (R357). -/
def State.dropBad (s : State) (t : Tensor) : State :=
  if t.pages.any fun kv => match s.page kv.2 with | some p => !p.bad.isEmpty | none => false then s.freePages t else s
/-- The page entries that lie under a range. -/
def State.entriesIn (s : State) (h : Hold) : List Nat :=
  match s.tensor h.id with
  | some t => ((t.pagesOf (t.byteRange h).1 (t.byteRange h).2).map t.entry).filter (· != 0)
  | none => []
/-- The claim of a task, or of the job that a task stands for, with one of its ranges. -/
def claimOf (t : Task) (i : Nat) (h : Hold) : Claim := ⟨t.id, if t.id = 0 then t.inst else 0, i, h⟩
/-- A claim stands while its task is HOLDING, or its job waits for its hold. -/
def State.claimStands (s : State) (c : Claim) : Bool :=
  if c.task = 0 then (match Store.look s.jobs c.job with | some j => !j.held | none => false)
  else (match s.taskOf c.task with | some t => t.status == .holding | none => false)
/-- A write-mode hold reaches the engine: it takes its place behind those that have reached it before (R360). -/
def State.claim (s : State) (c : Claim) : State :=
  let l := s.claims.filter s.claimStands
  { s with claims := if l.contains c then l else l ++ [c] }
def State.unclaim (s : State) (c : Claim) : State := { s with claims := s.claims.filter (· != c) }
/-- A write-mode hold of another agent that reached the engine earlier still waits to be prepared on one of the page entries (R360). -/
def State.behind (s : State) (c : Claim) : Bool :=
  (s.claims.takeWhile (· != c)).any fun x => (x.task != c.task || x.job != c.job) && (s.entriesIn x.hold).any (s.entriesIn c.hold).contains
/-- One range prepared (R313). A POISONED tensor without a recipe becomes RESIDENT at a hold of mode w over the whole of it (R311); its pages and
their codes stay as they are, and full-tile writes clear its tiles (log entry 85). -/
def State.prepareRange (s : State) (t : Task) (i : Nat) (h : Hold) : Prepd :=
  if isProxy h.id then .ok s
  else
    match s.holdable h.id with
    | none => .bad 0x0B [i, h.id, 6, 0]
    | some x =>
      let whole := h.mode == 2 && h.first == 0 && h.count == x.units
      let own := s.produces t h
      let lost := (x.st == .dropped || (x.st == .poisoned && x.rcp)) && !own
      if x.st = .moving then .wait s
      else if x.st = .void ∧ h.mode ≠ 2 then .wait (s.unclaim (claimOf t i h))
      else if 2 ≤ h.mode ∧ 0 < x.dropdep ∧ !own then .suspend (s.droppedOf h.id)
      else if lost ∧ (!whole ∨ s.recomputing h.id = true) then .suspend [h.id]
      else if x.st = .poisoned ∧ !x.rcp ∧ h.mode ≠ 2 ∧ !own then
        match s.firstBad x with | (p, b) => .bad 0x0F [h.id, p, b, 4]
      else if 2 ≤ h.mode ∧ x.paged ∧ s.forkWaits x.seq then .wait s
      else
        let c := claimOf t i h
        let s := if 2 ≤ h.mode then s.claim c else s
        let s := if lost then s.startOver x else if own && x.st == .poisoned then s.dropBad x
          else if x.st == .poisoned && whole then s.setTensor { x with st := .resident } else s
        let need := s.prepareNeed h
        let stack := homeOf h.id
        if (2 ≤ h.mode ∧ s.behind c) ∨ s.entriesLeft stack < s.prepareEntries h then .wait s
        else if need ≤ s.hbmFree stack then .ok ((s.preparePages h).unclaim c)
        else
          match s.makeRoom t stack need with
          | (s1, true) => if need ≤ s1.hbmFree stack then .ok ((s1.preparePages h).unclaim c) else .wait s1
          | (s1, false) =>
            let n := s1.needOn t stack
            let a := s1.availOn stack
            if a < n then .bad 0x19 [stack, ((s1.rangesOn t stack).head?.map (·.1)).getD 0, n, a] else .wait s1

/-- The operator of depth 0 that started a chain faults, and the tensors of its write slots become VOID (R322). Its record names a task that
has not run, as R364 has it: the first one that is suspended, else the first one not dispatched (log entry 85). -/
def State.chainFails (s : State) (origin id depth bound : Nat) : State :=
  let live := (s.tasksOf origin).filter fun t => !t.isOver
  match ((live.find? (·.status == .suspended)).or (live.find? Task.undispatched)).or live.head? with
  | none => s
  | some t =>
    let s := s.faultWith 2 t.id 0x12 0xFF [id, depth, bound, 0] t.hdr.entry
    let s := live.foldl (fun (s : State) x => match s.taskOf x.id with
      | some x => if x.status = .faulted then s else s.failTask x
      | none => s) s
    let ts := s.tasksOf origin
    let slots := match s.workOf origin with
      | some w => (slotsOf w.record).filterMap fun (sl : SlotRec) => if 2 ≤ sl.mode then some sl.id else none
      | none => []
    let s := ((slots ++ (ts.map fun x => x.writes.map (·.id) ++ x.owned).flatten).eraseDups).foldl State.voidTensor s
    (s.passHead origin).settleWork origin
/-- The recomputes of a chain that wait on one of the tensors given, directly or through others (R358). -/
def State.waitingLanes (s : State) (origin : Nat) (ids : List Nat) : Nat → List Work
  | 0 => []
  | n + 1 =>
    let ws : List Work := s.works.filter fun w => w.onLane && w.waiters.headD w.id == origin &&
      (s.tasksOf w.id).any fun t => t.waitsOn.any ids.contains
    if ws.isEmpty then [] else ws ++ s.waitingLanes origin (ws.map fun (x : Work) => x.targets).flatten n
/-- A task of a recompute that is cancelled (R358): it gives back what it has, its holds and its core included, and nothing is reported (log
entry 87). -/
def State.callOff (s : State) (t : Task) : State :=
  let s := (s.drainAll t.id).discardHeld t |>.cancelCopies t.id |>.dropTarget t.id
  let s := (s.leaveCore (t.clear .killed)).unholdTask t
  (t.created.foldl State.voidTensor s).leaveLaunches t.id
/-- A recompute and those that wait on it cancelled (R358): their tasks leave without running, the zero pages reserved to them are
freed. Others that wait on their tensors prepare again, each of them the root of a new chain. -/
def State.cancelLanes (s : State) (w : Work) (origin : Nat) : State :=
  match w.kind with
  | .lane _ =>
    let ws : List Work := w :: s.waitingLanes origin w.targets s.works.length
    let gone := ws.map (·.id)
    let ids := (ws.map fun (x : Work) => x.targets).flatten
    let s := (s.allTasks.filter fun t => gone.contains t.work && !t.isOver).foldl State.callOff s
    let s := ids.foldl (fun (s : State) id => match s.tensor id with | some t => if t.st = .dropped then s.freePages t else s | none => s) s
    let roots := (s.allTasks.filter fun t => t.status == .suspended && t.waitsOn.any ids.contains).map (·.work)
    let s := { s with works := s.works.map fun (x : Work) => if roots.contains x.id && !x.onLane then { x with bound := none } else x }
    ({ s with works := s.works.filter fun x => !gone.contains x.id, tasks := s.tasks.filter fun t => !gone.contains t.work }).resumeWaiters ids
  | _ => s
/-- The recompute of a lost tensor asked for (R320); false where the lane is full. A chain's bound is read when its first recompute is built,
and the root keeps it for those that follow (R322). A recompute of another chain that waits on a cancelled one goes on at its own depth, under
the bound of its own chain (R358, log entry 87). -/
def State.recompute (s : State) (t : Task) (id : Nat) : State × Bool :=
  match s.works.find? fun w => w.onLane && w.targets.contains id with
  | some w =>
    ((s.setWork { w with prio := max w.prio t.prio }).mapTasks fun x => if x.work = w.id then { x with prio := max x.prio t.prio } else x, true)
  | none =>
    match s.tensor id with
    | some x =>
      let w := (s.workOf t.work).getD (Work.make 0 (.queue 0 0) [] [])
      match s.recipeOf x with
      | none => (s, false)
      | some r =>
        let lane := w.onLane
        let bound := w.bound.getD (s.stackOf (t.queue / 64 % 4)).depth
        let origin := if lane then w.waiters.headD w.id else w.id
        let die := homeOf id
        if bound < w.depth + 1 then ((s.cancelLanes w origin).chainFails origin id (w.depth + 1) bound, true)
        else if 256 ≤ (s.works.filter fun y => decide (y.kind = .lane die)).length then (s, false)
        else
          let n := { Work.make s.nextWork (.lane die) r.record (s.idBytes x.rtemplate 0 256) with
                     prio := t.prio, est := recF r.record 8 4, queue := t.queue, entry := t.entry, owner := t.owner, permit := w.permit
                     depth := w.depth + 1, bound := some bound, waiters := [origin]
                     targets := (slotsOf r.record).filterMap fun (sl : SlotRec) => if 2 ≤ sl.mode then some sl.id else none }
          ((if lane then s else s.setWork { w with bound := some bound }).spawn n 0, true)
    | none => (s, false)
/-- A task still asks for recomputes: its chain has not failed and its recompute has not been cancelled meanwhile (R322, R358). Agents
without a task have number 0. -/
def State.asks (s : State) (t : Task) : Bool :=
  match s.taskOf t.id with
  | some x => x.status == .holding || x.status == .suspended
  | none => t.id == 0
/-- The recomputes of lost tensors asked for on behalf of a task, while it stands (R320). -/
def State.askAll (s : State) (t : Task) (ids : List Nat) : State :=
  ids.foldl (fun (s : State) id => if s.asks t then (s.recompute t id).1 else s) s
/-- The operator suspended until tensors are recomputed (R320). Where a lane is full, the request waits. -/
def State.suspend (s : State) (t : Task) (ids : List Nat) : State :=
  let s := s.askAll t ids
  if s.asks t then s.mapTasks fun x => if x.work = t.work ∧ x.status = .holding then { x with status := .suspended, waitsOn := (x.waitsOn ++ ids).eraseDups } else x
  else s
/-- A tensor is lost: a recompute can bring it back (R313). -/
def State.isLost (s : State) (id : Nat) : Bool :=
  match s.tensor id with
  | some x => x.st == .dropped || (x.st == .poisoned && x.rcp)
  | none => false
/-- The requests of a suspended task that a full lane left waiting, made again; where a tensor is lost no longer, the task prepares its holds
anew. -/
def State.askAgain (s : State) (t : Task) : State :=
  let ids := t.waitsOn.filter fun id => !s.recomputing id
  if ids.isEmpty then s
  else if ids.all s.isLost then s.askAll t ids
  else s.putTask { t with status := .holding, waitsOn := [] }

/-- The holds of a task taken all at once (R314). -/
def State.takeHolds (s : State) (t : Task) : State :=
  let ids := t.heldIds.filter fun id => !isProxy id
  if ids.any fun id => match s.tensor id with | some x => decide (65535 < x.holds + ids.count id) | none => false then s
  else
    let s := ids.foldl (fun (s : State) id => match s.tensor id with | some x => s.setTensor { x with holds := x.holds + 1 } | none => s) s
    s.putTask { t with status := .ready, held0 := true, reserved := [] }
/-- What the ranges of a task come to (R313): some still wait, some tensors must be recomputed first, or a cause is raised. -/
structure Ranges where
  st    : State
  waits : Bool
  lost  : List Nat
  bad   : Option (Nat × List Nat)
/-- A range that is prepared is reserved to its task from then on (R314). -/
def State.reserve (s : State) (id i : Nat) : State :=
  match s.taskOf id with | some t => if t.reserved.contains i then s else s.putTask { t with reserved := t.reserved ++ [i] } | none => s
/-- Every range of a task prepared in turn; one that must wait holds the others back from nothing (R313, R320). -/
def State.prepareAll (s : State) (t : Task) (l : List (Nat × Hold)) : Ranges :=
  l.foldl (fun (r : Ranges) x =>
    if r.bad.isSome then r
    else match r.st.prepareRange t x.1 x.2 with
      | .ok s => { r with st := s.reserve t.id x.1 }
      | .wait s => { r with st := s, waits := true }
      | .suspend ids => { r with lost := r.lost ++ ids }
      | .bad c ws => { r with bad := some (c, ws) }) ⟨s, false, [], none⟩
/-- HOLD_PREPARE: the checks at the first entry into HOLDING, then preparation, then the holds (R312 to R315); for a suspended task, the
requests that still wait (R320). -/
def State.holdPrepare (s : State) (id : Nat) : State :=
  match s.taskOf id with
  | none => s
  | some t =>
    match s.workOf t.work with
    | none => s
    | some w =>
      if t.status = .suspended then s.askAgain t
      else if t.status ≠ .holding then s
      else if t.held0 then s.putTask { t with status := .ready }
      else
        let t := if t.prepared then t
          else
            let n := s.mkTask w t.inst t.id w.seq
            { (if t.again then n.anew else n) with status := .holding, est := t.est, estAt := t.estAt }
        match (if t.prepared then none else s.firstRaise t w) with
        | some (c, ws) => (s.putTask t).taskFault id c 0xFF ws t.hdr.entry
        | none =>
          let s := if t.prepared then s else s.drainAfter w
          let t := { t with prepared := true }
          let l := s.ranges t
          let r := (s.putTask t).prepareAll t ((List.range l.length).zip l)
          let t1 := (r.st.taskOf id).getD t
          match r.bad with
          | some (c, ws) => r.st.taskFault id c 0xFF ws t.hdr.entry
          | none => if !r.lost.isEmpty then r.st.suspend t1 r.lost.eraseDups else if r.waits then r.st else r.st.takeHolds t1

/-- The stack on which a task that starts takes its save area: its die, or that of the core chosen for it. -/
def State.saveStack (s : State) (w : Work) (t : Task) : Option Nat :=
  if recDomain w.launch 0 < 4 then some w.die
  else
    let ts := s.nextStart w
    (s.startCores w ts).bind fun cs => ((ts.zip cs).find? fun x => x.1.id == t.id).map fun x => x.2 / 12
/-- The stack of a task that starts lacks room for the save areas of those that start with it (R250). -/
def State.saveShort (s : State) (w : Work) (t : Task) : Bool :=
  match s.saveStack w t with
  | none => false
  | some k => decide (s.hbmFree k < (((s.nextStart w).filter fun x => s.saveStack w x == some k).foldl (fun acc x => acc + x.saveOn k) 0))
/-- SAVE_AREA_RESERVE: the save area of a READY task, or one action towards its room (R250). -/
def State.saveReserve (s : State) (id : Nat) : State :=
  match s.taskOf id with
  | none => s
  | some t =>
    match s.workOf t.work with
    | none => s
    | some w =>
      match s.saveStack w t with
      | none => s
      | some die =>
        if t.status ≠ .ready ∨ t.saveOn die = 0 then s
        else if t.saveOn die ≤ s.hbmFree die then s.putTask { t with saveArea := t.hdr.save, core := 12 * die }
        else (s.makeRoom t die t.hdr.save).1

end Sys2Proof.Machine
end

