-- ==== Sys2Proof/Machine/Front.lean ====
section
/-! DEFINITION. What a core does before the slots of a bundle execute (R27 to R44, R252, R259): fetch, legality, the span, the
checkpoint, the charge. -/

namespace Sys2Proof.Machine

/-- A bundle that breaks none of R31 and R41 to R43, with its position and the position after it. -/
structure Fetched where
  bundle : Bundle
  pos    : Nat
  next   : Nat
/-- The bundle at the code position of the task in focus, or the cause that its issue raises (R31, R44, R341). -/
def State.fetched (s : State) : Raise ⊕ Fetched :=
  let pc := s.cur.pc
  let at_ := if 0 ≤ pc ∧ pc < 2 ^ 32 then s.bundleAt pc.toNat else none
  match (if 0 ≤ pc ∧ pc < 2 ^ 32 then s.fetchMeet pc.toNat else none), at_ with
  | some m, _ => .inl ⟨m.cause, 0xFF, m.words, none⟩
  | none, none => .inl (s.badWord pc)
  | none, some (b, n) =>
    match decodeBundle b with
    | .error e => .inl ⟨2, e.slot, [e.item, 0, 0, 0], none⟩
    | .ok d =>
      match s.legality d pc.toNat with
      | some r => .inl r
      | none => .inr ⟨d, pc.toNat, pc.toNat + n⟩

/-- Results of earlier bundles land by the present clock (R37). -/
def State.settled_ (s : State) : State := { s with cur := s.cur.settle s.clk }
/-- The bundle as the slots see it: its position, the budgets before its charge (R111). -/
def State.enterBundle (s : State) (f : Fetched) (ckpt : Bool) : State :=
  let a := s.cur.arch
  { s with ctx := ⟨.s0, f.pos, f.next, a.bgi, a.bgt, a.bgs, ckpt, .ran⟩ }
/-- Span overrun (R258, R259); a bundle that is charged nothing has none (R103). -/
def State.overrun (s : State) (b : Bundle) : Option Raise :=
  let c := bundleI s.cur b
  if unpriced s.cur b then none
  else if s.cur.hdr.span < s.cur.arch.bgs + c then some ⟨8, 0xFF, [s.cur.arch.bgs, c, s.cur.hdr.span, 0], none⟩ else none
/-- The checks of R230 on a yield bundle, raised by its S1; a frame fault has been found before (R44). -/
def State.yieldCheck (s : State) (b : Bundle) : Option Raise :=
  b.ops.findSome? fun p => match p.2 with
    | .yld c _ => ({ s with ctx := { s.ctx with slot := .s1 } } : State).yldFault c
    | _ => none
/-- What a bundle does before its charge: a cause, a wait, or the checkpoint of a CK bundle. -/
def State.before (s : State) (f : Fetched) : Prep :=
  match s.overrun f.bundle with
  | some r => .bad s r
  | none =>
    match s.yieldCheck f.bundle with
    | some r => .bad s r
    | none => if f.bundle.ck then s.prep f.bundle.yd else .done s
/-- The charge of a bundle (R259, R299), but for one whose MMA names an invalid descriptor (R103). -/
def State.charged (s : State) (b : Bundle) : State :=
  let c := bundleI s.cur b
  let g := s.bundleT b
  if unpriced s.cur b then s
  else { s with cur := { s.cur with arch := s.cur.arch.charge c g, slice := s.cur.slice - c } }

end Sys2Proof.Machine
end

