-- ==== Sys2Proof/Machine/Agents.lean ====
section
/-! DEFINITION. The steps of cores, engines and schedulers that no slot carries: array operations, checkpoints, waits that become
switches, saves, decisions, holds, moves, copies, errors in flight (R178 to R180, R207, R211, R215, R216, R250 to R261, R290 to
R301, R313, R317, R326, R340, R365). -/

namespace Sys2Proof.Machine

/-- The running task of a core. -/
def State.runner (s : State) (n : Nat) : Option Task := s.taskOf (s.coreOf n).task

/-- ARRAY_OP_START (R178). -/
def execArrayOpStart (core : Nat) (s : State) : Host.Outcome State Fault Refusal :=
  .next (match s.runner core with | some t => s.putTask t.startArray | none => s)
/-- ARRAY_OP_END (R180). -/
def execArrayOpEnd (core : Nat) (s : State) : Host.Outcome State Fault Refusal :=
  .next (match s.runner core with | some t => if t.arrayDue then s.putTask t.endArray else s | none => s)

/-- CHECKPOINT_BUNDLE (R252): the bundle to be issued next on a core, with CK set, once its waits are over. -/
def execCheckpointBundle (core : Nat) (s : State) : Host.Outcome State Fault Refusal :=
  let s := (s.focus core).settled_
  match s.fetched with
  | .inl _ => .next s
  | .inr f =>
    if s.cur.id = 0 ∨ !f.bundle.ck then .next s
    else
      match (s.enterBundle f true).before f with
      | .done s1 => .next s1
      | .wait s1 => .next s1
      | .bad s1 r => s1.raised r

/-- SEQF_RELEASE (R340). -/
def execSeqfRelease (parent child : Nat) (s : State) : Host.Outcome State Fault Refusal := .next ((s.forkSeq parent child).getD s)

/-- The WAITK of the held bundle whose promise TIME has reached, with its slot and its token (R211). -/
def State.missed (s : State) (f : Fetched) : Option (Slot × Nat) :=
  f.bundle.ops.findSome? fun p => match p.2 with
    | .waitk g k =>
      let t := s.tokenUp (s.cur.arch.token k)
      if s.guardOn g && t.st == .pending && !s.tokenHeld t && decide (s.tokenPromise t ≤ s.time) then some (p.1, k) else none
    | _ => none
/-- PROMISE_MISSED (R211): the bundle does not issue, and is charged nothing (R259). -/
def execPromiseMissed (core : Nat) (s : State) : Host.Outcome State Fault Refusal :=
  let s := (s.focus core).settled_
  match s.fetched with
  | .inl _ => .next s
  | .inr f =>
    match (if s.cur.waitAt.isSome then s.missed f else none) with
    | some (slot, k) =>
      let p := s.tokenPromise (s.tokenUp (s.cur.arch.token k))
      (s.enterBundle f false).raised ⟨0x0A, slot.number, [k, p, s.time, slot.number], none⟩
    | none => .next s

/-- A held wait is a switch point (R260). -/
def State.switchPoint (s : State) : Bool :=
  match s.cur.waitAt with
  | none => false
  | some a =>
    !s.cur.wait.isEmpty && !s.cur.wait.all (s.waitOver s.cur) && !s.targeted s.cur.id && s.cur.quiet s.clk &&
      (s.cur.yieldPending || s.cur.stop || (decide (a + (s.stackOf s.stackNo).waitth ≤ s.time) && s.workFor s.cur))
/-- WAIT_SWITCH_POINT (R260): an implicit checkpoint at the held bundle, and a full switch. -/
def execWaitSwitchPoint (core : Nat) (s : State) : Host.Outcome State Fault Refusal :=
  let s := (s.focus core).settled_
  if s.cur.id = 0 ∨ !s.switchPoint then .next s
  else
    let s := { s with ctx := { s.ctx with pos := s.cur.pc.toNat }, cur := s.cur.landAll }
    match s.release with
    | (s1, some r) => s1.raised r
    | (s1, none) => .next ((s1.checkpoint s1.cur.pc.toNat).fullSwitch 8 s1.cur.pc.toNat)

/-- SAVE_PARKED_TASK (R261). -/
def execSaveParkedTask (task : Nat) (s : State) : Host.Outcome State Fault Refusal :=
  .next (match s.taskOf task with | some t => if t.status = .parked ∧ s.settled t then s.saveTask t else s | none => s)
/-- SAVE_AREA_RESERVE (R250). -/
def execSaveAreaReserve (task : Nat) (s : State) : Host.Outcome State Fault Refusal := .next (s.saveReserve task)
/-- SCHEDULER_DECISION (R297 to R301). -/
def execSchedulerDecision (die : Nat) (s : State) : Host.Outcome State Fault Refusal := .next (s.decision die)
/-- SLICE_EXHAUSTED (R299). -/
def execSliceExhausted (core : Nat) (s : State) : Host.Outcome State Fault Refusal :=
  .next (match s.runner core with
    | some t =>
      if 0 < t.slice ∨ t.arch.clip then s
      else if s.workFor t then s.clip t.id else s.putTask { t with slice := (s.stackOf (core / 12)).slice }
    | none => s)
/-- DRAIN_MAX_EXPIRY (R301). -/
def execDrainMaxExpiry (core : Nat) (s : State) : Host.Outcome State Fault Refusal :=
  .next (match (s.coreOf core).drainAt with
    | some d => if s.time < d then s else (s.setCore core { s.coreOf core with drainAt := none }).clip (s.coreOf core).task
    | none => s)
/-- GANG_HOLD_REQUEST (R295): the leading scheduler of the oldest gang here that still lacks one of the cores asks, or one of another device
(log entry 84); the core is held once it is free. -/
def execGangHoldRequest (die : Nat) (cores : List Nat) (s : State) : Host.Outcome State Fault Refusal :=
  let here := cores.filter fun c => decide (c < 48) && c / 12 == die
  .next (match s.allGangs.find? fun x => here.any (s.unasked x die).contains with
    | some x => s.want (x.1.id, x.2) (here.filter (s.unasked x die).contains)
    | none => if 1 < s.env.devices then s.want foreignGang here else s)
/-- OPERATOR_HEAD (R289, R290). -/
def execOperatorHead (queue : Nat) (s : State) : Host.Outcome State Fault Refusal := .next (s.operatorHead queue)
/-- HOLD_PREPARE (R312 to R314). -/
def execHoldPrepare (task : Nat) (s : State) : Host.Outcome State Fault Refusal := .next (s.holdPrepare task)
/-- MOVE_COMPLETE (R311, R317). -/
def execMoveComplete (tensor : Nat) (s : State) : Host.Outcome State Fault Refusal := .next (s.moveDone tensor)
/-- COPY_COMPLETE (R207, R209, R215). -/
def execCopyComplete (copy : Nat) (s : State) : Host.Outcome State Fault Refusal := .next (s.finishCopy copy)

/-- A metadata error meets a copy that writes the whole tile: the write stands, and the writer does not fault (R326). -/
def State.fullWrite (c : Copy) (off : Nat) (m : Meet) : Bool :=
  m.cause == 0x0F && m.words.getD 3 0 == 2 && !c.kind.reads && c.covers (off / 256 * 256)
/-- The walk engine of a core frozen for a violation of one of its copies (R370): each copy in it ends in 0x10, the others with an element
offset that the manual does not give (log entry 71). -/
def State.freezeWalk (s : State) (c : Copy) (why : Nat) (ws : List Nat) : State :=
  let s := (s.setCore c.core { s.coreOf c.core with walkFrozen := true }).masterNotice 2 c.core why (ws.getD 0 0)
  let rest := s.copies.filter fun d => d.core == c.core && d.st == .active && d.id != c.id
  rest.foldl (fun (s : State) d => if (s.copyOf d.id).isSome then
      ({ s with free := s.free + 1 } : State).copyEnd 16 d 0x10 [d.hold.id, Config.freeNat s.free 0, ws.getD 2 0, 0xFF] else s)
    (s.copyEnd 16 c 0x10 ws)
/-- What an error gives a copy at one of its element accesses (R207, R329, R356). -/
def State.copyMeet (s : State) (c : Copy) (off : Nat) (e : AccessErr) : Option Meet :=
  s.errorOf e ⟨c.hold.id, off / c.esz - c.hold.first, off, c.esz⟩ c.kind.reads 0xFF
/-- An error comes too early for the access of an ordinal of a copy: a link timeout (R346). -/
def State.earlyFor (s : State) (c : Copy) (e : CopyErr) : Bool := s.early e.err (Store.look c.sent e.ordinal)
/-- COPY_ERROR (R207, R326, R370): an error meets a copy at an element access still to be made, or a routine of its chain signals one
(R218). -/
def execCopyError (copy : Nat) (e : CopyErr) (s : State) : Host.Outcome State Fault Refusal :=
  .next (match (s.copyOf copy).filter (·.st == .active) with
    | none => s
    | some c =>
      match e.err, (Store.look c.todo e.ordinal).bind (·.tens) with
      | .routine code, _ => if c.kind = .cpxf ∧ !c.chain.isEmpty then s.copyFail c 0x0D [16 + c.num, 10, code, c.slot] else s
      | _, none => s
      | err, some off =>
        match (if s.earlyFor c e then none else s.copyMeet c off err) with
        | none => s
        | some m =>
          match violation m.cause m.words with
          | some why => s.freezeWalk c why m.words
          | none =>
            if isProxy c.hold.id then s.copyFail c m.cause m.words
            else if State.fullWrite c off m then
              ((s.wordTiles c.hold.id (m.words.getD 2 0)).filter (· != m.words.getD 2 0)).foldl (fun s i => s.poisonTile c.hold.id (m.words.getD 1 0) i) s
            else (s.loseTiles m.cause m.words).copyFail c m.cause m.words)
/-- A routine reaches outside its buffers (R216, R370): the transform core is frozen, and every copy in it ends. -/
def State.xfViolation (s : State) (core : Nat) : State :=
  match s.copies.filter fun c => c.core == core && c.st == .active && c.kind == .cpxf with
    | [] => s
    | c :: rest =>
      let s := (s.setCore core { s.coreOf core with xfFrozen := true }).masterNotice 3 core 3 c.hold.id
      (c :: rest).foldl (fun s c => { s.copyEnd 16 c 0x0D [16 + c.num, 10, Config.freeNat s.free 0, c.slot] with free := s.free + 1 }) s
/-- TRANSFORM_VIOLATION (R216, R370). -/
def execTransformViolation (core : Nat) (s : State) : Host.Outcome State Fault Refusal := .next (s.xfViolation core)
/-- A transform core has something to do: an instruction of the routine that it runs, or a chain that waits for it. -/
def State.xfWaits (s : State) (n : Nat) : Option Copy :=
  s.copies.find? fun c => c.core == n && c.st == .active && c.kind == .cpxf && c.todo.isEmpty && !c.chain.isEmpty
def State.xfBusy (s : State) (n : Nat) : Bool :=
  ((s.coreOf n).xf.run.isSome || (s.xfWaits n).isSome) && (s.coreOf n).xf.ranAt != some (s.stackOf (n / 12)).c.cyc
/-- A turn of a transform core (R216 to R218): the instruction at its pc. A call hands over to the walk engine, which serves it, ends the link
or takes it for an error; a copy that is no more stops its routine; else the first chain that waits goes on (log entry 91). -/
def State.xfTurn (s : State) (n : Nat) : State :=
  let core := s.coreOf n
  let tag := s.free
  let s1 : State := { s with free := s.free + 16 }
  let with_ := fun (x : XfCore) => s1.setCore n { core with xf := { x with ranAt := some (s.stackOf (n / 12)).c.cyc } }
  match core.xf.run with
  | none => match s.xfWaits n with
    | some c => s.chainGo c.id (c.chain.length + 1)
    | none => s
  | some r =>
    match (s.copyOf r.copy).filter (·.st == .active) with
    | none => with_ { core.xf with run := none }
    | some c =>
      let ended := fun (x : XfCore) (out : Option (List Byte)) =>
        let s2 := with_ { x with run := none }
        match out with
        | some l => (s2.linkDone c l).chainGo c.id (c.chain.length + 1)
        | none => s2.linkFails c
      match rvStep tag s.xfMem core.xf with
      | .next x => with_ x
      | .reach => s1.xfViolation n
      | .illegal => if Config.choice tag 0 % 2 = 1 then s1.xfViolation n else ended core.xf none
      | .call x =>
        let y := x.served tag r
        let out := match y.run with | some q => q.out | none => []
        match Config.choice tag 0 % 3 with
        | 0 => if lkOut r.block < out.length then ended y none else with_ y
        | 1 => ended y (linkOut r.block out)
        | _ => ended y none
/-- SOFT_ERROR (R365, R372): in an on-core store of a task, or in its carry image, where the record's DISPATCH is clear. -/
def execSoftError (task store place : Nat) (s : State) : Host.Outcome State Fault Refusal :=
  .next (match s.taskOf task with
    | some t =>
      let here := t.status == .running || t.status == .parked
      if (here ∧ 1 ≤ store ∧ store ≤ 3) ∨ (t.status = .saved ∧ store = 4) then
        (if store = 4 then s.putTask { t with began := true } else s).taskFault task 0x0F 0xFF [store, place, 0, 5] (scode t.pc 32)
      else s
    | none => s)

end Sys2Proof.Machine
end

