-- ==== Sys2Proof/Machine/Bridge.lean ====
section
/-! DEFINITION. The host bridge: commands, queue and fault-area registers (R284 to R286, R304, R331, R343 to R351, R368, R370,
R384), and the accesses of the host and of other devices (R346, R351, R386). -/

namespace Sys2Proof.Machine

/-- A command's status and result (R348, R349); the function is busy with it no longer. -/
def State.reply (s : State) (c : Cmd) (status result : Nat) : State :=
  s.setFn c.fn { s.fnOf c.fn with status := status, result := result, busy := false }
/-- A command that the bridge takes: start-up has ended (R382), the function is not frozen (R370), and the context that it
names is one of the function's (R347). -/
def State.take (s : State) (c : Cmd) (k : State) : Host.Outcome State Fault Refusal :=
  if s.bootstat ≠ 0 ∨ (s.fnOf c.fn).frozen then .next s
  else if s.fnOfCtx c.ctx ≠ c.fn ∧ c.fn ≠ 0 then .next (s.reply c 3 0)
  else .next k
/-- Who may control a task or a queue of an owner context (R304). -/
def State.controls (s : State) (c : Cmd) (owner : Nat) : Bool := c.fn == 0 || c.ctx == owner || s.ctxSys.contains c.ctx
/-- Who may use an object of a context: the management function, and the function that the context is assigned to (R347). -/
def State.owns (s : State) (c : Cmd) (owner : Nat) : Bool := c.fn == 0 || s.fnOfCtx owner == c.fn
/-- A function reaches a queue (R347). -/
def State.reaches (s : State) (fn queue : Nat) : Bool := fn == 0 || s.fnOfCtx (s.queueOf queue).owner == fn
/-- What an intake or a decode record names is the function's: its owner context, and the queue of its completion operator (R347). -/
def State.ownsRecord (s : State) (c : Cmd) (ctx ref : Nat) : Bool :=
  s.owns c ctx && (ref == 0 || decide (256 ≤ fld ref 32 16) || s.reaches c.fn (fld ref 32 16))

/-- REFILL (R304). -/
def execRefill (c : Cmd) (task bgi bgt : Nat) (s : State) : Host.Outcome State Fault Refusal :=
  s.take c (match s.taskOf task with
    | none => s.reply c 1 0
    | some t =>
      if !s.controls c t.owner then s.reply c 3 0
      else if t.status ≠ .parked ∧ t.status ≠ .saved then s.reply c 1 0
      else
        let i := min (t.arch.bgi + bgi) topBudget
        let g := min (t.arch.bgt + bgt) topBudget
        (s.putTask { t with arch := { t.arch with bgi := i, bgt := g, exhausted := if 0 < i ∧ 0 < g then false else t.arch.exhausted } }).reply c 0 0)
/-- KILL (R302, R304). -/
def execKill (c : Cmd) (task : Nat) (s : State) : Host.Outcome State Fault Refusal :=
  s.take c (match s.taskOf task with
    | none => s.reply c 1 0
    | some t =>
      if !s.controls c t.owner then s.reply c 3 0
      else if t.status = .ended ∨ t.status = .faulted ∨ t.status = .killed then s.reply c 1 0
      else if !t.hdr.restart then s.reply c 2 0
      else (s.killTask t).reply c 0 0)
/-- FREEZE (R286, R304). -/
def execFreeze (c : Cmd) (queue : Nat) (s : State) : Host.Outcome State Fault Refusal :=
  s.take c (if 256 ≤ queue then s.reply c 1 0
    else if !s.controls c (s.queueOf queue).owner then s.reply c 3 0
    else if (s.queueOf queue).st = .disabled then s.reply c 1 0
    else (s.freezeQueue queue).reply c 0 0)
/-- THAW (R286, R304, R368). -/
def execThaw (c : Cmd) (queue : Nat) (s : State) : Host.Outcome State Fault Refusal :=
  s.take c (if 256 ≤ queue then s.reply c 1 0
    else if !s.controls c (s.queueOf queue).owner then s.reply c 3 0
    else if (s.queueOf queue).st ≠ .frozen then s.reply c 1 0
    else (s.thawQueue queue).reply c 0 0)
/-- The master of a kind and number without its freeze; none where it is not frozen (R370). -/
def State.unfreeze (s : State) (kind n : Nat) : Option State :=
  let k := s.coreOf n
  match kind with
  | 1 => if n < 48 && k.frozen then some (s.setCore n { k with frozen := false }) else none
  | 2 => if n < 48 && k.walkFrozen then some (s.setCore n { k with walkFrozen := false }) else none
  | 3 => if n < 48 && k.xfFrozen then some (s.setCore n { k with xfFrozen := false }) else none
  | 4 => if s.decFrozen.contains n then some { s with decFrozen := s.decFrozen.filter (· != n) } else none
  | 5 => if (s.fnOf n).frozen then some (s.setFn n { s.fnOf n with frozen := false }) else none
  | _ => none
/-- UNFREEZE (R370). -/
def execUnfreeze (c : Cmd) (kind number : Nat) (s : State) : Host.Outcome State Fault Refusal :=
  s.take c (if c.fn ≠ 0 then s.reply c 3 0
    else match s.unfreeze kind number with | some s1 => s1.reply c 0 0 | none => s.reply c 1 0)
/-- CTXSYS (R349). -/
def execCtxsys (c : Cmd) (context grant : Nat) (s : State) : Host.Outcome State Fault Refusal :=
  s.take c (if c.fn ≠ 0 then s.reply c 3 0
    else if 4096 ≤ context ∨ 2 ≤ grant then s.reply c 5 0
    else
      let rest := s.ctxSys.filter (· != context)
      ({ s with ctxSys := if grant = 1 then context :: rest else rest }).reply c 0 0)

/-- SEQNEW (R333, R349). -/
def execSeqnew (c : Cmd) (s : State) : Host.Outcome State Fault Refusal :=
  s.take c (match s.seqReserve .reserved c.ctx 0 with
    | none => s.reply c 4 0
    | some (id, s1) =>
      match Store.look s1.seqs id with
      | some r => (s1.seqLive id r []).reply c 0 id
      | none => s.reply c 4 0)
/-- SEQEND (R341). -/
def execSeqend (c : Cmd) (seq : Nat) (s : State) : Host.Outcome State Fault Refusal :=
  s.take c (match Store.look s.seqs seq with
    | none => s.reply c 1 0
    | some r =>
      if !s.owns c r.owner then s.reply c 3 0
      else if r.st ≠ .live then s.reply c 1 0
      else (s.endSeq seq).reply c 0 0)
/-- The sequence record of R331. -/
def State.seqBytes (s : State) (id : Nat) (r : SeqRec) : List Byte :=
  let st := match r.st with | .live => 1 | .ended => 2 | _ => 0
  let mask := (List.range 16).foldl (fun m i => if (s.pagedOf id).any (fun t => fld t.id 24 4 == i) then m + 2 ^ i else m) 0
  leBytes (id + st * 2 ^ 24) 4 ++ leBytes r.owner 2 ++ leBytes r.slot 2 ++ leBytes r.parent 4 ++ leBytes mask 2 ++ leBytes r.readers.length 1
    ++ leBytes 0 1 ++ ((List.range 16).map fun i => leBytes (r.readers.getD i 0) 2).flatten ++ leBytes 0 16
/-- SEQREAD (R331). -/
def execSeqread (c : Cmd) (seq addr : Nat) (s : State) : Host.Outcome State Fault Refusal :=
  s.take c (match Store.look s.seqs seq with
    | none => s.reply c 1 0
    | some r =>
      if !s.owns c r.owner then s.reply c 3 0
      else if r.st ≠ .live ∧ r.st ≠ .ended then s.reply c 1 0
      else { s with hostMem := Memory.setBytes s.hostMem addr (s.seqBytes seq r) }.reply c 0 0)

/-- The operands of PTCREATE are well formed (R335, R349). -/
def ptOk (p : PtSpec) : Bool :=
  let rest := p.extents.tail.foldl (· * ·) 1
  let page := p.pgsz * 4096
  let z := elemBytes p.fmt
  decide (p.index ≤ 15) && decide (p.stack ≤ 3) && (ET.ofCode p.fmt).isSome && decide (1 ≤ p.extents.length) && decide (p.extents.length ≤ 6)
    && p.extents.all (fun x => 0 < x && x < 2 ^ 32) && decide (1 ≤ p.pgsz) && decide (p.pgsz ≤ 16) && decide (p.coh ≤ 2)
    && page % (rest * z) == 0 && decide (1 ≤ page / (rest * z)) && decide (page / (rest * z) ≤ 256)
/-- PTCREATE (R335, R349). -/
def execPtcreate (c : Cmd) (spec : PtSpec) (s : State) : Host.Outcome State Fault Refusal :=
  s.take c (match Store.look s.seqs spec.seq with
    | none => s.reply c 1 0
    | some r =>
      let id := pagedId spec.stack spec.index spec.seq
      if !s.owns c r.owner then s.reply c 3 0
      else if !ptOk spec then s.reply c 5 0
      else if r.st ≠ .live ∨ (s.pagedOf spec.seq).any (fun t => fld t.id 24 4 == spec.index) then s.reply c 1 0
      else if 2 ^ 18 ≤ s.homed spec.stack then s.reply c 4 0
      else
        (s.setTensor { Tensor.make id spec.fmt spec.extents spec.seq r.slot with
                       pgsz := spec.pgsz, coh := spec.coh, paged := true, nodrop := true }).reply c 0 id)
/-- The levels of a page-list tree (R309, R335). -/
def Tensor.levels (t : Tensor) : Nat :=
  let n := (t.size + t.pageBytes - 1) / t.pageBytes
  if t.pages.isEmpty then 0 else if n ≤ 1024 then 1 else if n ≤ 1024 * 512 then 2 else 3
/-- The tensor record of R309. -/
def Tensor.recBytes (t : Tensor) : List Byte :=
  let flag := fun (b : Bool) (n : Nat) => if b then 2 ^ n else 0
  leBytes (t.id + t.st.code * 2 ^ 32 + t.seq * 2 ^ 40 + t.cap0 * 2 ^ 64 + t.keyslot * 2 ^ 96 + flag t.paged 109 + flag t.ro 110 + flag t.tdef 111
    + flag t.nodrop 112 + flag t.nopack 113 + flag t.nospill 114 + flag t.rcp 115 + t.rank * 2 ^ 116 + t.fmt * 2 ^ 120 + t.size * 2 ^ 128
    + t.rest * 2 ^ 192 + t.e0 * 2 ^ 224 + t.next * 2 ^ 256 + t.epoch * 2 ^ 288 + t.ridx * 2 ^ 320 + t.rtemplate * 2 ^ 352 + t.pgsz * 2 ^ 384
    + t.root * 2 ^ 400 + t.levels * 2 ^ 440 + t.dropdep * 2 ^ 464 + t.poison * 2 ^ 480 + t.holds * 2 ^ 496) 64
/-- The owner of a tensor: the context that owns its sequence; none for a tensor of no sequence. -/
def State.ownerOf (s : State) (t : Tensor) : Option Nat := if t.seq = 0 then none else (Store.look s.seqs t.seq).map (·.owner)
/-- RECREAD (R309, R349). -/
def execRecread (c : Cmd) (tensor addr : Nat) (s : State) : Host.Outcome State Fault Refusal :=
  s.take c (match s.tensor tensor with
    | none => s.reply c 1 0
    | some t =>
      if !(match s.ownerOf t with | some o => s.owns c o | none => true) then s.reply c 3 0
      else { s with hostMem := Memory.setBytes s.hostMem addr t.recBytes }.reply c 0 0)

/-- EXPORT (R344, R349). -/
def execExportWindow (c : Cmd) (tensor first count perms : Nat) (s : State) : Host.Outcome State Fault Refusal :=
  s.take c (match s.holdable tensor with
    | none => s.reply c 1 0
    | some t =>
      if !(match s.ownerOf t with | some o => s.owns c o | none => true) then s.reply c 3 0
      else if count = 0 ∨ t.units < first + count ∨ 8 ≤ perms then s.reply c 5 0
      else
        match s.pick ((List.range 65536).filter fun i => match Store.look s.exports i with | some e => !e.live | none => true) with
        | none => s.reply c 4 0
        | some i =>
          let key := Config.freeNat s.free 1 % 2 ^ 64
          let gen := match Store.look s.exports i with | some e => e.gen | none => 0
          let f := s.fnOf c.fn
          let buf := f.cmdbuf % 2 ^ 64 + key * 2 ^ 64 + f.cmdbuf / 2 ^ 128 * 2 ^ 128
          ({ s.used with exports := Store.put i ⟨true, tensor, first, count, key, gen, perms, c.ctx⟩ s.exports }.setFn c.fn
            { f with cmdbuf := buf }).reply c 0 i)
/-- UNEXPORT (R344, R349). -/
def execUnexport (c : Cmd) (index : Nat) (s : State) : Host.Outcome State Fault Refusal :=
  s.take c (match Store.look s.exports index with
    | none => s.reply c 1 0
    | some e =>
      if !e.live then s.reply c 1 0
      else if !s.owns c e.owner then s.reply c 3 0
      else { s with exports := Store.put index { e with live := false, gen := (e.gen + 1) % 2 ^ 32 } s.exports }.reply c 0 0)
/-- IMPORT (R345, R349). -/
def execImportWindow (c : Cmd) (spec : ImportSpec) (s : State) : Host.Outcome State Fault Refusal :=
  s.take c (
    if 16 ≤ spec.member ∨ 65536 ≤ spec.index ∨ 4 ≤ spec.stack ∨ 8 ≤ spec.perms ∨ !fmtOk spec.fmt then s.reply c 5 0
    else if spec.count = 0 then s.reply c 1 0
    else
      match s.pick ((List.range 4096).filter fun i => (Store.look s.imports (spec.stack * 4096 + i)).isNone) with
      | none => s.reply c 4 0
      | some i =>
        let e : ImportEnt := ⟨spec.member, spec.index, spec.key, spec.count, spec.fmt, spec.perms, c.ctx, spec.epoch, spec.gen⟩
        { s.used with imports := Store.put (spec.stack * 4096 + i) e s.imports }.reply c 0 (spec.stack * 2 ^ 30 + 3 * 2 ^ 28 + i))
/-- UNIMPORT (R349). -/
def execUnimport (c : Cmd) (proxy : Nat) (s : State) : Host.Outcome State Fault Refusal :=
  s.take c (match (if isProxy proxy ∧ fld proxy 12 16 = 0 then Store.look s.imports (importKey proxy) else none) with
    | none => s.reply c 1 0
    | some e =>
      if !s.owns c e.owner then s.reply c 3 0
      else { s with imports := Store.del (importKey proxy) s.imports }.reply c 0 0)

/-- The bytes of a SHA3-256 digest. -/
def digestBytes (m : List Byte) : List Byte := leBytes (sha3 m).toNat 32
/-- The first two conditions of R383: the signature over the digest of the body verifies, and the key is the one that the fuses name. -/
def signedFor (i : FwImage) (f : Fuses) : Bool := dsaVerify i.key (digestBytes i.body) i.signature && sha3 i.key == f.keyDigest
/-- The boot ROM accepts an image (R383). -/
def accepted (i : FwImage) (f : Fuses) : Bool := signedFor i f && decide (f.minVersion ≤ i.version)
/-- The bytes of the attestation report that are signed (R384): of the firmware image, the digest is that of its body (log entry 83). -/
def State.reportHead (s : State) (c : Cmd) (nonce : Nat) : List Byte :=
  let cells := (List.range 4).foldl (fun m k => if (s.stackOf k).cellstat = 1 then m + 2 ^ k else m) 0
  leBytes 1 4 ++ leBytes 256 4 ++ leBytes s.identity.serial.toNat 8 ++ leBytes nonce 32 ++ digestBytes s.env.image.body
    ++ digestBytes ((s.xfImages.map fun d => leBytes d.toNat 32).flatten) ++ digestBytes s.identity.publicKey
    ++ leBytes s.env.image.version 4 ++ leBytes s.env.member 2 ++ leBytes c.fn 2 ++ leBytes s.time 8 ++ leBytes cells 8 ++ leBytes 0 88
/-- The 2,420 bytes of a signature under the identity key; the 32 bytes that randomise it are free. -/
def State.signature (s : State) (m : List Byte) : List Byte :=
  let sig := (s.identity.key.sign m ((List.range 32).map (Config.freeBits 8 s.free))).getD []
  (List.range 2420).map fun i => sig.getD i (Config.freeBits 8 s.free (32 + i))
/-- The attestation report of R384; its signing is randomised. -/
def State.report384 (s : State) (c : Cmd) (nonce : Nat) : List Byte :=
  let h := s.reportHead c nonce
  h ++ s.signature h
/-- What the device returns to a request for its certificate (R383). The manual names no command for it (log entry 83). -/
def State.certificateRead (s : State) : List Byte := s.identity.certificate
/-- ATTEST (R384). -/
def execAttest (c : Cmd) (addr nonce : Nat) (s : State) : Host.Outcome State Fault Refusal :=
  s.take c ({ s with hostMem := Memory.setBytes s.hostMem addr (s.report384 c nonce), free := s.free + 1 }.reply c 0 0)
/-- The instruction memory of a transform core (R216). -/
def xfRoom : Nat := 65536
/-- XFLOAD (R216, R384): the image is verified as firmware is (R383); the ids of other images than the shipped ones are 0x0100 to 0xFFFE. -/
def execXfload (c : Cmd) (img : XfImage) (s : State) : Host.Outcome State Fault Refusal :=
  s.take c (
    if c.fn ≠ 0 then s.reply c 3 0
    else if 2 ^ 20 < img.size then s.reply c 5 0
    else if !accepted img.image s.fuses ∨ img.routines.any s.routines.contains then s.reply c 2 0
    else if img.routines.any (fun r => decide (r < 0x0100) || decide (0xFFFF ≤ r)) then s.reply c 5 0
    else if xfRoom < s.xfBytes + img.size then s.reply c 4 0
    else { s with routines := s.routines ++ img.routines, xfBytes := s.xfBytes + img.size, xfMem := s.xfMem ++ img.image.body.take img.size
                  xfImages := s.xfImages ++ [sha3 img.image.body] }.reply c 0 0)

/-- A register write that the bridge takes from a function that reaches the queue (R347). -/
def State.queueWrite (s : State) (fn queue : Nat) (f : OpQueue → OpQueue) : State :=
  let q := s.queueOf queue
  if s.bootstat ≠ 0 ∨ (s.fnOf fn).frozen ∨ 256 ≤ queue ∨ (fn ≠ 0 ∧ s.fnOfCtx q.owner ≠ fn) then s else s.setQueue queue (f q)
/-- QTAIL_WRITE (R284). -/
def execQtailWrite (fn queue value : Nat) (s : State) : Host.Outcome State Fault Refusal :=
  .next (s.queueWrite fn queue fun q =>
    let v := value % 2 ^ 32
    if q.size < dist q v + q.resv ∨ dist q v < dist q q.disp then q else { q with tail := v })
/-- A size of a ring or of a fault area (R284, R348). -/
def sizeOk (n : Nat) : Bool := (List.range 13).any fun k => n == 16 * 2 ^ k
/-- QSIZE_WRITE (R284). -/
def execQsizeWrite (fn queue value : Nat) (s : State) : Host.Outcome State Fault Refusal :=
  .next (s.queueWrite fn queue fun q => if q.st = .disabled ∧ sizeOk (value % 2 ^ 32) then { q with size := value % 2 ^ 32 } else q)
/-- STATE = 1 written to a queue (R284, R286). -/
def State.openQueue (s : State) (fn queue : Nat) : State :=
  let q := s.queueOf queue
  let fit := q.size != 0 && match s.tensor q.base with | some t => decide (q.size * 128 ≤ t.size) | none => false
  match q.st with
  | .disabled => s.queueWrite fn queue fun q => if fit then { q with st := .opened, headBad := false } else q
  | .opened => s
  | .frozen =>
    if s.bootstat ≠ 0 ∨ (s.fnOf fn).frozen ∨ 256 ≤ queue ∨ (fn ≠ 0 ∧ s.fnOfCtx q.owner ≠ fn) then s else s.thawQueue queue
/-- STATE = 0 written to a queue (R286). The tasks of the queue are those of its operators, re-issued ones that still run included; tasks
of launches and of recomputes do not count (log entry 77). -/
def State.disableQueue (s : State) (fn queue : Nat) : State :=
  let busy := s.allTasks.any fun t => t.queue == queue && (match s.workOf t.work with
    | some w => (match w.kind with | .queue _ _ => true | _ => false)
    | none => t.reissued)
  s.queueWrite fn queue fun q => if q.ret = q.disp ∧ !busy ∧ q.resv = 0 then { q with st := .disabled } else q
/-- QCTL_OPEN (R286). -/
def execQctlOpen (fn queue : Nat) (s : State) : Host.Outcome State Fault Refusal := .next (s.openQueue fn queue)
/-- QCTL_DISABLE (R286). -/
def execQctlDisable (fn queue : Nat) (s : State) : Host.Outcome State Fault Refusal := .next (s.disableQueue fn queue)

/-- A register of a function written while the bridge answers. -/
def State.fnWrite (s : State) (fn : Nat) (f : Fn → Fn) : State :=
  if s.bootstat ≠ 0 ∨ (s.fnOf fn).frozen then s else s.setFn fn (f (s.fnOf fn))
/-- FASIZE_WRITE (R350): the held records are written, with one signal. What is lost while the area is disabled stands in no record yet. -/
def execFasizeWrite (fn value : Nat) (s : State) : Host.Outcome State Fault Refusal :=
  let v := value % 2 ^ 32
  .next ((s.fnWrite fn fun f =>
    if v = 0 then { f with fasize := 0, lastAt := none, lost := if f.lastAt.isSome then 0 else f.lost }
    else if sizeOk v then { f with fasize := v } else f).pumpFn fn true)
/-- A register of the stack block written by the management function (R374). -/
def State.stackWrite (s : State) (fn stack : Nat) (f : Stack → Stack) : State :=
  if s.bootstat ≠ 0 ∨ (s.fnOf fn).frozen ∨ fn ≠ 0 ∨ 4 ≤ stack then s else s.setStack stack (f (s.stackOf stack))
/-- How an attempt at a request from outside comes out: it is done, or it waits. -/
inductive Tried
  | done (s : State)
  | wait (s : State)
/-- A task that stands for an agent outside the queues where it asks for a recompute: of no queue, and of a context. -/
def asker (ctx : Nat) : Task := { Task.idle with queue := 256, entry := 0xFFFFFFFF, owner := ctx }
/-- A request meets a DROPPED tensor: its recompute is asked for, and the request waits (R279, R320). -/
def State.askFor (s : State) (ctx id : Nat) : State := (s.recompute (asker ctx) id).1
/-- A store from outside the device's tasks to a tensor (R338, R386): each page is made the tensor's own and PLAIN first (R324). It waits while
the engine makes room (R316). A store that meets a revoked key or a poisoned tile is not made. -/
def State.outsideStore (s : State) (g : Agent) (ctx id off : Nat) (bs : List Byte) : Tried :=
  match s.tensor id with
  | none => .done s
  | some t =>
    if (s.meet t off bs.length).isSome then .done s
    else if t.st = .dropped then .wait (s.askFor ctx id)
    else
      let pages := t.pagesOf off bs.length
      let fresh := pages.filter fun n => t.entry n == 0 || (match s.page (t.entry n) with | some p => t.paged && decide (1 < p.ref) | none => false)
      let grown := (pages.filter fun n => !fresh.contains n).foldl (fun acc n => match s.page (t.entry n) with
        | some p => if p.pk && !p.lpddr then acc + (t.pageBytes - p.bytes) else acc
        | none => acc) 0
      let stack := homeOf id
      if s.entriesLeft stack < fresh.length then .wait s
      else if s.hbmFree stack < fresh.length * t.pageBytes + grown then
        .wait (if s.moving stack then s else match s.victim stack with | some v => s.act v | none => s)
      else
        let s := pages.foldl (fun s n => s.ownPage id n) s
        let s := s.resummarize (match s.tensor id with | some t => pages.map t.entry | none => [])
        match s.tensor id with
        | some t => .done (s.writeTensor g 0 none t off bs)
        | none => .done s
/-- The new value of an atomic from outside (R222, R223). -/
def rmwNew (op : Rmw) (bits old : Nat) : Nat :=
  match op with
  | .fetch f x => amoNew f bits old (x % 2 ^ bits)
  | .cas c n => if old = c % 2 ^ bits then n % 2 ^ bits else old
def rmwWide : Rmw → Bool
  | .fetch .add _ => true
  | .fetch .xchg _ => true
  | .fetch _ _ => false
  | .cas _ _ => true

/-- A request of another device at the exporter (R346, R386): a failed check leaves the exporter as it is. An atomic is judged by its scope and
the class of the exporter's page (R224). -/
def State.ingressTry (s : State) (r : RemoteReq) : Tried :=
  match Store.look s.exports r.index with
  | none => .done s
  | some e =>
    if s.bootstat ≠ 0 ∨ r.epoch ≠ s.env.epoch ∨ !e.live ∨ r.gen ≠ e.gen ∨ r.key ≠ e.key then .done s
    else
      match s.tensor e.tensor with
      | none => .done s
      | some t =>
        let z := elemBytes t.fmt
        let off := (e.first + r.elem) * z
        let inside := fun (n : Nat) => decide (r.elem * z + n ≤ e.count * z)
        match r.kind with
        | .read n => if e.perms.testBit 0 && inside n && t.st == .dropped then .wait (s.askFor e.owner t.id) else .done s
        | .write d => if e.perms.testBit 1 && inside d.length then s.outsideStore Agent.group e.owner t.id off d else .done s
        | .atomic n op =>
          if !(e.perms.testBit 2 && inside n) || !atomicOk (s.pageClass t off) r.scope (rmwWide op) || (s.meet t off n).isSome then .done s
          else
            let old := leNat (s.tensorBytes Agent.group t off n)
            s.outsideStore Agent.group e.owner t.id off (leBytes (rmwNew op (8 * n) old) n)
/-- INGRESS_ACCESS (R346, R386): the exporter's side. -/
def execIngressAccess (r : RemoteReq) (s : State) : Host.Outcome State Fault Refusal :=
  .next (match s.ingressTry r with | .done s => s | .wait s => { s with ingress := s.ingress ++ [r] })
/-- A request of another device that waits is tried again. -/
def State.pumpRemote (s : State) (i : Nat) : State :=
  match s.ingress[i]? with
  | none => s
  | some r => match s.ingressTry r with | .done s => { s with ingress := s.ingress.eraseIdx i } | .wait s => s

/-- The access through a proxy for which the bundle at the head of a core waits: slot, proxy, element. -/
def State.remoteOp (s : State) (f : Fetched) : Option (Slot × Nat × Nat) :=
  let at_ := fun (sl : Slot) (g : Guard) (h sa : Nat) => match s.handleOf h with
    | some b => if s.guardOn g && isProxy b.hold.id then some (sl, b.hold.id, (s.rdS sa).toNat) else none
    | none => none
  f.bundle.ops.findSome? fun p => match p.2 with
    | .ldg g h _ sa _ _ => at_ p.1 g h sa
    | .ldsGlobal g _ h sa _ => at_ p.1 g h sa
    | .stg g h _ sa _ _ => at_ p.1 g h sa
    | .amo g h _ sa _ _ => at_ p.1 g h sa
    | .amoc g h _ sa _ _ => at_ p.1 g h sa
    | _ => none
/-- A copy through a proxy ends in link timeout for the access of an ordinal (R346, R356). -/
def State.timeoutCopy (s : State) (c : Copy) (ordinal link : Nat) : State :=
  let off := ((Store.look c.todo ordinal).bind (·.tens)).getD 0
  s.copyFail c 0x11 [c.hold.id, off / c.esz - c.hold.first, link, 0xFF]
/-- The bundle at the head of a core with the access through a proxy that it waits for. -/
def State.remoteHead (s : State) (core : Nat) : Option (Fetched × Slot × Nat × Nat) :=
  let s1 := (s.focus core).settled_
  match s1.fetched with
  | .inl _ => none
  | .inr f => if s1.cur.id = 0 then none else (s1.remoteOp f).map fun x => (f, x)
/-- The access of a head bundle ends in link timeout (R346, R356). -/
def State.timeoutHead (s : State) (core link : Nat) (f : Fetched) (slot : Slot) (id elem : Nat) : State :=
  ((s.focus core).settled_.enterBundle f false).takeRaise ⟨0x11, slot.number, [id, elem, link, slot.number], none⟩
/-- A core sends the access through a proxy of its next bundle; the bundle waits for the reply (R40, R346). -/
def State.sendHead (s : State) (core : Nat) : State :=
  match s.remoteHead core with
  | some _ => if core < 48 ∧ (s.coreOf core).sentAt.isNone then s.setCore core { s.coreOf core with sentAt := some s.time } else s
  | none => s
/-- A copy sends an access through a proxy. -/
def State.sendCopy (s : State) (id ordinal : Nat) : State :=
  match s.copyOf id with
  | some c =>
    if c.st = .active ∧ isProxy c.hold.id ∧ (Store.look c.todo ordinal).isSome ∧ (Store.look c.sent ordinal).isNone then
      s.setCopy { c with sent := c.sent ++ [(ordinal, s.time)] }
    else s
  | none => s
/-- An access sent at a TIME has had no reply for TLTO ticks (R346). -/
def State.overdue (s : State) (t : Nat) : Bool := decide (t + s.tlto ≤ s.time)
/-- LINK_TIMEOUT (R346): the bundle that waits for a remote access, or a copy of the core's engine, has waited for TLTO ticks. -/
def execLinkTimeout (core link : Nat) (s : State) : Host.Outcome State Fault Refusal :=
  .next (if linkCount ≤ link then s
    else match (if (s.coreOf core).sentAt.any s.overdue then s.remoteHead core else none) with
    | some (f, slot, id, elem) => s.timeoutHead core link f slot id elem
    | none =>
      match s.copies.findSome? fun c => if c.core == core && c.st == .active then (c.sent.find? fun x => s.overdue x.2).map fun x => (c, x.1) else none with
      | some (c, o) => s.timeoutCopy c o link
      | none => s)

/-- The state of a link (R343). -/
def State.linkOf (s : State) (n : Nat) : LinkSt := Store.get LinkSt.init s.links n
def State.setLink (s : State) (n : Nat) (l : LinkSt) : State := { s with links := Store.set LinkSt.init s.links n l }
/-- The link that traffic to a member takes: the first of its routes, at most three alternatives included, that is not down (R343). -/
def State.routeTo (s : State) (member : Nat) : Option Nat :=
  ((Store.get [] s.routes member).take 4).find? fun l => !s.linksDown.any (·.1 == l)
/-- The traffic of a proxy goes over a link: its member's route lies over it; for a member without routes the link is the device's choice
(log entry 1). -/
def State.onLink (s : State) (id link : Nat) : Bool :=
  match Store.look s.imports (importKey id) with
  | some e => (match s.routeTo e.member with
    | some l => l == link
    | none => (Store.get [] s.routes e.member).isEmpty && Config.choice s.free (importKey id) % linkCount == link)
  | none => false
/-- The access that a core has sent and that waits on a link. -/
def State.headOn (s : State) (link core : Nat) : Option (Fetched × Slot × Nat × Nat) :=
  if (s.coreOf core).sentAt.isSome then (s.remoteHead core).filter fun x => s.onLink x.2.2.1 link else none
/-- The copies with accesses sent over a link. -/
def State.copiesOn (s : State) (link : Nat) : List Copy :=
  s.copies.filter fun c => c.st == .active && !c.sent.isEmpty && s.onLink c.hold.id link
/-- TIME since when each access that waits on a link does so. -/
def State.waitsOn (s : State) (link : Nat) : List Nat :=
  ((s.copiesOn link).map fun c => c.sent.map (·.2)).flatten ++
    (List.range 48).filterMap fun n => if (s.headOn link n).isSome then (s.coreOf n).sentAt else none
/-- FLIT_CRC_RETRY (R343): the flit goes again as it was first sent. -/
def execFlitCrcRetry (link : Nat) (s : State) : Host.Outcome State Fault Refusal :=
  .next (if linkCount ≤ link then s else s.setLink link { s.linkOf link with retries := (s.linkOf link).retries + 1 })
/-- A link that has failed 64 retries of one flit, or has passed none for 10,000 ticks while traffic waited (R343). -/
def State.linkDead (s : State) (link : Nat) : Bool :=
  decide (link < linkCount) && (decide (64 ≤ (s.linkOf link).retries) ||
    (s.waitsOn link).any fun t => decide (max t (s.linkOf link).last + 10000 ≤ s.time))
/-- LINK_DOWN (R343, R371): the accesses in flight on the link end in link timeout; new traffic takes the next route. -/
def execLinkDown (link member : Nat) (s : State) : Host.Outcome State Fault Refusal :=
  .next (if !s.linkDead link then s
    else
      let s1 := { s with linksDown := if s.linksDown.contains (link, member) then s.linksDown else s.linksDown ++ [(link, member)], free := s.free + 1 }
      let s2 := s1.notice 0 5 [link, member, 0, 0]
      let heads := (List.range 48).filter fun n => (s.headOn link n).isSome
      let s3 := (s.copiesOn link).foldl (fun (s : State) c => if (s.copyOf c.id).isSome then s.timeoutCopy c ((c.sent.head?.map (·.1)).getD 0) link else s) s2
      heads.foldl (fun (s4 : State) n => match s4.remoteHead n with
        | some (f, slot, id, elem) => s4.timeoutHead n link f slot id elem
        | none => s4) s3)

/-- The export that an access of the host names, inside its bounds and permissions (R351). -/
def State.hostWindow (s : State) (fn index offset n bit : Nat) : Option (Tensor × Nat) :=
  match Store.look s.exports index with
  | none => none
  | some e =>
    match s.tensor e.tensor with
    | none => none
    | some t =>
      let z := elemBytes t.fmt
      if e.live ∧ s.fnOfCtx e.owner = fn ∧ e.perms.testBit bit ∧ offset + n ≤ e.count * z then some (t, e.first * z + offset) else none
/-- A host access outside its exports freezes the bridge function (R370). -/
def State.hostViolation (s : State) (fn index : Nat) : State :=
  (s.setFn fn { s.fnOf fn with frozen := true }).masterNotice 5 fn 4 (match Store.look s.exports index with | some e => e.tensor | none => 0)
/-- An export of a tensor that is gone, its sequence ended: an access to it is no violation, and a write is dropped (R386). -/
def State.exportGone (s : State) (fn index bit : Nat) : Bool :=
  match Store.look s.exports index with
  | some e => e.live && s.fnOfCtx e.owner == fn && e.perms.testBit bit && (s.tensor e.tensor).isNone
  | none => false
def State.exportOwner (s : State) (index : Nat) : Nat := match Store.look s.exports index with | some e => e.owner | none => 0
/-- What a read of the host returns (R351): none where it is not answered with data, waits behind posted writes or for a recompute, or meets a
revoked key or a poisoned tile (R279, R326, R336). -/
def State.hostRead (s : State) (fn index offset n : Nat) : Option (List Byte) :=
  if s.bootstat ≠ 0 ∨ (s.fnOf fn).frozen ∨ !(s.fnOf fn).posted.isEmpty then none
  else (s.hostWindow fn index offset n 0).bind fun x =>
    if x.1.st = .dropped ∨ (s.meet x.1 x.2 n).isSome then none else some (s.tensorBytes Agent.host x.1 x.2 n)
/-- A request of the host to an export (R351, R370, R386). An AtomicOp is FetchAdd, Swap or CAS of 4 or 8 bytes, on an SC page (R347). -/
def State.hostTry (s : State) (fn : Nat) (op : HostOp) : Tried :=
  let miss := fun (index bit : Nat) => Tried.done (if s.exportGone fn index bit then s else s.hostViolation fn index)
  match op with
  | .write index offset data =>
    match s.hostWindow fn index offset data.length 1 with
    | some (t, off) => s.outsideStore Agent.host (s.exportOwner index) t.id off data
    | none => miss index 1
  | .read index offset n =>
    match s.hostWindow fn index offset n 0 with
    | some (t, _) => if t.st = .dropped then .wait (s.askFor (s.exportOwner index) t.id) else .done s
    | none => miss index 0
  | .atomic index offset n op =>
    match s.hostWindow fn index offset n 2 with
    | some (t, off) =>
      if s.pageClass t off ≠ 2 ∨ (s.meet t off n).isSome then .done s
      else
        let old := leNat (s.tensorBytes Agent.host t off n)
        s.outsideStore Agent.host (s.exportOwner index) t.id off (leBytes (rmwNew op (8 * n) old) n)
    | none => miss index 2
/-- Requests put behind those of their function that wait (R351). -/
def State.hostWait (s : State) (fn : Nat) (ops : List HostOp) : State := s.setFn fn { s.fnOf fn with posted := (s.fnOf fn).posted ++ ops }
/-- A request that arrives: it takes effect, or waits, in arrival order (R351). -/
def State.hostAsk (s : State) (fn : Nat) (op : HostOp) : State :=
  if s.bootstat ≠ 0 ∨ (s.fnOf fn).frozen then s
  else if !(s.fnOf fn).posted.isEmpty then s.hostWait fn [op]
  else match s.hostTry fn op with | .done s => s | .wait s => s.hostWait fn [op]
/-- The oldest waiting request of a function tried again. -/
def State.pumpHost (s : State) (fn : Nat) : State :=
  match (s.fnOf fn).posted with
  | [] => s
  | op :: _ => match s.hostTry fn op with
    | .done s => s.setFn fn { s.fnOf fn with posted := (s.fnOf fn).posted.drop 1 }
    | .wait s => s
/-- A request cut at the multiples of 8 bytes (R351). -/
def hostParts (index offset : Nat) (data : List Byte) : Nat → List HostOp
  | 0 => []
  | k + 1 =>
    let n := 8 - offset % 8
    if data.isEmpty then [] else .write index offset (data.take n) :: hostParts index (offset + n) (data.drop n) k
/-- HOST_APERTURE_READ (R351, R370): a read changes nothing, but for a violation. -/
def execHostApertureRead (fn index offset bytes : Nat) (s : State) : Host.Outcome State Fault Refusal :=
  .next (s.hostAsk fn (.read index offset bytes))
/-- HOST_APERTURE_WRITE (R351, R386). A larger write is a set of 8-byte accesses, in an order of the device's (log entry 1). -/
def execHostApertureWrite (fn index offset : Nat) (data : List Byte) (s : State) : Host.Outcome State Fault Refusal :=
  let parts := hostParts index offset data (data.length / 8 + 2)
  .next (if parts.length < 2 then s.hostAsk fn (.write index offset data)
    else if s.bootstat ≠ 0 ∨ (s.fnOf fn).frozen then s
    else if (s.hostWindow fn index offset data.length 1).isNone ∧ !s.exportGone fn index 1 then s.hostViolation fn index
    else s.used.hostWait fn (shuffled s.free parts))
/-- HOST_ATOMICOP (R347, R351). -/
def execHostAtomicOp (fn index offset bytes : Nat) (op : Rmw) (s : State) : Host.Outcome State Fault Refusal :=
  .next (if !(rmwWide op) ∨ (bytes ≠ 4 ∧ bytes ≠ 8) then s else s.hostAsk fn (.atomic index offset bytes op))

/-- The continuation record of a PARKED or SAVED task, as the bridge gives it to a context that may control the task (R262). -/
def State.contRead (s : State) (c : Cmd) (task : Nat) : Option (List Byte) :=
  match s.taskOf task with
  | some t => if (t.status = .parked ∨ t.status = .saved) ∧ (c.fn = 0 ∨ c.ctx = t.owner) then some t.cont else none
  | none => none

end Sys2Proof.Machine
end

