-- ==== Sys2Proof/Machine/Plant.lean ====
section
/-! DEFINITION. Storage intake and decoders (R352 to R355), the layers, racking, vertical buses and start-up (R374 to R383),
deletion by the host (R311), the loading of an image (R385, R388). -/

namespace Sys2Proof.Machine

/-- The destination range of a job held in mode w with SEQID 0 (R353); none where R312 or R337 forbids the hold. -/
def State.jobRange (s : State) (id off n : Nat) : Option Hold :=
  match s.holdable id with
  | none => none
  | some t =>
    let z := elemBytes t.fmt
    if t.ro ∨ t.seq ≠ 0 ∨ t.size < off + n then none else some ⟨id, off / z, (off + n + z - 1) / z - off / z, 2⟩
/-- A job where a task asks for room or for a recompute: the rank of no queue, the job's context and number. -/
def Job.asTask (j : Job) (n : Nat) : Task := { asker (match j.kind with | .intake r => r.ctx | .decode r _ => r.ctx) with inst := n }
/-- A job's hold taken once its range is prepared (R313), within the limit of HOLDS (R314). -/
def State.prepareJob (s : State) (n : Nat) : State :=
  match Store.look s.jobs n with
  | none => s
  | some j =>
    if j.held then s
    else
      match s.prepareRange (j.asTask n) 0 j.hold with
      | .ok s1 =>
        match s1.tensor j.hold.id with
        | some t => if 65535 ≤ t.holds then s1 else { s1.setTensor { t with holds := t.holds + 1 } with jobs := Store.put n { j with held := true } s1.jobs }
        | none => s1
      | .wait s1 => s1
      | .suspend ids => s.askAll (j.asTask n) ids
      | .bad _ _ => s
/-- A job begun. -/
def State.startJob (s : State) (k : JobKind) (h : Hold) : State :=
  { s with jobs := Store.put s.nextJob ⟨k, h, false, s.serial, none⟩ s.jobs, nextJob := s.nextJob + 1 }.prepareJob s.nextJob
/-- A job over: its hold given back. -/
def State.endJob (s : State) (n : Nat) (h : Hold) : State := { s with jobs := Store.del n s.jobs }.unhold h.id
/-- The bytes that an agent without a task writes to a tensor it holds: a POISONED tile that they cover whole is so no longer, and to one that
they cover in part nothing is written (R326). -/
def State.writeHeld (s : State) (id off : Nat) (bs : List Byte) : State :=
  let first := (off + 255) / 256
  let s := (List.range ((off + bs.length) / 256 - first)).foldl (fun (s : State) i => match s.tensor id with
    | some t => s.healTile t (256 * (first + i))
    | none => s) s
  match s.tensor id with
  | none => s
  | some t => ((List.range bs.length).zip bs).foldl (fun (s : State) (x : Nat × Byte) =>
      if (s.meetByte t (off + x.1)).isSome then s else s.writePage Agent.device 0 none t (off + x.1) [x.2]) s
/-- A job's output written, valid, and its operator decremented (R353, R291). -/
def State.jobDone (s : State) (n : Nat) (j : Job) (off ctx ref : Nat) (bs : List Byte) : State :=
  let s := s.writeHeld j.hold.id off bs
  (((s.makeValid j.hold.id j.serial false).fillRange j.hold).endJob n j.hold).completionDec ctx ref
/-- A job that fails: its output is VOID, and its owner context learns of it (R353, R355). -/
def State.jobFails (s : State) (n : Nat) (j : Job) (ctx cause : Nat) (words : List Nat) : State :=
  ((s.endJob n j.hold).voidTensor j.hold.id).report ctx cause 0 0 0xFFFFFFFF words

/-- What a decoder supports (R354): HEVC Main and Main 10 to level 5.2, AV1 Main to level 5.1, 8 or 10 bits, 4:2:0, no other tool or format. -/
def streamOk (codec : Nat) (i : StreamInfo) : Bool :=
  i.yuv420 && !i.other && (i.depth == 8 || i.depth == 10) &&
    (if codec = 0 then (i.profile == 2 || (i.profile == 1 && i.depth == 8)) && decide (i.level ≤ 52) else i.profile == 0 && decide (i.level ≤ 51))
/-- A picture size that it supports. -/
def pictureOk (codec : Nat) (p : Picture) : Bool := p.width % 2 == 0 && p.height % 2 == 0 && (codec != 0 || (decide (p.width ≤ 4096) && decide (p.height ≤ 2304)))
/-- The elements of a frame (R355): the planes Y, Cb and Cr, each sample in bits 9 to 0, those of 8 bits shifted left by 2. -/
def frameElems (depth : Nat) (p : Picture) : List Nat :=
  let plane := fun (xs : List Nat) (n : Nat) => (List.range n).map fun i => xs.getD i 0 * (if depth = 8 then 4 else 1) % 1024
  plane p.y (p.width * p.height) ++ plane p.cb (p.width / 2 * (p.height / 2)) ++ plane p.cr (p.width / 2 * (p.height / 2))
/-- The frames of a stream laid out in an output of so many elements, from frame i on; or the frame and the reason of a failure (R355). -/
def layFrames (codec room : Nat) (e : DecodeEnd) (i : Nat) (out : List Nat) : List Picture → List Nat ⊕ (Nat × Nat)
  | [] => .inl out
  | p :: rest =>
    if !pictureOk codec p then .inr (i, 1)
    else if room < out.length + (frameElems e.info.depth p).length then .inr (i, 3)
    else layFrames codec room e (i + 1) (out ++ frameElems e.info.depth p) rest
/-- What a decode of at most n frames comes to (R355). -/
def decoded (codec n room : Nat) (e : DecodeEnd) : List Nat ⊕ (Nat × Nat) :=
  if !streamOk codec e.info then .inr (0, 1)
  else match layFrames codec room e 0 [] (e.pictures.take n) with
    | .inl out => if e.corrupt ∧ e.pictures.length < n then .inr (e.pictures.length, 2) else .inl out
    | x => x

/-- A job goes on: its range is prepared and held; once it is held and the drive or the decoder has ended, its output is written. -/
def State.jobStep (s : State) (n : Nat) : State :=
  let s := s.prepareJob n
  match Store.look s.jobs n with
  | none => s
  | some j =>
    if !j.held then s
    else match j.kind, j.result with
      | .intake r, some (.intake (.data bs)) => s.jobDone n j r.offset r.ctx r.ref (bs.take (r.blocks * r.bsize))
      | .intake r, some (.intake (.failed b st)) => s.jobFails n j r.ctx 0x0F [r.tensor, b, st, 6]
      | .decode r _, some (.decode e) =>
        match decoded r.codec r.frames (match s.tensor r.output with | some t => t.size / 2 | none => 0) e with
        | .inl out => s.jobDone n j 0 r.ctx r.ref (bytesOf 2 out)
        | .inr (f, why) => s.jobFails n j r.ctx 0x0E [r.output, f, why, 0]
      | _, _ => s
/-- The end of a job, which takes effect once its destination is held. -/
def State.jobEnds (s : State) (n : Nat) (e : JobEnd) : State :=
  match Store.look s.jobs n with
  | some j => if j.result.isSome then s else ({ s with jobs := Store.put n { j with result := some e } s.jobs } : State).jobStep n
  | none => s

/-- INTAKE (R353): from a drive that start-up has found (R352), on behalf of a context of the function (R347). The result
is the number of the job (R349, log entry 89). -/
def execIntake (c : Cmd) (r : IntakeRec) (s : State) : Host.Outcome State Fault Refusal :=
  s.take c (
    if !s.ownsRecord c r.ctx r.ref then s.reply c 3 0
    else if 8 ≤ r.drive ∨ r.blocks = 0 ∨ 65536 < r.blocks ∨ (r.bsize ≠ 512 ∧ r.bsize ≠ 4096) ∨ r.offset % r.bsize ≠ 0 then s.reply c 5 0
    else if Store.look s.drives r.drive ≠ some r.bsize ∨ (s.tensor r.tensor).isNone then s.reply c 1 0
    else match s.jobRange r.tensor r.offset (r.blocks * r.bsize) with
      | none => s.reply c 2 0
      | some h => (s.startJob (.intake r) h).reply c 0 s.nextJob)
/-- INTAKE_COMPLETE (R353). -/
def execIntakeComplete (job : Nat) (e : IntakeEnd) (s : State) : Host.Outcome State Fault Refusal :=
  .next (match (Store.look s.jobs job).map fun (j : Job) => j.kind with | some (.intake _) => s.jobEnds job (.intake e) | _ => s)

/-- A decoder for a record: the one it names, or the first that is not frozen; none where it is frozen or does not exist. -/
def State.decoderFor (s : State) (n : Nat) : Option Nat :=
  if n = 0xFF then (List.range 8).find? fun d => !s.decFrozen.contains d
  else if n < 8 ∧ !s.decFrozen.contains n then some n else none
/-- DECODE (R347, R355, R370). The result is the number of the job (R349, log entry 89). -/
def execDecodeMedia (c : Cmd) (r : DecodeRec) (s : State) : Host.Outcome State Fault Refusal :=
  s.take c (
    if !s.ownsRecord c r.ctx r.ref then s.reply c 3 0
    else if (8 ≤ r.decoder ∧ r.decoder ≠ 0xFF) ∨ 2 ≤ r.codec ∨ r.frames = 0 then s.reply c 5 0
    else match s.tensor r.stream, s.tensor r.output, s.decoderFor r.decoder with
      | some b, some o, some d =>
        if b.size < r.offset + r.length ∨ o.fmt ≠ 5 then s.reply c 5 0
        else match s.jobRange r.output 0 o.size with
          | none => (({ s with decFrozen := s.decFrozen ++ [d] }).masterNotice 4 d 5 r.output).reply c 0 0
          | some h => (s.startJob (.decode r d) h).reply c 0 s.nextJob
      | some _, some _, none => s.reply c 4 0
      | _, _, _ => s.reply c 1 0)
/-- DECODE_COMPLETE (R355). -/
def execDecodeComplete (job : Nat) (e : DecodeEnd) (s : State) : Host.Outcome State Fault Refusal :=
  .next (match (Store.look s.jobs job).map fun (j : Job) => j.kind with | some (.decode _ _) => s.jobEnds job (.decode e) | _ => s)

/-- A field of LFCAP written (R374): the cap, and the clock no faster than it (R375). -/
def LayerSt.recap (l : LayerSt) (x : Nat) : LayerSt :=
  if 300 ≤ x ∧ x ≤ 750 then { l with cap := x / 25 * 25, freq := min l.freq (x / 25) } else l
/-- LFCAP_WRITE (R374). -/
def execLfcapWrite (fn stack value : Nat) (s : State) : Host.Outcome State Fault Refusal :=
  .next (s.stackWrite fn stack fun k =>
    { k with m := k.m.recap (fld value 48 16), c := k.c.recap (fld value 32 16), k1 := k.k1.recap (fld value 16 16), k0 := k.k0.recap (fld value 0 16) })
/-- RACK_HI_WRITE (R374). -/
def execRackHiWrite (fn stack value : Nat) (s : State) : Host.Outcome State Fault Refusal :=
  .next (s.stackWrite fn stack fun k => if k.rackLo < value % 65536 then { k with rackHi := value % 65536 } else k)
/-- A sensor under a new reading or a new RACK_LO: since when it has read at or below it (R377). -/
def Sensor.read (x : Sensor) (temp lo lo1 now : Nat) : Sensor := ⟨temp, if temp ≤ lo1 ∧ x.temp ≤ lo then x.since else now⟩
/-- RACK_LO_WRITE (R374). -/
def execRackLoWrite (fn stack value : Nat) (s : State) : Host.Outcome State Fault Refusal :=
  .next (s.stackWrite fn stack fun k =>
    let lo := value % 65536
    let again := fun (l : LayerSt) => { l with sensors := l.sensors.map fun x => (x.1, x.2.read x.2.temp k.rackLo lo s.time) }
    if lo < k.rackHi then { k with rackLo := lo, k0 := again k.k0, k1 := again k.k1 } else k)
/-- A sensor of a layer reads (R374, R377). -/
def State.sense (s : State) (stack : Nat) (layer : Layer) (n temp : Nat) : State :=
  let k := s.stackOf stack
  let l := k.layer layer
  let x := Store.get Sensor.init l.sensors n
  s.setStack stack (k.setLayer layer { l with sensors := Store.set Sensor.init l.sensors n (x.read (temp % 65536) k.rackLo k.rackLo s.time) })
/-- VBSHIFT_WRITE (R374, R378). -/
def execVbshiftWrite (fn stack value : Nat) (s : State) : Host.Outcome State Fault Refusal :=
  .next (s.stackWrite fn stack fun k =>
    let v := value % 256
    if k.cellstat = 0 ∧ (v ≤ 32 ∨ v = 63) then { k with vbshift := Store.set 63 k.vbshift k.vbidx v } else k)
/-- VBRETIRE_WRITE (R374, R380). -/
def execVbretireWrite (fn stack value : Nat) (s : State) : Host.Outcome State Fault Refusal :=
  .next (s.stackWrite fn stack fun k => if k.cellstat = 0 then { k with vbretire := value % 2 ^ 32 } else k)

/-- A cellar layer (R376, R377). -/
def isCellar : Layer → Bool
  | .k0 | .k1 => true
  | .m | .c => false
/-- The layer of a cellar bank. -/
def bankLayer (upper : Bool) : Layer := if upper then .k1 else .k0
def isUpper (l : Layer) : Bool := match l with | .k1 => true | _ => false
/-- What the sensor of a bank reads (R377). -/
def Stack.bankTemp (k : Stack) (b : Bool × Nat) : Sensor := Store.get Sensor.init (k.layer (bankLayer b.1)).sensors b.2
/-- The racked banks of a stack, those whose lines are leaving them included. -/
def Stack.rackedCount (k : Stack) : Nat := countBits k.k0.racked.toNat 64 + countBits k.k1.racked.toNat 64 + k.racking.length
/-- A bank whose sensor reads at or above RACK_HI, in a layer that runs, and that is not racked yet (R377). -/
def Stack.hot (k : Stack) (b : Bool × Nat) : Bool :=
  let l := k.layer (bankLayer b.1)
  k.cellstat == 1 && l.on && decide (b.2 < 64) && !l.racked.getLsbD b.2 && !k.racking.contains b && decide (k.rackHi ≤ (k.bankTemp b).temp)
/-- A racked bank whose sensor has read at or below RACK_LO for 1 ms (R377). -/
def Stack.cool (k : Stack) (now : Nat) (b : Bool × Nat) : Bool :=
  let x := k.bankTemp b
  decide (b.2 < 64) && (k.layer (bankLayer b.1)).racked.getLsbD b.2 && decide (x.temp ≤ k.rackLo) && decide (x.since + 1000000 ≤ now)
def Stack.setRacked (k : Stack) (b : Bool × Nat) (on : Bool) : Stack :=
  let l := k.layer (bankLayer b.1)
  k.setLayer (bankLayer b.1) { l with racked := if on then l.racked ||| (1#64 <<< b.2) else l.racked &&& ~~~(1#64 <<< b.2) }
/-- A hot bank begins to be racked, at most 48 of a stack; beyond that the layer's clock is lowered (R375, R377). -/
def State.rack (s : State) (stack : Nat) (b : Bool × Nat) : State :=
  let k := s.stackOf stack
  let l := k.layer (bankLayer b.1)
  if !k.hot b then s
  else if k.rackedCount < 48 then s.setStack stack { k with racking := k.racking ++ [b] }
  else s.setStack stack (k.setLayer (bankLayer b.1) { l with freq := max 12 (l.freq - 1) })
/-- One line leaves a bank that is being racked (R377): for a free way in a bank of the other layer that reads at or below RACK_LO, both copies
of the remap table following in one step; where there is none, a dirty line is written back and a clean one dropped. With no line left the
bank sleeps. -/
def State.rackLine (s : State) (stack : Nat) (b : Bool × Nat) : State :=
  let k := s.stackOf stack
  match k.lines.find? fun l => l.upper == b.1 && l.bank == b.2 with
  | none => s.setStack stack ({ k with racking := k.racking.filter (· != b) }.setRacked b true)
  | some l =>
    let banks := (cellarBanks.filter fun c => c.1 != b.1 && k.bankOpen c && decide ((k.bankTemp c).temp ≤ k.rackLo)).map (·.2)
    match s.pick banks with
    | some n => s.used.setStack stack { k with lines := k.lines.map fun x => if x = l then { x with upper := !b.1, bank := n } else x }
    | none => s.setStack stack { k with lines := k.lines.filter (· != l) }
/-- A racked bank that has cooled wakes (R377). -/
def State.wake (s : State) (stack : Nat) (b : Bool × Nat) : State :=
  let k := s.stackOf stack
  if k.cool s.time b then s.setStack stack (k.setRacked b false) else s
/-- The next step of the racking of a stack's cellar: a line that leaves, a bank that has crossed RACK_HI, one that has cooled. -/
def State.rackStep (s : State) (stack : Nat) : State :=
  let k := s.stackOf stack
  match k.racking with
  | b :: _ => s.rackLine stack b
  | [] =>
    match (if k.rackedCount < 48 then cellarBanks.find? k.hot else none) with
    | some b => s.rack stack b
    | none => match cellarBanks.find? (k.cool s.time) with | some b => s.wake stack b | none => s
/-- RACK_BANK (R377). -/
def execRackBank (stack : Nat) (layer : Layer) (bank : Nat) (s : State) : Host.Outcome State Fault Refusal :=
  .next (if isCellar layer then s.rack stack (isUpper layer, bank) else s)
/-- BANK_WAKE (R377). -/
def execBankWake (stack : Nat) (layer : Layer) (bank : Nat) (s : State) : Host.Outcome State Fault Refusal :=
  .next (if isCellar layer then s.wake stack (isUpper layer, bank) else s)
/-- LAYER_CLOCK_CHANGE (R375): in steps of 25 MHz, from 300 MHz to the layer's cap. -/
def execLayerClockChange (stack : Nat) (layer : Layer) (mhz : Nat) (s : State) : Host.Outcome State Fault Refusal :=
  let k := s.stackOf stack
  let l := k.layer layer
  .next (if mhz % 25 = 0 ∧ 300 ≤ mhz ∧ mhz ≤ l.cap then s.setStack stack (k.setLayer layer { l with freq := mhz / 25 }) else s)
/-- The position of a spare group that a logical data line uses under a value of VBSHIFT (R378). -/
def linePosition (shift i : Nat) : Nat := if shift < 32 ∧ shift ≤ i then i + 1 else i
/-- A group has its spare left (R378). -/
def spareLeft (shift : Nat) : Bool := shift == 63
/-- The physical line of a bus that carries a logical line of a group of it; none where the bus is retired (R378, R380). -/
def Stack.lineOf (k : Stack) (boundary bus group i : Nat) : Option Nat :=
  if k.vbretire.testBit (boundary * 16 + bus) then none
  else some (33 * group + linePosition (Store.get 63 k.vbshift ((boundary * 16 + bus) * 32 + group)) i)
/-- VBUS_ECC_ERROR (R381): no line of a retired bus carries anything, and nothing crosses to a cellar that is not enabled. -/
def execVbusEccError (stack : Nat) (e : VbusErr) (s : State) : Host.Outcome State Fault Refusal :=
  let k := s.stackOf stack
  .next (if k.cellstat = 1 ∧ e.boundary < 2 ∧ e.bus < 16 ∧ e.group < 32 ∧ e.line < 32 ∧ (k.lineOf e.boundary e.bus e.group e.line).isSome then
      (match e.harm with | .corrected | .clean => s | .dirty t p i => s.poisonTile t p i)
    else s)
/-- The tiles of the dirty lines that a stack's cellar holds, as tensor, page and tile (R372). -/
def State.dirtyTiles (s : State) (stack : Nat) : List (Nat × Nat × Nat) :=
  (((s.stackOf stack).lines.filter (·.dirty)).map fun l =>
    (s.tensors.filterMap fun kv => (kv.2.pages.find? fun p => p.2 == l.entry).map fun p => (kv.1, p.1, tileOf l.off))).flatten.eraseDups
/-- REMAP_TABLE_ERROR (R371, R372): with both copies lost the cellar is fenced, its lines are lost, and the moves of a racking are abandoned
(R377). -/
def execRemapTableError (stack : Nat) (both : Bool) (dirty : List (Nat × Nat × Nat)) (s : State) : Host.Outcome State Fault Refusal :=
  .next (if !both then s
    else
      let dirty := dirty ++ s.dirtyTiles stack
      let s1 := s.setStack stack { s.stackOf stack with cellstat := 2, lines := [], racking := [] }
      let hit := (dirty.map (·.1)).eraseDups.filter fun id => match s.tensor id with
        | some t => t.st == .resident || t.st == .packed || t.st == .spilled
        | none => false
      (dirty.foldl (fun (s : State) x => s.poisonTile x.1 x.2.1 x.2.2) s1).notice 0 4 [stack, hit.length, 0, 0])
/-- RBG_HEALTH_FAIL (R333, R371): the failure stands until the next reset (log entry 89). -/
def execRbgHealthFail (test : Nat) (s : State) : Host.Outcome State Fault Refusal :=
  .next ({ s with rbgOk := false }.notice 0 3 [test, 0, 0, 0])
/-- The period of a layer's clock in quanta of time (R375). -/
def LayerSt.period (l : LayerSt) : Nat := 40 * quantaPerNs / l.freq
/-- CELLAR_LAYER_POWER_OFF (R376, R377): the layer holds no line any more; dirty ones have been written back. -/
def execCellarLayerPowerOff (stack : Nat) (layer : Layer) (s : State) : Host.Outcome State Fault Refusal :=
  let k := s.stackOf stack
  .next (if isCellar layer then
      s.setStack stack ({ k with lines := k.lines.filter (·.upper != isUpper layer), racking := k.racking.filter (·.1 != isUpper layer) }.setLayer layer
        { k.layer layer with on := false, racked := 0 })
    else s)
/-- CELLAR_LAYER_POWER_ON (R376). -/
def execCellarLayerPowerOn (stack : Nat) (layer : Layer) (s : State) : Host.Outcome State Fault Refusal :=
  let k := s.stackOf stack
  let l := k.layer layer
  .next (if isCellar layer && !l.on then s.setStack stack (k.setLayer layer { l with on := true, edge := s.now + l.period }) else s)

/-- What physical line m samples while line l alone is driven high, over the faults of one bus in one direction (R379). -/
def sampled (fs : List LineFault) (l m : Nat) : Bool :=
  match fs.find? (·.line == m) with
  | none => l == m
  | some f => match f.how with | .low => false | .high => true | .bridged o => l == m || l == o
/-- Line m fails the test: it samples 0 while it is driven, or 1 while another is (R379). -/
def lineFails (fs : List LineFault) (m : Nat) : Bool := !sampled fs m m || (List.range 1056).any fun l => l != m && sampled fs l m
/-- The failed positions of a spare group, in either direction (R379); a line without a fault passes. -/
def State.badLines (s : State) (stack boundary bus group : Nat) : List Nat :=
  let fs := s.boot.lines.filter fun x => x.stack == stack && x.boundary == boundary && x.bus == bus
  if fs.isEmpty then []
  else (List.range 33).filter fun j => fs.any (·.line == 33 * group + j) &&
    (lineFails (fs.filter (·.down)) (33 * group + j) || lineFails (fs.filter (!·.down)) (33 * group + j))
/-- One bus tested and repaired, or retired (R379, R380). -/
def State.repairBus (s : State) (stack boundary bus : Nat) : State :=
  let f := (List.range 32).map fun g => (g, s.badLines stack boundary bus g)
  let base := (boundary * 16 + bus) * 32
  let k := s.stackOf stack
  let shift := f.foldl (fun m x => if x.2.length = 1 then Store.set 63 m (base + x.1) (x.2.headD 63) else m) k.vbshift
  match f.find? fun x => decide (2 ≤ x.2.length) with
  | none => s.setStack stack { k with vbshift := shift }
  | some (g, l) =>
    (s.setStack stack { k with vbshift := shift, vbretire := k.vbretire ||| 2 ^ (boundary * 16 + bus) }).notice 0 6
      [stack, boundary, bus, g + l.getD 0 0 * 256 + l.getD 1 0 * 65536]
/-- Steps 4 and 5 of R382 for one stack. -/
def State.repairStack (s : State) (stack : Nat) : State :=
  let s := (List.range 32).foldl (fun (s : State) i => s.repairBus stack (i / 16) (i % 16)) s
  let k := s.stackOf stack
  let many := fun (b : Nat) => decide (4 < countBits (fld k.vbretire (16 * b) 16) 16)
  if many 0 || many 1 then (s.setStack stack { k with cellstat := 2 }).notice 0 4 [stack, 0, 0, 0]
  else s.setStack stack { k with cellstat := 1 }
/-- A layer at the end of start-up (R376): its counter reads 0. -/
def LayerSt.zero (l : LayerSt) : LayerSt := { l with cyc := 0, edge := l.period }
/-- Steps 1 to 7 of start-up (R382), from the state that a reset leaves. The device slot gets its key (R332). From step 7 on the device
has its member number. -/
def State.startFirst (s : State) : State :=
  let b := s.boot
  if !signedFor b.image s.fuses then { s with bootstat := 1 }
  else if b.image.version < s.fuses.minVersion then { s with bootstat := 2 }
  else if !b.memory then { s with bootstat := 3 }
  else
    let s := (List.range 4).foldl State.repairStack s
    if !b.rbg then { s with bootstat := 4 }
    else
      let s := s.used.setKey 0 { s.keyOf 0 with pair := Config.freeBits 512 s.free 1 }
      b.linksDown.foldl (fun (s : State) x => s.notice 0 5 [x.1, x.2, 0, 0]) { s with linksDown := b.linksDown, routes := b.routes, run := some b }
/-- Steps 8 to 11: the drives that are there, the shipped routines, the clocks, BOOTSTAT. -/
def State.startLast (s : State) : State :=
  let s := (List.range 4).foldl (fun (s : State) n =>
    let k := s.stackOf n
    s.setStack n { k with m := k.m.zero, c := k.c.zero, k0 := k.k0.zero, k1 := k.k1.zero }) s
  let mem := Config.shippedImages.flatten
  { s with drives := s.env.drives, routines := [1, 2, 0x10, 0x20, 0x30], xfImages := Config.shippedImages.map sha3, xfMem := mem
           xfBytes := mem.length, now := 0, bootstat := 0 }
/-- Start-up goes on (R382). -/
def State.startUp (s : State) : State := if s.run.isNone then s.startFirst else s.startLast
/-- The state that a reset leaves of a device: what it was made with and its fuses (R383), the memory of the host, what start-up will meet and
the model's own fields stay; the member's ingress epoch is the next one (R343). -/
def State.afterReset (s : State) : State :=
  { State.reset with free := s.free, agenda := s.agenda, auto := s.auto, hostMem := s.hostMem, fuses := s.fuses, identity := s.identity
                     boot := { s.boot with epoch := (s.boot.epoch + 1) % 2 ^ 32 } }
/-- DEVICE_RESET (R382): BOOTSTAT reads 0xFF until start-up, which comes next, has ended. -/
def execDeviceReset (s : State) : Host.Outcome State Fault Refusal := .next s.afterReset

/-- What another device tells of a member of a gang led here that runs on one of its cores (R295, log entry 84). -/
def State.memberTells (s : State) (id : Nat) (m : MemberNews) : State :=
  match s.taskOf id with
  | none => s
  | some t =>
    if t.status ≠ .running ∨ t.core < 48 then s
    else match m with
      | .arrived level gen => s.putTask { t with gbarSeen := Store.set 0 t.gbarSeen level (max gen (Store.get 0 t.gbarSeen level)) }
      | .ended i g => (((s.putTask { t with arch := { t.arch with bgi := i, bgt := g } }).focus t.core).endDone).focus s.core
      | .faulted cause slot words pos => (s.putTask { t with began := true }).taskFault id cause slot words pos
/-- What the world outside does (log entry 2). Start-up's environment is set at any time; all else, once start-up has ended. A line that has
failed once stays broken (R379). -/
def State.outside (s : State) (o : Outside) : State :=
  match o with
  | .boot b => { s with boot := { b with epoch := s.boot.epoch, lines := s.boot.lines ++ b.lines } }
  | .assign ctx fn => if ctx < 4096 ∧ fn < 64 then { s with ctxFn := Store.set 0 s.ctxFn ctx fn } else s
  | .sensor stack layer n temp => if stack < 4 then s.sense stack layer n temp else s
  | .cellar stack line kept =>
    if 4 ≤ stack then s
    else if kept then s.fillLine stack line.entry line.off line.dirty else s.onLines stack [(line.entry, line.off)] fun _ => none
  | .flit link => if link < linkCount then s.setLink link ⟨0, s.time⟩ else s
  | .error core e => if core < 48 then s.setCore core { s.coreOf core with meets := some e } else s
  | .fetchError core e => if core < 48 then s.setCore core { s.coreOf core with fetchErr := some e } else s
  | .granted core => if 48 ≤ core ∧ core < 48 * s.env.devices ∧ !s.granted.contains core ∧ (s.coreOf core).task = 0 then { s with granted := s.granted ++ [core] } else s
  | .released core => if core < 48 then s.setCore core ((s.coreOf core).without foreignGang) else s
  | .member task m => s.memberTells task m
  | .sentHead core => s.sendHead core
  | .sentCopy copy ordinal => s.sendCopy copy ordinal

/-- HOST_DELETION (R311): by the management function, or by the function of the tensor's owner. -/
def execHostDeletion (fn tensor : Nat) (s : State) : Host.Outcome State Fault Refusal :=
  .next (match s.tensor tensor with
    | none => s
    | some t =>
      let may := fn == 0 || (match s.ownerOf t with | some o => s.fnOfCtx o == fn | none => false)
      if s.bootstat ≠ 0 ∨ (s.fnOf fn).frozen ∨ !may then s else s.deleteTensor tensor)

/-- The lowest id on a stack that is not in use, from an id on (R385). -/
def lowestId (used : List Nat) (id : Nat) : Nat → Nat
  | 0 => id
  | n + 1 => if used.contains id then lowestId used (id + 1) n else id
/-- The ids of the tensors of an image (R385). -/
def assignIds (stack : Nat) (used : List Nat) : List ImageTensor → List Nat
  | [] => []
  | t :: rest =>
    match t.id with
    | some id => id :: assignIds stack used rest
    | none =>
      let id := lowestId used (if stack = 0 then 1 else stack * 2 ^ 30) (used.length + 1)
      id :: assignIds stack (id :: used) rest
/-- The operator record that the loader builds for a recipe (R388). -/
def State.recipeRecord (s : State) (target template : Nat) (inputs : List Nat) : List Byte :=
  let l := s.idBytes template 0 256
  let hs := (readHeader (s.idBytes (recHeader l) 0 256)).holds
  let out := hs.findIdx fun h => decide (2 ≤ h.mode)
  let ins := (List.range hs.length).filter fun i => match hs[i]? with | some h => h.mode == 1 | none => false
  let slot := fun i =>
    let x := if i = out then (target, match hs[i]? with | some h => h.mode | none => 0)
      else match ins.idxOf? i with
        | some k => (match inputs[k]? with | some id => (id, 1) | none => (0, 0))
        | none => (0, 0)
    leBytes (x.1 * 2 ^ 32 + x.2 * 2 ^ 30 + (2 ^ 29 - 1)) 8
  let slots := ((List.range hs.length).map slot).flatten
  leBytes template 4 ++ leBytes 0 2 ++ leBytes 8 1 ++ leBytes hs.length 1 ++ leBytes (recF l 32 4) 4 ++ leBytes 0 12
    ++ slots ++ List.replicate (104 - slots.length) 0
/-- The stores that fill a tensor of an image. -/
def State.fillTensor (s : State) (id : Nat) (content : List (Nat × Byte)) : State :=
  content.foldl (fun (s : State) x => s.writeId id x.1 [x.2]) s
/-- IMAGE_LOAD (R385, R388): the whole image, or, where a stated id is in use or is no plain id, nothing. -/
def execImageLoad (img : Image) (s : State) : Host.Outcome State Fault Refusal :=
  let stated := img.tensors.filterMap (·.id)
  let used := s.tensors.map (·.1)
  let clash := stated.any (fun id => used.contains id || id == 0 || fld id 29 1 != 0 || decide (2 ^ 32 ≤ id)) || stated.eraseDups.length != stated.length
  let ids := assignIds img.stack (used ++ stated) img.tensors
  let idAt := fun i => ids.getD i 0
  let full := (List.range 4).any fun k => decide (2 ^ 18 < s.homed k + (ids.filter fun id => homeOf id == k).length)
  .next (if clash || full then s
    else
      let s := (ids.zip img.tensors).foldl (fun (s : State) x =>
        (s.setTensor { Tensor.make x.1 x.2.fmt x.2.extents 0 0 with ro := x.2.ro }).fillTensor x.1 x.2.content) s
      let s := img.fixes.foldl (fun (s : State) f =>
        s.fillTensor (idAt f.tensor) ((List.range 4).zip (leBytes (idAt f.ref) 4) |>.map fun b => (f.offset + b.1, b.2))) s
      img.recipes.foldl (fun (s : State) r =>
        let ins := r.inputs.map idAt
        let record := s.recipeRecord (idAt r.target) (idAt r.template) ins
        let own := (slotsOf record).filter fun (sl : SlotRec) => sl.id == idAt r.target && sl.mode == 3
        let es := (ins.map fun id => (id, match s.tensor id with | some t => t.epoch | none => 0)) ++ own.map fun (sl : SlotRec) => (sl.id, 2 ^ 32)
        s.attach (idAt r.target) record es) s)

end Sys2Proof.Machine
end

