-- ==== Sys2Proof/Machine/Aperture.lean ====
section
/-! DEFINITION. The register aperture of a bridge function (R284, R285, R348, R374): what lies at an offset, what reads and
writes do; the commands that CMDBUF holds (R304, R349, R353, R355, R370, R384). -/

namespace Sys2Proof.Machine

/-- What lies at an offset of a function's aperture: a register of a queue, one of the function's own, one of a stack; all of this
device. -/
inductive Place
  | queue (n reg : Nat)
  | own (reg : Nat)
  | stack (n reg : Nat)
  deriving DecidableEq, Repr
/-- The number under which the host finds this device: 0 until step 7 of a start-up has numbered the members (R382). -/
def State.devNo (s : State) : Nat := match s.run with | some b => b.member | none => 0
/-- The map of R348 and R374; none where nothing of this device lies. -/
def State.placeAt (s : State) (off : Nat) : Option Place :=
  let here := fun (base size : Nat) => decide (base + s.devNo * size ≤ off) && decide (off < base + (s.devNo + 1) * size)
  if off < 0x100000 then
    (if here 0 0x10000 then some (.queue (off % 0x10000 / 0x4000 * 64 + off % 0x4000 / 0x100) (off % 0x100)) else none)
  else if here 0x100000 0x1000 then some (.own (off % 0x1000))
  else if here 0x180000 0x1000 then some (.stack (off % 0x1000 / 0x400) (off % 0x400))
  else none

/-- What the hottest sensor of a layer reads (R374). -/
def LayerSt.hot (l : LayerSt) : Nat := l.sensors.foldl (fun acc x => max acc x.2.temp) 0
/-- Four fields of 16 bits, those of M, C, K1 and K0 from the top (R374). -/
def packLayers (k : Stack) (f : LayerSt → Nat) : Nat :=
  f k.m % 65536 * 2 ^ 48 + f k.c % 65536 * 2 ^ 32 + f k.k1 % 65536 * 2 ^ 16 + f k.k0 % 65536
/-- A register of the stack block (R374). -/
def Stack.readBlock (k : Stack) (reg : Nat) : Nat :=
  match reg with
  | 0x000 => packLayers k LayerSt.hot
  | 0x008 => packLayers k fun l => if l.on then 25 * l.freq else 0
  | 0x010 => packLayers k LayerSt.cap
  | 0x018 => k.rackHi % 2 ^ 16
  | 0x020 => k.rackLo % 2 ^ 16
  | 0x028 => k.k0.racked.toNat
  | 0x030 => k.k1.racked.toNat
  | 0x038 => k.vbidx % 2 ^ 10
  | 0x040 => Store.get 63 k.vbshift k.vbidx % 2 ^ 8
  | 0x048 => k.vbretire % 2 ^ 32
  | 0x050 => k.cellstat % 2 ^ 8
  | _ => 0
/-- QCTL (R285). -/
def OpQueue.ctl (q : OpQueue) : Nat :=
  q.owner % 2 ^ 12 * 2 ^ 36 + q.permit % 8 * 2 ^ 32 + match q.st with | .disabled => 0 | .opened => 1 | .frozen => 2
/-- A register of a queue (R284). -/
def OpQueue.readReg (q : OpQueue) (reg : Nat) : Nat :=
  match reg with
  | 0x00 => q.base | 0x08 => q.size | 0x10 => q.tail | 0x18 => q.disp | 0x20 => q.ret | 0x28 => q.ctl
  | _ => 0
/-- A register of a function's own block (R348); CMDGO is write-only. -/
def State.readOwn (s : State) (fn reg : Nat) : Nat :=
  let f := s.fnOf fn
  match reg with
  | 0x048 => bit f.busy * 2 ^ 63 + f.result % 2 ^ 40 * 2 ^ 8 + f.status % 2 ^ 8
  | 0x080 => f.fabase | 0x088 => f.fasize | 0x090 => f.fahead | 0x098 => f.fatail
  | 0x0A0 => if fn = 0 then s.tlto else 0
  | 0x0A8 => if fn = 0 then s.bootstat else 0
  | r => if r < 0x40 ∧ r % 8 = 0 then fld f.cmdbuf (8 * r) 64 else 0
/-- What a register read of the host returns (R347, R348, R374): zero for what the function does not reach; none where the read is not
answered: while start-up has not ended all but BOOTSTAT (R382), at a frozen function (R370), and at another member's registers. -/
def State.regRead (s : State) (fn off : Nat) : Option Nat :=
  if s.bootstat ≠ 0 then (if fn = 0 ∧ off = 0x1000A8 + s.devNo * 0x1000 then some s.bootstat else none)
  else if (s.fnOf fn).frozen then none
  else (s.placeAt off).map fun p => match p with
    | .queue n reg => if s.reaches fn n then (s.queueOf n).readReg reg else 0
    | .own reg => s.readOwn fn reg
    | .stack n reg => if fn = 0 then (s.stackOf n).readBlock reg else 0
/-- A write of a register that no other row of the opcode table names (R284, R285, R348, R374). CMDGO makes the function busy with the command in
CMDBUF; while it is busy, CMDGO is ignored. A base of a fault area is aligned to 64 bytes: its low 6 bits are taken as zero (log entry 86). -/
def State.regWrite (s : State) (fn : Nat) (r : RegRef) (value : Nat) : State :=
  match r with
  | .qbase queue => s.queueWrite fn queue fun q => if q.st = .disabled then { q with base := value % 2 ^ 32 } else q
  | .qctl queue =>
    let s := s.queueWrite fn queue fun q => if q.st = .disabled then { q with owner := fld value 36 12, permit := fld value 32 3 } else q
    if value % 4 = 1 then s.openQueue fn queue else if value % 4 = 0 then s.disableQueue fn queue else s
  | .cmdbuf n => if n = fn then s.fnWrite fn fun f => { f with cmdbuf := value % 2 ^ 512 } else s
  | .cmdgo n => if n = fn ∧ value % 2 ^ 64 = 1 then s.fnWrite fn fun f => { f with busy := true } else s
  | .fabase n => if n = fn then s.fnWrite fn fun f => { f with fabase := value % 2 ^ 64 / 64 * 64 } else s
  | .fatail n => if n = fn then (s.fnWrite fn fun f => { f with fatail := value % 2 ^ 32 }).pumpFn fn false else s
  | .tlto => if s.bootstat ≠ 0 ∨ (s.fnOf fn).frozen ∨ fn ≠ 0 then s else { s with tlto := value % 2 ^ 32 }
  | .vbidx stack => s.stackWrite fn stack fun k => { k with vbidx := value % 2 ^ 10 }
  | .aperture _ => s
/-- A write at an offset of the aperture: the register that lies there, if it takes one. -/
def State.apertureWrite (s : State) (fn off v : Nat) : Host.Outcome State Fault Refusal :=
  match s.placeAt off with
  | none => .next s
  | some (.queue n reg) =>
    match reg with
    | 0x00 => .next (s.regWrite fn (.qbase n) v)
    | 0x08 => execQsizeWrite fn n v s
    | 0x10 => execQtailWrite fn n v s
    | 0x28 => .next (s.regWrite fn (.qctl n) v)
    | _ => .next s
  | some (.own reg) =>
    match reg with
    | 0x040 => .next (s.regWrite fn (.cmdgo fn) v)
    | 0x080 => .next (s.regWrite fn (.fabase fn) v)
    | 0x088 => execFasizeWrite fn v s
    | 0x098 => .next (s.regWrite fn (.fatail fn) v)
    | 0x0A0 => .next (s.regWrite fn .tlto v)
    | r =>
      let b := (s.fnOf fn).cmdbuf
      .next (if r < 0x40 ∧ r % 8 = 0 then s.regWrite fn (.cmdbuf fn) (b - fld b (8 * r) 64 * 2 ^ (8 * r) + v % 2 ^ 64 * 2 ^ (8 * r)) else s)
  | some (.stack n reg) =>
    match reg with
    | 0x010 => execLfcapWrite fn n v s
    | 0x018 => execRackHiWrite fn n v s
    | 0x020 => execRackLoWrite fn n v s
    | 0x038 => .next (s.regWrite fn (.vbidx n) v)
    | 0x040 => execVbshiftWrite fn n v s
    | 0x048 => execVbretireWrite fn n v s
    | _ => .next s
/-- REGISTER_WRITE (R284, R285, R348, R374). -/
def execRegisterWrite (fn : Nat) (r : RegRef) (value : Nat) (s : State) : Host.Outcome State Fault Refusal :=
  match r with
  | .aperture off => s.apertureWrite fn off value
  | r => .next (s.regWrite fn r value)

/-- An intake record (R353), with the logical block size of the drive; what its reserved bytes hold does not matter (R9). -/
def intakeOf (drives : Store Nat) (r : List Byte) : IntakeRec :=
  { drive := recF r 0 1, ns := recF r 4 4, block := recF r 8 8, blocks := recF r 16 4, tensor := recF r 20 4, offset := recF r 24 8
    ref := recF r 32 8, ctx := recF r 40 2, bsize := Store.get 512 drives (recF r 0 1) }
/-- A decode record (R355); what its reserved bytes hold does not matter (R9). -/
def decodeOf (r : List Byte) : DecodeRec :=
  { decoder := recF r 0 1, codec := recF r 1 1, stream := recF r 4 4, offset := recF r 8 8, length := recF r 16 8, output := recF r 24 4
    frames := recF r 28 4, ref := recF r 32 8, ctx := recF r 40 2 }
/-- A transform image at a host address (R384). The manual does not lay it out: where in its bytes the body, the key and the signature lie, its
version and its routine ids are free (log entry 69). -/
def State.imageAt (s : State) (addr n : Nat) : XfImage :=
  let bs := Memory.bytes s.hostMem addr n
  let part := fun (i : Nat) => (bs.drop (Config.choice s.free (2 * i))).take (Config.choice s.free (2 * i + 1))
  { image := ⟨part 0, part 1, part 2, Config.freeNat s.free 0⟩
    routines := (List.range (Config.choice s.free 6 % 8)).map fun i => Config.freeNat s.free (i + 1) % 65536, size := n }
/-- The command in the buffer of a function runs (R348, R349): its code at +0, its context at +4, its operands from +8 as log entry 69 lays
them out. A code that R304, R349, R370 and R384 do not list, and a malformed record, get status 5. -/
def State.runCommand (s : State) (fn : Nat) : Host.Outcome State Fault Refusal :=
  let buf := (s.fnOf fn).cmdbuf
  let r := leBytes buf 64
  let c : Cmd := ⟨fn, recF r 4 4⟩
  let x := fun (i : Nat) => recF r (8 + 8 * i) 8
  let y := fun (i : Nat) => recF r (8 + 4 * i) 4
  let rec_ := (r.drop 8) ++ List.replicate 8 0
  let bad : Host.Outcome State Fault Refusal := s.take c (s.reply c 5 0)
  match recF r 0 2 with
  | 0x01 => execRefill c (x 0) (x 1) (x 2) s
  | 0x02 => execKill c (x 0) s
  | 0x03 => execFreeze c (x 0) s
  | 0x04 => execThaw c (x 0) s
  | 0x05 => execUnfreeze c (y 0) (y 1) s
  | 0x06 => execCtxsys c (y 0) (y 1) s
  | 0x10 => execSeqnew c s
  | 0x11 => execSeqend c (x 0) s
  | 0x12 => execSeqread c (x 0) (x 1) s
  | 0x13 =>
    if 6 < y 4 then bad
    else execPtcreate c { seq := y 0, index := y 1, stack := y 2, fmt := y 3, extents := (List.range (y 4)).map fun i => y (5 + i), pgsz := y 11, coh := y 12 } s
  | 0x14 => execRecread c (x 0) (x 1) s
  | 0x20 => execExportWindow c (x 0) (x 1) (x 2) (x 3) s
  | 0x21 => execUnexport c (x 0) s
  | 0x22 =>
    execImportWindow c { member := x 0, index := x 1, key := x 2, fmt := x 3, perms := x 4, stack := x 5, count := Config.freeNat s.free 0
                         epoch := Config.freeNat s.free 1 % 2 ^ 32, gen := Config.freeNat s.free 2 % 2 ^ 32 } s.used
  | 0x23 => execUnimport c (x 0) s
  | 0x30 => execIntake c (intakeOf s.drives rec_) s
  | 0x31 => execDecodeMedia c (decodeOf rec_) s
  | 0x40 => execAttest c (x 0) (fld buf 128 256) s
  | 0x41 => if 2 ^ 20 < x 1 then bad else execXfload c (s.imageAt (x 0) (x 1)) s.used
  | _ => bad

end Sys2Proof.Machine
end

