-- ==== Sys2Proof/Machine/Dispatch.lean ====
section
/-! DEFINITION. Dispatch: one arm per instruction, each a direct call of its meaning. -/

namespace Sys2Proof.Machine

/-- The meaning of an instruction in a state. -/
def exec (i : Instr) (s : State) : Host.Outcome State Fault Refusal :=
  match i with
  | .nop => Sys2Proof.Machine.execNop s
  | .add g sd sa sb => Sys2Proof.Machine.execAdd g sd sa sb s
  | .sub g sd sa sb => Sys2Proof.Machine.execSub g sd sa sb s
  | .mul g sd sa sb => Sys2Proof.Machine.execMul g sd sa sb s
  | .mulh g sd sa sb => Sys2Proof.Machine.execMulh g sd sa sb s
  | .div g sd sa sb => Sys2Proof.Machine.execDiv g sd sa sb s
  | .rem g sd sa sb => Sys2Proof.Machine.execRem g sd sa sb s
  | .min g sd sa sb => Sys2Proof.Machine.execMin g sd sa sb s
  | .max g sd sa sb => Sys2Proof.Machine.execMax g sd sa sb s
  | .and g sd sa sb => Sys2Proof.Machine.execAnd g sd sa sb s
  | .or g sd sa sb => Sys2Proof.Machine.execOr g sd sa sb s
  | .xor g sd sa sb => Sys2Proof.Machine.execXor g sd sa sb s
  | .andn g sd sa sb => Sys2Proof.Machine.execAndn g sd sa sb s
  | .shl g sd sa sb => Sys2Proof.Machine.execShl g sd sa sb s
  | .shr g sd sa sb => Sys2Proof.Machine.execShr g sd sa sb s
  | .sra g sd sa sb => Sys2Proof.Machine.execSra g sd sa sb s
  | .rol g sd sa sb => Sys2Proof.Machine.execRol g sd sa sb s
  | .clz g sd sa => Sys2Proof.Machine.execClz g sd sa s
  | .ctz g sd sa => Sys2Proof.Machine.execCtz g sd sa s
  | .popc g sd sa => Sys2Proof.Machine.execPopc g sd sa s
  | .bfx g sd sa sb => Sys2Proof.Machine.execBfx g sd sa sb s
  | .bfi g sd sa sb => Sys2Proof.Machine.execBfi g sd sa sb s
  | .sel g sd qs sa sb => Sys2Proof.Machine.execSel g sd qs sa sb s
  | .cmp g cc qd sa sb => Sys2Proof.Machine.execCmp g cc qd sa sb s
  | .addi g sd sa imm => Sys2Proof.Machine.execAddi g sd sa imm s
  | .muli g sd sa imm => Sys2Proof.Machine.execMuli g sd sa imm s
  | .andi g sd sa imm => Sys2Proof.Machine.execAndi g sd sa imm s
  | .ori g sd sa imm => Sys2Proof.Machine.execOri g sd sa imm s
  | .xori g sd sa imm => Sys2Proof.Machine.execXori g sd sa imm s
  | .shli g sd sa n => Sys2Proof.Machine.execShli g sd sa n s
  | .shri g sd sa n => Sys2Proof.Machine.execShri g sd sa n s
  | .srai g sd sa n => Sys2Proof.Machine.execSrai g sd sa n s
  | .cmpi g cc qd sa imm => Sys2Proof.Machine.execCmpi g cc qd sa imm s
  | .ldi g sd imm => Sys2Proof.Machine.execLdi g sd imm s
  | .ldih g sd imm => Sys2Proof.Machine.execLdih g sd imm s
  | .lea g sd sa off sh => Sys2Proof.Machine.execLea g sd sa off sh s
  | .fadd g sd sa sb => Sys2Proof.Machine.execFadd g sd sa sb s
  | .fsub g sd sa sb => Sys2Proof.Machine.execFsub g sd sa sb s
  | .fmul g sd sa sb => Sys2Proof.Machine.execFmul g sd sa sb s
  | .fma g sd sa sb sc => Sys2Proof.Machine.execFma g sd sa sb sc s
  | .fmin g sd sa sb => Sys2Proof.Machine.execFmin g sd sa sb s
  | .fmax g sd sa sb => Sys2Proof.Machine.execFmax g sd sa sb s
  | .fcmp g cc qd sa sb => Sys2Proof.Machine.execFcmp g cc qd sa sb s
  | .fcvt g dst src sd sa => Sys2Proof.Machine.execFcvt g dst src sd sa s
  | .qop g qd qa qb t => Sys2Proof.Machine.execQop g qd qa qb t s
  | .qmov g qd sa => Sys2Proof.Machine.execQmov g qd sa s
  | .movq g sd => Sys2Proof.Machine.execMovq g sd s
  | .br g off => Sys2Proof.Machine.execBr g off s
  | .call g off => Sys2Proof.Machine.execCall g off s
  | .ret g => Sys2Proof.Machine.execRet g s
  | .jr g sa => Sys2Proof.Machine.execJr g sa s
  | .loop sa n level stages margin rs => Sys2Proof.Machine.execLoop sa n level stages margin rs s
  | .lbrk g => Sys2Proof.Machine.execLbrk g s
  | .rot g => Sys2Proof.Machine.execRot g s
  | .yld carry off => Sys2Proof.Machine.execYld carry off s
  | .endTask g => Sys2Proof.Machine.execEndTask g s
  | .trap g code => Sys2Proof.Machine.execTrap g code s
  | .retc => Sys2Proof.Machine.execRetc s
  | .bgrd g sd which => Sys2Proof.Machine.execBgrd g sd which s
  | .bgtop g sa sb => Sys2Proof.Machine.execBgtop g sa sb s
  | .bggive g sa sb bgt => Sys2Proof.Machine.execBggive g sa sb bgt s
  | .estm g sa => Sys2Proof.Machine.execEstm g sa s
  | .time g sd => Sys2Proof.Machine.execTime g sd s
  | .cyc g sd layer => Sys2Proof.Machine.execCyc g sd layer s
  | .srd g sd idx => Sys2Proof.Machine.execSrd g sd idx s
  | .swr g sa idx => Sys2Proof.Machine.execSwr g sa idx s
  | .lnch g sd qs sa => Sys2Proof.Machine.execLnch g sd qs sa s
  | .ljoin g qs sa => Sys2Proof.Machine.execLjoin g qs sa s
  | .enq g qs sa sb => Sys2Proof.Machine.execEnq g qs sa sb s
  | .ddec g sa => Sys2Proof.Machine.execDdec g sa s
  | .hint g sa code => Sys2Proof.Machine.execHint g sa code s
  | .seqf g sd qs sa => Sys2Proof.Machine.execSeqf g sd qs sa s
  | .seqe g sa => Sys2Proof.Machine.execSeqe g sa s
  | .tgrow g h qs sa => Sys2Proof.Machine.execTgrow g h qs sa s
  | .tdef g h qs sa => Sys2Proof.Machine.execTdef g h qs sa s
  | .tfree g h => Sys2Proof.Machine.execTfree g h s
  | .vadd f vd va vb => Sys2Proof.Machine.execVadd f vd va vb s
  | .vsub f vd va vb => Sys2Proof.Machine.execVsub f vd va vb s
  | .vmul f vd va vb => Sys2Proof.Machine.execVmul f vd va vb s
  | .vmulh f vd va vb => Sys2Proof.Machine.execVmulh f vd va vb s
  | .vfma f vd va vb => Sys2Proof.Machine.execVfma f vd va vb s
  | .vfms f vd va vb => Sys2Proof.Machine.execVfms f vd va vb s
  | .vmin f vd va vb => Sys2Proof.Machine.execVmin f vd va vb s
  | .vmax f vd va vb => Sys2Proof.Machine.execVmax f vd va vb s
  | .vabs f vd va => Sys2Proof.Machine.execVabs f vd va s
  | .vneg f vd va => Sys2Proof.Machine.execVneg f vd va s
  | .vadds f vd va vb => Sys2Proof.Machine.execVadds f vd va vb s
  | .vsubs f vd va vb => Sys2Proof.Machine.execVsubs f vd va vb s
  | .vavg f vd va vb => Sys2Proof.Machine.execVavg f vd va vb s
  | .vand f vd va vb => Sys2Proof.Machine.execVand f vd va vb s
  | .vor f vd va vb => Sys2Proof.Machine.execVor f vd va vb s
  | .vxor f vd va vb => Sys2Proof.Machine.execVxor f vd va vb s
  | .vandn f vd va vb => Sys2Proof.Machine.execVandn f vd va vb s
  | .vnot f vd va => Sys2Proof.Machine.execVnot f vd va s
  | .vshl f vd va vb => Sys2Proof.Machine.execVshl f vd va vb s
  | .vshr f vd va vb => Sys2Proof.Machine.execVshr f vd va vb s
  | .vsra f vd va vb => Sys2Proof.Machine.execVsra f vd va vb s
  | .vclz f vd va => Sys2Proof.Machine.execVclz f vd va s
  | .vpopc f vd va => Sys2Proof.Machine.execVpopc f vd va s
  | .vcmp wid pg et cc pd va vb => Sys2Proof.Machine.execVcmp wid pg et cc pd va vb s
  | .vsel wid pg et vd va vb => Sys2Proof.Machine.execVsel wid pg et vd va vb s
  | .vclass f vd va => Sys2Proof.Machine.execVclass f vd va s
  | .vcvt f src vd va => Sys2Proof.Machine.execVcvt f src vd va s
  | .vcvts f src vd va => Sys2Proof.Machine.execVcvts f src vd va s
  | .vpack f vd va vb => Sys2Proof.Machine.execVpack f vd va vb s
  | .vunpk f vd va half => Sys2Proof.Machine.execVunpk f vd va half s
  | .vscl f vd va sb => Sys2Proof.Machine.execVscl f vd va sb s
  | .vrnd f vd va => Sys2Proof.Machine.execVrnd f vd va s
  | .vaddi f vd va imm => Sys2Proof.Machine.execVaddi f vd va imm s
  | .vmuli f vd va imm => Sys2Proof.Machine.execVmuli f vd va imm s
  | .vshli f vd va n => Sys2Proof.Machine.execVshli f vd va n s
  | .vshri f vd va n => Sys2Proof.Machine.execVshri f vd va n s
  | .vsrai f vd va n => Sys2Proof.Machine.execVsrai f vd va n s
  | .vandi f vd va imm => Sys2Proof.Machine.execVandi f vd va imm s
  | .vbc f vd sb => Sys2Proof.Machine.execVbc f vd sb s
  | .vldi f vd imm => Sys2Proof.Machine.execVldi f vd imm s
  | .vperm f vd va vb => Sys2Proof.Machine.execVperm f vd va vb s
  | .vrot f vd va sb => Sys2Proof.Machine.execVrot f vd va sb s
  | .vsld f vd va sb => Sys2Proof.Machine.execVsld f vd va sb s
  | .vext f sd va sb => Sys2Proof.Machine.execVext f sd va sb s
  | .vins f vd sa sb => Sys2Proof.Machine.execVins f vd sa sb s
  | .viota f vd => Sys2Proof.Machine.execViota f vd s
  | .vcmpr f vd va => Sys2Proof.Machine.execVcmpr f vd va s
  | .vxpnd f vd va => Sys2Proof.Machine.execVxpnd f vd va s
  | .vradd f vd va => Sys2Proof.Machine.execVradd f vd va s
  | .vrmax f vd va => Sys2Proof.Machine.execVrmax f vd va s
  | .vrmin f vd va => Sys2Proof.Machine.execVrmin f vd va s
  | .vdot f vd va vb => Sys2Proof.Machine.execVdot f vd va vb s
  | .pand pd pa pb => Sys2Proof.Machine.execPand pd pa pb s
  | .por pd pa pb => Sys2Proof.Machine.execPor pd pa pb s
  | .pxor pd pa pb => Sys2Proof.Machine.execPxor pd pa pb s
  | .pnot pd pa => Sys2Proof.Machine.execPnot pd pa s
  | .pfirst wid et pd pa => Sys2Proof.Machine.execPfirst wid et pd pa s
  | .pcnt wid et sd pa => Sys2Proof.Machine.execPcnt wid et sd pa s
  | .plen wid et pd sb => Sys2Proof.Machine.execPlen wid et pd sb s
  | .vpln f vd va p => Sys2Proof.Machine.execVpln f vd va p s
  | .vupln f vd va p => Sys2Proof.Machine.execVupln f vd va p s
  | .vbsc f vd va => Sys2Proof.Machine.execVbsc f vd va s
  | .vpop f vd rq => Sys2Proof.Machine.execVpop f vd rq s
  | .fexp2 f vd va => Sys2Proof.Machine.execFexp2 f vd va s
  | .fexp f vd va => Sys2Proof.Machine.execFexp f vd va s
  | .flog2 f vd va => Sys2Proof.Machine.execFlog2 f vd va s
  | .fln f vd va => Sys2Proof.Machine.execFln f vd va s
  | .frcp f vd va => Sys2Proof.Machine.execFrcp f vd va s
  | .frsq f vd va => Sys2Proof.Machine.execFrsq f vd va s
  | .fsqrt f vd va => Sys2Proof.Machine.execFsqrt f vd va s
  | .ftanh f vd va => Sys2Proof.Machine.execFtanh f vd va s
  | .fsigm f vd va => Sys2Proof.Machine.execFsigm f vd va s
  | .ferf f vd va => Sys2Proof.Machine.execFerf f vd va s
  | .fsin f vd va => Sys2Proof.Machine.execFsin f vd va s
  | .fcos f vd va => Sys2Proof.Machine.execFcos f vd va s
  | .fgelu f vd va => Sys2Proof.Machine.execFgelu f vd va s
  | .mma ta da db kb => Sys2Proof.Machine.execMma ta da db kb s
  | .mmaz ta da db kb => Sys2Proof.Machine.execMmaz ta da db kb s
  | .mmaw ta da db kb => Sys2Proof.Machine.execMmaw ta da db kb s
  | .mmag ta da db kb => Sys2Proof.Machine.execMmag ta da db kb s
  | .mdrn ta rq fmt relu shift off => Sys2Proof.Machine.execMdrn ta rq fmt relu shift off s
  | .mzero ta => Sys2Proof.Machine.execMzero ta s
  | .mdld da off => Sys2Proof.Machine.execMdld da off s
  | .mwait ta => Sys2Proof.Machine.execMwait ta s
  | .mnest da off => Sys2Proof.Machine.execMnest da off s
  | .mqset rq size => Sys2Proof.Machine.execMqset rq size s
  | .ldv g vd sa imm => Sys2Proof.Machine.execLdv g vd sa imm s
  | .stv g vd sa imm => Sys2Proof.Machine.execStv g vd sa imm s
  | .lds g sd sa imm => Sys2Proof.Machine.execLds g sd sa imm s
  | .ldsGlobal g sd h sa cls => Sys2Proof.Machine.execLdsGlobal g sd h sa cls s
  | .sts g sd sa imm => Sys2Proof.Machine.execSts g sd sa imm s
  | .ldvx g vd sa vx => Sys2Proof.Machine.execLdvx g vd sa vx s
  | .stvx g vd sa vx => Sys2Proof.Machine.execStvx g vd sa vx s
  | .ldp g pd sa imm => Sys2Proof.Machine.execLdp g pd sa imm s
  | .stp g pd sa imm => Sys2Proof.Machine.execStp g pd sa imm s
  | .cpin g h k sa sb cls => Sys2Proof.Machine.execCpin g h k sa sb cls s
  | .cpout g h k sa sb cls => Sys2Proof.Machine.execCpout g h k sa sb cls s
  | .cpmc g h k sa sb cls => Sys2Proof.Machine.execCpmc g h k sa sb cls s
  | .cpga g h k sa sb cls => Sys2Proof.Machine.execCpga g h k sa sb cls s
  | .cpsc g h k sa sb cls => Sys2Proof.Machine.execCpsc g h k sa sb cls s
  | .cpxf g h k sa sb cls => Sys2Proof.Machine.execCpxf g h k sa sb cls s
  | .cpqo g h k sa rq cls => Sys2Proof.Machine.execCpqo g h k sa rq cls s
  | .cpqf g k sa rq => Sys2Proof.Machine.execCpqf g k sa rq s
  | .cpfl g h k sa sb cls => Sys2Proof.Machine.execCpfl g h k sa sb cls s
  | .wdld g wd sa imm => Sys2Proof.Machine.execWdld g wd sa imm s
  | .waitk g k => Sys2Proof.Machine.execWaitk g k s
  | .testk g qd k => Sys2Proof.Machine.execTestk g qd k s
  | .waitkx g k => Sys2Proof.Machine.execWaitkx g k s
  | .krel g k => Sys2Proof.Machine.execKrel g k s
  | .ldg g h size sa sb cls => Sys2Proof.Machine.execLdg g h size sa sb cls s
  | .stg g h size sa sb cls => Sys2Proof.Machine.execStg g h size sa sb cls s
  | .amo g h fn sa sb scope => Sys2Proof.Machine.execAmo g h fn sa sb scope s
  | .amoc g h size sa sb scope => Sys2Proof.Machine.execAmoc g h size sa sb scope s
  | .fence g scope mask flush => Sys2Proof.Machine.execFence g scope mask flush s
  | .binit g b count => Sys2Proof.Machine.execBinit g b count s
  | .barv g b sa => Sys2Proof.Machine.execBarv g b sa s
  | .bwait g b => Sys2Proof.Machine.execBwait g b s
  | .bexp g b sa => Sys2Proof.Machine.execBexp g b sa s
  | .gbar g qs level => Sys2Proof.Machine.execGbar g qs level s
  | .cflush g h k sa sb => Sys2Proof.Machine.execCflush g h k sa sb s
  | .arrayOpStart core => Sys2Proof.Machine.execArrayOpStart core s
  | .arrayOpEnd core => Sys2Proof.Machine.execArrayOpEnd core s
  | .checkpointBundle core => Sys2Proof.Machine.execCheckpointBundle core s
  | .seqfRelease parent child => Sys2Proof.Machine.execSeqfRelease parent child s
  | .promiseMissed core => Sys2Proof.Machine.execPromiseMissed core s
  | .waitSwitchPoint core => Sys2Proof.Machine.execWaitSwitchPoint core s
  | .saveParkedTask task => Sys2Proof.Machine.execSaveParkedTask task s
  | .saveAreaReserve task => Sys2Proof.Machine.execSaveAreaReserve task s
  | .schedulerDecision die => Sys2Proof.Machine.execSchedulerDecision die s
  | .sliceExhausted core => Sys2Proof.Machine.execSliceExhausted core s
  | .drainMaxExpiry core => Sys2Proof.Machine.execDrainMaxExpiry core s
  | .gangHoldRequest die cores => Sys2Proof.Machine.execGangHoldRequest die cores s
  | .operatorHead queue => Sys2Proof.Machine.execOperatorHead queue s
  | .holdPrepare task => Sys2Proof.Machine.execHoldPrepare task s
  | .moveComplete tensor => Sys2Proof.Machine.execMoveComplete tensor s
  | .copyComplete copy => Sys2Proof.Machine.execCopyComplete copy s
  | .copyError copy e => Sys2Proof.Machine.execCopyError copy e s
  | .transformViolation core => Sys2Proof.Machine.execTransformViolation core s
  | .softError task store place => Sys2Proof.Machine.execSoftError task store place s
  | .ingressAccess r => Sys2Proof.Machine.execIngressAccess r s
  | .linkTimeout core link => Sys2Proof.Machine.execLinkTimeout core link s
  | .flitCrcRetry link => Sys2Proof.Machine.execFlitCrcRetry link s
  | .linkDown link member => Sys2Proof.Machine.execLinkDown link member s
  | .hostApertureRead fn index offset bytes => Sys2Proof.Machine.execHostApertureRead fn index offset bytes s
  | .hostApertureWrite fn index offset data => Sys2Proof.Machine.execHostApertureWrite fn index offset data s
  | .hostAtomicOp fn index offset bytes op => Sys2Proof.Machine.execHostAtomicOp fn index offset bytes op s
  | .refill c task bgi bgt => Sys2Proof.Machine.execRefill c task bgi bgt s
  | .kill c task => Sys2Proof.Machine.execKill c task s
  | .freeze c queue => Sys2Proof.Machine.execFreeze c queue s
  | .thaw c queue => Sys2Proof.Machine.execThaw c queue s
  | .unfreeze c kind number => Sys2Proof.Machine.execUnfreeze c kind number s
  | .ctxsys c context grant => Sys2Proof.Machine.execCtxsys c context grant s
  | .seqnew c => Sys2Proof.Machine.execSeqnew c s
  | .seqend c seq => Sys2Proof.Machine.execSeqend c seq s
  | .seqread c seq addr => Sys2Proof.Machine.execSeqread c seq addr s
  | .ptcreate c spec => Sys2Proof.Machine.execPtcreate c spec s
  | .recread c tensor addr => Sys2Proof.Machine.execRecread c tensor addr s
  | .exportWindow c tensor first count perms => Sys2Proof.Machine.execExportWindow c tensor first count perms s
  | .unexport c index => Sys2Proof.Machine.execUnexport c index s
  | .importWindow c spec => Sys2Proof.Machine.execImportWindow c spec s
  | .unimport c proxy => Sys2Proof.Machine.execUnimport c proxy s
  | .intake c r => Sys2Proof.Machine.execIntake c r s
  | .intakeComplete job e => Sys2Proof.Machine.execIntakeComplete job e s
  | .decodeMedia c r => Sys2Proof.Machine.execDecodeMedia c r s
  | .decodeComplete job e => Sys2Proof.Machine.execDecodeComplete job e s
  | .attest c addr nonce => Sys2Proof.Machine.execAttest c addr nonce s
  | .xfload c img => Sys2Proof.Machine.execXfload c img s
  | .qtailWrite fn queue value => Sys2Proof.Machine.execQtailWrite fn queue value s
  | .qsizeWrite fn queue value => Sys2Proof.Machine.execQsizeWrite fn queue value s
  | .qctlOpen fn queue => Sys2Proof.Machine.execQctlOpen fn queue s
  | .qctlDisable fn queue => Sys2Proof.Machine.execQctlDisable fn queue s
  | .fasizeWrite fn value => Sys2Proof.Machine.execFasizeWrite fn value s
  | .lfcapWrite fn stack value => Sys2Proof.Machine.execLfcapWrite fn stack value s
  | .rackHiWrite fn stack value => Sys2Proof.Machine.execRackHiWrite fn stack value s
  | .rackLoWrite fn stack value => Sys2Proof.Machine.execRackLoWrite fn stack value s
  | .vbshiftWrite fn stack value => Sys2Proof.Machine.execVbshiftWrite fn stack value s
  | .vbretireWrite fn stack value => Sys2Proof.Machine.execVbretireWrite fn stack value s
  | .registerWrite fn r value => Sys2Proof.Machine.execRegisterWrite fn r value s
  | .rackBank stack layer bank => Sys2Proof.Machine.execRackBank stack layer bank s
  | .bankWake stack layer bank => Sys2Proof.Machine.execBankWake stack layer bank s
  | .layerClockChange stack layer mhz => Sys2Proof.Machine.execLayerClockChange stack layer mhz s
  | .vbusEccError stack e => Sys2Proof.Machine.execVbusEccError stack e s
  | .remapTableError stack both dirty => Sys2Proof.Machine.execRemapTableError stack both dirty s
  | .rbgHealthFail test => Sys2Proof.Machine.execRbgHealthFail test s
  | .deviceReset => Sys2Proof.Machine.execDeviceReset s
  | .cellarLayerPowerOff stack layer => Sys2Proof.Machine.execCellarLayerPowerOff stack layer s
  | .cellarLayerPowerOn stack layer => Sys2Proof.Machine.execCellarLayerPowerOn stack layer s
  | .hostDeletion fn tensor => Sys2Proof.Machine.execHostDeletion fn tensor s
  | .imageLoad img => Sys2Proof.Machine.execImageLoad img s

end Sys2Proof.Machine
end

