-- ==== Sys2Proof/Machine/Issue.lean ====
section
/-! DEFINITION. The issue of a bundle on a core (R24, R40, R44, R252, R259): every slot on the state before the bundle, the lowest
slot's cause, or a hold of the bundle as a unit. -/

namespace Sys2Proof.Machine

/-- The wait that holds a bundle and may become a switch (R260). -/
def State.waitFor (s : State) (i : Instr) : List Wait :=
  match i with
  | .waitk _ k => [.token k true]
  | .waitkx _ k => [.token k false]
  | .bwait _ b => [.barrier b]
  | .gbar _ _ level => [.gbar level]
  | .ljoin _ _ sa => [.join (s.rdS sa).toNat]
  | _ => []
/-- Where a slot stands in the order in which the model runs the slots of a bundle: waits and copies after the slots that can
raise, a KREL after the waits and tests, which read the token as it stood before the bundle (R24), END and YLD after all others
(R231, R232). The copies and stores of the C slots come after a BGGIVE of S1, whose bytes they overwrite (log entry 66). A wait or a test that succeeds joins
its copies before the C and M slots read the window, and after S1 has (log entry 86). -/
def phase (x : Slot × Instr) : Nat :=
  match x.1, x.2 with
  | _, .yld _ _ | _, .endTask _ => 7
  | _, .waitk _ _ | _, .waitkx _ _ | _, .testk _ _ _ | _, .bwait _ _ => 3
  | _, .krel _ _ => 4
  | .s0, _ | .s1, _ => 0
  | .v0, _ | .v1, _ | .v2, _ => 1
  | .f, _ => 2
  | .c0, _ | .c1, _ => 5
  | .m, _ => 6
/-- The class of a single-element access that a slot makes; none for other operations, and where the guard is false. -/
def State.accessClass (s : State) (i : Instr) : Option Nat :=
  match i with
  | .ldg g _ _ _ _ c | .stg g _ _ _ _ c | .ldsGlobal g _ _ _ c => if s.guardOn g then some (s.classOf c) else none
  | .amo g _ _ _ _ _ | .amoc g _ _ _ _ _ => if s.guardOn g then some 0 else none
  | _ => none
/-- The single-element accesses of a bundle, with their classes. -/
def State.accesses (s : State) (b : Bundle) : List ((Slot × Instr) × Nat) :=
  b.ops.filterMap fun x => (s.accessClass x.2).map fun c => (x, c)
/-- Accesses of different nonzero classes, which come in either order (R270). -/
def unorderedPair (c d : Nat) : Bool := c != 0 && d != 0 && c != d
/-- The accesses of C0 and C1 come in either order, and the device takes the second one first (R270). -/
def State.swapped (s : State) (b : Bundle) : Bool :=
  match s.accesses b with
  | [(_, c), (_, d)] => unorderedPair c d && Config.choice s.free 2 % 2 == 1
  | _ => false
def State.slotOrder (s : State) (b : Bundle) : List (Slot × Instr) :=
  ((List.range 8).map fun k =>
    let l := b.ops.filter fun x => phase x == k
    if k = 5 ∧ s.swapped b then l.reverse else l).flatten

/-- The slots of a bundle run so far: the state, the cause of the lowest slot that raised, whether some slot holds the bundle,
and the waits that do. -/
structure Run where
  st    : State
  cause : Option Raise
  held  : Bool
  waits : List Wait
/-- The cause of the lower slot (R44). -/
def lowerRaise (a : Option Raise) (b : Raise) : Raise := match a with | some x => if b.slot < x.slot then b else x | none => b
/-- END, which releases what is held only once the other slots have taken effect (R232). -/
def isEnd : Instr → Bool
  | .endTask _ => true
  | _ => false
/-- One slot of a bundle run. A slot that raises or holds has no effect, but for its arrival at a GBAR (R228); an END behind a slot that
raises does nothing. -/
def runSlot (r : Run) (x : Slot × Instr) : Run :=
  if r.cause.isSome && isEnd x.2 then r
  else match exec x.2 { r.st with ctx := { r.st.ctx with slot := x.1, out := .ran } } with
  | .next t =>
    match t.ctx.out with
    | .ran => { r with st := t }
    | .held => { r with st := { r.st with cur := { r.st.cur with gbarSeen := t.cur.gbarSeen } }, held := true, waits := r.waits ++ r.st.waitFor x.2 }
    | .raised c => { r with cause := some (lowerRaise r.cause c) }
  | _ => r

/-- The task's first bundle issues (R364). -/
def State.begun (s : State) : State := { s with cur := { s.cur with began := true } }
/-- What follows a bundle whose slots have all taken effect. The choice between old and new code is made anew, outside delay
bundles (log entry 62). -/
def State.afterBundle (s : State) (id : Nat) (f : Fetched) : State :=
  if s.cur.id ≠ id ∨ s.cur.redirect = .finish then s
  else
    let t := { (s.cur.advance f.pos f.next (f.bundle.ops.any fun x => isBranch x.2)).settleOwed with wait := [], waitAt := none }
    if t.delay = 0 then { s with cur := { t with img := { t.img with tag := s.free } }, free := s.free + 1 } else { s with cur := t }
/-- The bundle is held as a unit (R40). -/
def State.holdBundle (s : State) (r : Run) : State :=
  { s with cur := { s.cur with gbarSeen := r.st.cur.gbarSeen, wait := r.waits, waitAt := some (s.cur.waitAt.getD s.time) } }
/-- A bundle as it is charged and its slots run (R259): nothing of it has run yet. -/
def State.entered (s : State) (f : Fetched) : State := (s.enterBundle f f.bundle.ck).begun.charged f.bundle
/-- The slots of a bundle run, in their order. -/
def State.runSlots (s : State) (f : Fetched) : Run :=
  ((s.enterBundle f f.bundle.ck).slotOrder f.bundle).foldl runSlot ⟨{ s.entered f with free := s.free + 1 }, none, false, []⟩
/-- The slots of a bundle whose checkpoint, if any, is taken. A bundle that traps has been charged (R259), but for one whose WAITK
misses its promise, which does not issue (R211). The commands that an END has
released ahead of the one that raises have their effect (R236, R239). -/
def State.runBundle (s : State) (f : Fetched) : State :=
  let r := s.runSlots f
  match r.cause with
  | some c =>
    if r.held ∧ c.cause ≠ 0x0A then s.holdBundle r
    else (if c.cause = 0x0A then s.enterBundle f f.bundle.ck else if c.cause = 0x13 then (s.entered f).release.1 else s.entered f).takeRaise c
  | none => if r.held then s.holdBundle r else r.st.afterBundle s.cur.id f

/-- The task in focus issues: the bundle at its code position, or the end of an END whose waits went on. An error that a store of the task
has met in flight comes first (R207, R326), but not before a bundle one of whose accesses is made. -/
def State.issue (s : State) : State :=
  let s := s.settled_
  match (if (s.coreOf s.core).early.isSome then none else s.cur.met) with
  | some r => s.takeRaise r
  | none =>
    if s.cur.redirect = .finish then s.tryEnd
    else
      match s.fetched with
      | .inl r => { s with ctx := { s.ctx with pos := s.cur.pc.toNat } }.takeRaise r
      | .inr f =>
        match (s.enterBundle f false).before f with
        | .bad s1 r => s1.takeRaise r
        | .wait s1 => s1
        | .done s1 => s1.runBundle f

/-- A core's turn: it attempts one issue in each clock of its control layer, and no second one (R24, R32). An access made ahead stays made,
and one that was sent stays so, while its bundle is held. -/
def State.coreTurn (s : State) (n : Nat) : State :=
  let s := s.focus n
  if s.cur.id = 0 ∨ (s.coreOf n).issued = some s.clk then s
  else
    let u := s.clk
    let s1 := s.issue
    let c := s1.coreOf n
    let held := s1.cur.waitAt.isSome
    s1.setCore n { c with issued := some u, meets := none, fetchErr := none, sentAt := if held then c.sentAt else none
                          early := if held then c.early else none }

/-- The registers that a single-element access reads: its guard, its handle, its scalars. -/
def accessKeys (rho : Nat) : Instr → List (Nat × Nat)
  | .ldg g h _ sa _ _ | .ldsGlobal g _ h sa _ => [(1, g.q), (4, h), (0, sSlot rho sa)]
  | .stg g h _ sa sb _ | .amo g h _ sa sb _ => [(1, g.q), (4, h), (0, sSlot rho sa), (0, sSlot rho sb)]
  | .amoc g h _ sa sb _ => [(1, g.q), (4, h), (0, sSlot rho sa), (0, sSlot rho sb), (0, sSlot rho (sb + 1))]
  | _ => []
/-- What a register holds is certain from the present clock on, until another bundle issues (R37). -/
def State.certain (s : State) (key : Nat × Nat) : Bool :=
  match s.cur.flight s.clk key with
  | [] => true
  | [p] => !p.undef && p.landed s.clk
  | _ => false
/-- Where a single-element access lies: the tensor and the byte offset. -/
def State.spotOf (s : State) (i : Instr) : Option (Nat × Nat) :=
  let at_ := fun (h sa need : Nat) (w : Option Nat) => match s.locate h (s.rdS sa).toNat need w with | .inr p => some (p.id, p.off) | .inl _ => none
  match i with
  | .ldg _ h size sa _ _ => at_ h sa 1 (some size.bytes)
  | .ldsGlobal _ _ h sa _ => at_ h sa 1 (some 8)
  | .stg _ h size sa _ _ => at_ h sa 2 (some size.bytes)
  | .amo _ h _ sa _ _ => at_ h sa 3 none
  | .amoc _ h size sa _ _ => at_ h sa 3 (some size.bytes)
  | _ => none
/-- The value that a slot sets on its way to a scalar register. -/
def emitted (l : List Pend) : Nat := (l.findSome? fun p => match p.dest with | .s _ v => some v.toNat | _ => none).getD 0
/-- One of the two accesses of a bundle made before the other one and apart from it, at a point of the global order of its own (R268); the
second one only where nothing orders the two (R270). The bundle neither raises nor holds, and what the access reads of the registers is certain; it
issues later, with the value that the access gave. -/
def State.firstAccess (s : State) (n : Nat) (f : Fetched) (second : Bool) : State :=
  let s1 := s.enterBundle f f.bundle.ck
  let r := s.runSlots f
  match r.cause.isSome || r.held, s1.accesses f.bundle with
  | false, [(x, c), (y, d)] =>
    let z := if second then y else x
    if (second && !unorderedPair c d) || !(accessKeys s.cur.arch.rho z.2).all s.certain then s
    else
      match exec z.2 { s1 with ctx := { s1.ctx with slot := z.1, out := .ran } } with
      | .next t =>
        if t.ctx.out = .ran then
          match s1.spotOf z.2 with
          | some (id, off) =>
            { t.setCore n { t.coreOf n with early := some ⟨z.1.number, id, off, emitted (t.cur.pend.drop s.cur.pend.length)⟩ } with
              ctx := s.ctx, cur := { t.cur with pend := s.cur.pend } }
          | none => s
        else s
      | _ => s
  | _, _ => s
/-- The turn in which a core makes one of the two single-element accesses of its next bundle, in a clock in which it has issued none. -/
def State.firstTurn (s : State) (n : Nat) (second : Bool) : State :=
  let s := (s.focus n).settled_
  if s.cur.id = 0 ∨ (s.coreOf n).issued = some s.clk ∨ s.cur.met.isSome ∨ s.cur.redirect = .finish ∨ (s.coreOf n).early.isSome then s
  else
    match s.fetched with
    | .inl _ => s
    | .inr f => match (s.enterBundle f false).before f with
      | .done s1 => s1.firstAccess n f second
      | _ => s

/-- The layers of a stack that have an edge at a time. -/
def LayerSt.edgeAt (l : LayerSt) (now : Nat) : LayerSt :=
  if l.on && l.edge == now then { l with cyc := l.cyc + 1, edge := now + l.period } else l
def Stack.layers (k : Stack) : List LayerSt := [k.m, k.c, k.k0, k.k1]
/-- The time of the next clock edge. -/
def State.nextEdge (s : State) : Nat :=
  let es := ((List.range 4).map fun n => ((s.stackOf n).layers.filter (·.on)).map (·.edge)).flatten
  es.foldl min (es.headD (s.now + 1))
/-- The writes of a stack's registers that land at an edge of its control clock (R57, R60). -/
def State.landStack (s : State) (n : Nat) (k : Stack) : State :=
  { s.setStack n ((s.landing.filter (·.stack == n)).foldl (fun k w => k.writeReg w.idx w.val) k) with
    landing := s.landing.filter (·.stack != n) }
/-- The longest time that a store waits to enter the global order (R269), under the LEASE of the storing core's stack (log entry 76). -/
def State.storeBound (s : State) (t : Task) : Nat := 2000 + 64 * ((s.stackOf (t.core / 12)).lease + 1)
/-- The stores whose longest wait ends by a time enter the global order; for one through an imported window the link timeout is added (R269). -/
def State.meetBounds (s : State) (time : Nat) : State :=
  s.allTasks.foldl (fun (s : State) x => match s.taskOf x.id with
    | some t => s.pull t fun p => decide (p.time + s.storeBound t + (if isProxy p.tensor then s.tlto else 0) ≤ time)
    | none => s) s
/-- The next clock edge (R375, R376): stores whose wait ends, counters, and the matrix arrays of the layers that have one. A write of TSTAT
that lands at the edge comes before the flags of the array (R60). -/
def State.tick (s : State) : State :=
  let now := s.nextEdge
  let s := { s.meetBounds (now / quantaPerNs) with now := now }
  (List.range 4).foldl (fun (s : State) n =>
    let k := s.stackOf n
    let k1 := { k with m := k.m.edgeAt now, c := k.c.edgeAt now, k0 := k.k0.edgeAt now, k1 := k.k1.edgeAt now }
    let s := if k1.c.cyc = k.c.cyc then s.setStack n k1 else s.landStack n k1
    if k.m.edge = now then s.mapTasks fun t => if t.status = .running ∧ t.core / 12 = n then (t.settle k1.c.cyc).arrayEdge else t else s) s

/-- One store of a task enters the global order, after those of the task that come before it (R270). -/
def State.drainOne (s : State) (id index : Nat) : State :=
  match s.taskOf id with
  | none => s
  | some t =>
    match t.stores[index]? with
    | none => s
    | some p => s.pull t (·.place == p.place)

/-- One turn of the machine. A slot operation is no turn of its own. -/
def State.runTurn (s : State) (t : Turn) : Host.Outcome State Fault Refusal :=
  match t with
  | .event i => if i.cls.isSome then .next s else exec i s
  | .core n => .next (s.coreTurn n)
  | .first n second => .next (s.firstTurn n second)
  | .tick => .next s.tick
  | .access c o => .next (s.copyAccess c o (s.copies.length + 1))
  | .drain id i => .next (s.drainOne id i)
  | .stop n => .next (match s.runner n with | some t => s.putTask { t with stop := true } | none => s)
  | .host fn => .next (s.pumpHost fn)
  | .remote i => .next (s.pumpRemote i)
  | .job n => .next (s.jobStep n)
  | .rack n => .next (if n < 4 then s.rackStep n else s)
  | .xf n => .next (if n < 48 then s.xfTurn n else s)
  | .command fn => if (s.fnOf fn).busy then s.runCommand fn else .next s
  | .outside o => .next (s.outside o)

/-- The steps of the device that are due, in the order in which the model takes them (log entry 2). -/
def State.due (s : State) : List Turn :=
  let ts := s.allTasks
  let cores := (List.range 48).filter fun n => (s.coreOf n).task != 0
  ((s.copies.filter fun c => c.st == .active && decide (c.promise ≤ s.time)).map fun c => .event (.copyComplete c.id)) ++
  ((s.tensors.filter fun kv => kv.2.st == .moving).map fun kv => .event (.moveComplete kv.1)) ++
  ((s.seqs.filter fun kv => kv.2.st == .released).map fun kv => .event (.seqfRelease kv.2.parent kv.1)) ++
  ((s.queues.filter fun kv => kv.2.st == .opened && kv.2.disp != kv.2.tail).map fun kv => .event (.operatorHead kv.1)) ++
  (((ts.filter fun t => t.status == .holding || t.status == .suspended).mergeSort fun a b => decide (s.rankOf b ≤ s.rankOf a)).map fun t => .event (.holdPrepare t.id)) ++
  ((ts.filter fun t => t.status == .parked && (s.coreOf t.core).frozen).map fun t => .event (.saveParkedTask t.id)) ++
  ((ts.filter fun t => t.status == .ready && (match s.workOf t.work with
    | some w => s.saveShort w t
    | none => false)).map fun t => .event (.saveAreaReserve t.id)) ++
  ((s.allGangs.map fun x => (((List.range 4).map fun d => (d, s.unasked x d)).filter fun p => !p.2.isEmpty).map fun p => .event (.gangHoldRequest p.1 p.2)).flatten) ++
  (if ts.any fun t => t.status == .ready || t.status == .parked || t.status == .saved then
    ((List.range 4).filter s.decides).map fun d => .event (.schedulerDecision d) else []) ++
  ((cores.filter fun n => match s.runner n with | some t => decide (t.slice ≤ 0) && !t.arch.clip | none => false).map fun n => .event (.sliceExhausted n)) ++
  ((cores.filter fun n => match (s.coreOf n).drainAt with | some d => decide (d ≤ s.time) | none => false).map fun n => .event (.drainMaxExpiry n)) ++
  ((cores.filter fun n => match s.runner n with
    | some t => t.waitAt.isSome && (s.focus n).settled_.switchPoint
    | none => false).map fun n => .event (.waitSwitchPoint n)) ++
  ((s.fns.filter fun kv => !kv.2.posted.isEmpty).map fun kv => .host kv.1) ++
  ((List.range s.ingress.length).map .remote) ++
  ((s.jobs.filter fun kv => !kv.2.held || kv.2.result.isSome).map fun kv => .job kv.1) ++
  (((List.range 4).filter fun n => !((s.stackOf n).k0.sensors.isEmpty && (s.stackOf n).k1.sensors.isEmpty)).map .rack) ++
  (((List.range 48).filter s.xfBusy).map .xf) ++
  ((s.fns.filter fun kv => kv.2.busy).map fun kv => .command kv.1)
/-- The first of them that changes anything. -/
def State.autoStep (s : State) : Option State :=
  s.due.findSome? fun t => match s.runTurn t with | .next s1 => if s1 = s then none else some s1 | _ => none
/-- The next core whose task has not attempted an issue in the present clock. -/
def State.nextCore (s : State) : Option Nat :=
  (List.range 48).find? fun n => (s.coreOf n).task != 0 && (s.coreOf n).issued != some (s.stackOf (n / 12)).c.cyc

/-- The header and the state of a task that has a loose leaf of its own to run, in a core that runs none. -/
def leafHeader : Header :=
  { Header.blank with span := 65535, tiles := 255, frame := 512, topup := true, seq := true, sys := true, bgi := 1000000, bgt := 1000000 }
def leafArch : Arch := Arch.start leafHeader [] 0 1 1000000 1000000
def leafTask (id core : Nat) : Task :=
  { Task.idle with id := id, status := .running, core := core, hdr := leafHeader, arch := leafArch, shadow := leafArch, began := true, slice := 2 ^ 20 }
/-- The task in focus with a code tensor of its own that holds one loose leaf at position 0, the next place at which its core
fetches. -/
def State.placeLeaf (s : State) (bytes : List Byte) : State :=
  let id := (Store.fresh s.tensors 1 (s.tensors.length + 1)).getD 1
  let s := s.setTensor (Tensor.make id 0 [bytes.length] 0 0)
  let s := s.writeId id 0 bytes
  let t := if s.cur.id = 0 then leafTask s.nextTask s.core else s.cur
  let t := { t with hdr := { t.hdr with code := id }, pc := 0, delay := 0, redirect := .none, img := ⟨bytes, [], s.free⟩, arch := { t.arch with loops := [] } }
  { s.setCore s.core { s.coreOf s.core with task := t.id, issued := none } with cur := t, nextTask := max s.nextTask (t.id + 1) }

end Sys2Proof.Machine
end

