-- ==== Sys2Proof/Machine/Step.lean ====
section
/-! DEFINITION. The step of the machine: start-up, what is on the agenda, what is due, the cores in turn, the clocks. -/

namespace Sys2Proof.Machine

/-- A turn that is taken whatever BOOTSTAT reads (R382): a reset, and what the next start-up will meet. -/
def Turn.always (t : Turn) : Bool := match t with | .event .deviceReset | .outside (.boot _) => true | _ => false

/-- One step. BOOTSTAT reads 0xFF until start-up has run; a device whose start-up failed does nothing but start again at a reset (R382). -/
def step (s : State) : Host.Outcome State Fault Refusal :=
  match s.agenda with
  | t :: rest =>
    if s.bootstat = 0 ∨ t.always = true then State.runTurn { s with agenda := rest } t
    else if s.bootstat = 0xFF then .next s.startUp
    else .next { s with agenda := rest }
  | [] =>
    if s.bootstat = 0xFF then .next s.startUp
    else if s.bootstat ≠ 0 then .fault (.startupFailed s.bootstat)
    else
      match (if s.auto then s.autoStep else none) with
      | some s1 => .next s1
      | none =>
        match s.nextCore with
        | some n => .next (s.coreTurn n)
        | none => .next s.tick

/-- The state with the instruction of `w` where the core in focus fetches next: code words in little-endian order in the code
tensor of its task (log entry 6). -/
def State.withFetchWord (s : State) (nbits w : Nat) : State :=
  { s.placeLeaf (leBytes (w % 2 ^ nbits) 50) with bootstat := 0, agenda := [.core s.core] }

end Sys2Proof.Machine
end

