-- ==== Sys2Proof/Safety.lean ====
section
/-! DEFINITION. The terms in which claims about the machine are stated: the invariant of every step, what a slot leaves of the
machine apart from one result on its way, what an instruction that completes gives. -/

namespace Sys2Proof

/-- The guard of an operation that carries one (R55). -/
def Instr.guard : Instr → Option Guard
  | .add g _ _ _ => some g
  | .sub g _ _ _ => some g
  | .mul g _ _ _ => some g
  | .mulh g _ _ _ => some g
  | .div g _ _ _ => some g
  | .rem g _ _ _ => some g
  | .min g _ _ _ => some g
  | .max g _ _ _ => some g
  | .and g _ _ _ => some g
  | .or g _ _ _ => some g
  | .xor g _ _ _ => some g
  | .andn g _ _ _ => some g
  | .shl g _ _ _ => some g
  | .shr g _ _ _ => some g
  | .sra g _ _ _ => some g
  | .rol g _ _ _ => some g
  | .clz g _ _ => some g
  | .ctz g _ _ => some g
  | .popc g _ _ => some g
  | .bfx g _ _ _ => some g
  | .bfi g _ _ _ => some g
  | .sel g _ _ _ _ => some g
  | .cmp g _ _ _ _ => some g
  | .addi g _ _ _ => some g
  | .muli g _ _ _ => some g
  | .andi g _ _ _ => some g
  | .ori g _ _ _ => some g
  | .xori g _ _ _ => some g
  | .shli g _ _ _ => some g
  | .shri g _ _ _ => some g
  | .srai g _ _ _ => some g
  | .cmpi g _ _ _ _ => some g
  | .ldi g _ _ => some g
  | .ldih g _ _ => some g
  | .lea g _ _ _ _ => some g
  | .fadd g _ _ _ => some g
  | .fsub g _ _ _ => some g
  | .fmul g _ _ _ => some g
  | .fma g _ _ _ _ => some g
  | .fmin g _ _ _ => some g
  | .fmax g _ _ _ => some g
  | .fcmp g _ _ _ _ => some g
  | .fcvt g _ _ _ _ => some g
  | .qop g _ _ _ _ => some g
  | .qmov g _ _ => some g
  | .movq g _ => some g
  | .br g _ => some g
  | .call g _ => some g
  | .ret g => some g
  | .jr g _ => some g
  | .lbrk g => some g
  | .rot g => some g
  | .endTask g => some g
  | .trap g _ => some g
  | .bgrd g _ _ => some g
  | .bgtop g _ _ => some g
  | .bggive g _ _ _ => some g
  | .estm g _ => some g
  | .time g _ => some g
  | .cyc g _ _ => some g
  | .srd g _ _ => some g
  | .swr g _ _ => some g
  | .lnch g _ _ _ => some g
  | .ljoin g _ _ => some g
  | .enq g _ _ _ => some g
  | .ddec g _ => some g
  | .hint g _ _ => some g
  | .seqf g _ _ _ => some g
  | .seqe g _ => some g
  | .tgrow g _ _ _ => some g
  | .tdef g _ _ _ => some g
  | .tfree g _ => some g
  | .ldv g _ _ _ => some g
  | .stv g _ _ _ => some g
  | .lds g _ _ _ => some g
  | .ldsGlobal g _ _ _ _ => some g
  | .sts g _ _ _ => some g
  | .ldvx g _ _ _ => some g
  | .stvx g _ _ _ => some g
  | .ldp g _ _ _ => some g
  | .stp g _ _ _ => some g
  | .cpin g _ _ _ _ _ => some g
  | .cpout g _ _ _ _ _ => some g
  | .cpmc g _ _ _ _ _ => some g
  | .cpga g _ _ _ _ _ => some g
  | .cpsc g _ _ _ _ _ => some g
  | .cpxf g _ _ _ _ _ => some g
  | .cpqo g _ _ _ _ _ => some g
  | .cpqf g _ _ _ => some g
  | .cpfl g _ _ _ _ _ => some g
  | .wdld g _ _ _ => some g
  | .waitk g _ => some g
  | .testk g _ _ => some g
  | .waitkx g _ => some g
  | .krel g _ => some g
  | .ldg g _ _ _ _ _ => some g
  | .stg g _ _ _ _ _ => some g
  | .amo g _ _ _ _ _ => some g
  | .amoc g _ _ _ _ _ => some g
  | .fence g _ _ _ => some g
  | .binit g _ _ => some g
  | .barv g _ _ => some g
  | .bwait g _ => some g
  | .bexp g _ _ => some g
  | .gbar g _ _ => some g
  | .cflush g _ _ _ _ => some g
  | _ => none

end Sys2Proof

namespace Sys2Proof.Machine

/-- The memory of the device, that of the host and the bytes of every task's window are in their canonical form. -/
def State.Inv (s : State) : Prop :=
  Memory.wf s.mem = true ∧ Memory.wf s.hostMem = true ∧ ∀ t ∈ s.cur :: s.tasks, Memory.wf t.win.bytes = true

/-- The state with the slot that executes marked as having run. -/
def State.marked (s : State) : State := { s with ctx := { s.ctx with out := .ran } }

/-- No result to the register is on its way past the clock of the issuing bundle, so that a new one overlaps none (R38). -/
def State.clear (s : State) (key : Nat × Nat) : Prop := ∀ p ∈ s.cur.pend, p.dest.key = some key → p.last ≤ s.clk

/-- No write of TSTAT is on its way (R60). -/
def State.noTstat (s : State) : Prop := ∀ p ∈ s.cur.pend, ∀ v, p.dest ≠ .tstat v

/-- `t` is `s` but for results set on their way: no register, no flag, no byte of any memory, no copy, no other task, nothing of
the device differs. -/
def State.Issues (s t : State) : Prop :=
  t = { s with cur := { s.cur with pend := t.cur.pend }, free := t.free, ctx := { s.ctx with out := .ran } }

/-- The instruction completes with the effects that `s1` has beside `s` and one result on its way: from `bound` clocks on the task
is as it would be in `s1`, but for `f` on its registers. -/
def State.CompletesWith (s s1 : State) (i : Instr) (bound : Nat) (f : Arch → Arch) : Prop :=
  ∃ t, exec i s = .next t ∧ s1.Issues t ∧
    ∀ u, s.clk + bound ≤ u → t.cur.settle u = { s1.cur.settle u with arch := f (s1.cur.settle u).arch }

/-- The instruction completes with the effects that `s1` has beside `s` and a store of bytes to the window: their lines are logged with
the bytes they had (R254), and from the next clock on the window holds the bytes (R193), beside what copies that race with the store may
leave of them (R206). -/
def State.StoresWith (s s1 : State) (i : Instr) (a : Nat) (bs : List Byte) : Prop :=
  let l : State := { s1 with cur := s1.cur.log (linesOf a bs.length) }
  ∃ t, exec i s = .next t ∧ l.Issues t ∧
    ∀ u, s.clk + 1 ≤ u → t.cur.settle u = (l.cur.settle u).put none a bs

/-- The instruction completes with one result on its way and nothing else: the frame of an instruction whose whole effect is a
result. -/
def State.Completes (s : State) (i : Instr) (bound : Nat) (f : Arch → Arch) : Prop := s.CompletesWith s i bound f

/-- A scalar register takes a value, s0 excepted (R46), and flags are ORed into TSTAT (R60). -/
def State.setS (s : State) (sd : Nat) (v : Word) (fl : Flags) (a : Arch) : Arch :=
  { a with s := if sd = 0 then a.s else Store.set 0 a.s (sSlot s.cur.arch.rho sd) v, tstat := a.tstat ||| fl }
/-- A scalar predicate takes a value, q0 excepted (R46). -/
def setQ (qd : Nat) (v : Bool) (a : Arch) : Arch :=
  { a with q := if qd = 0 then a.q else if v then a.q ||| (1#16 <<< qd) else a.q &&& ~~~(1#16 <<< qd) }
/-- A lane predicate takes the bits of a result that its mask covers, p0 excepted (R46). -/
def setP (pd : Nat) (r : PRes) (a : Arch) : Arch :=
  { a with p := if pd = 0 then a.p else Store.set 0 a.p pd (mergeP (Store.get 0 a.p pd) r.val r.mask) }
/-- A vector register takes the bytes of a result that its mask covers, and its flags are ORed into TSTAT (R25, R60). -/
def State.setV (s : State) (vd : Nat) (r : VRes) (a : Arch) : Arch :=
  let j := vSlot s.cur.hdr.frame s.cur.arch.rho vd
  { a with v := Store.set 0 a.v j (if r.mask = BitVec.allOnes 128 then r.val else mergeV (Store.get 0 a.v j) r.val r.mask)
           tstat := a.tstat ||| r.flags }

/-- No result to the destination overlaps a new one: the destination discards results, or none to it is on its way (R38, R46). -/
def State.roomS (s : State) (sd : Nat) : Prop := sd = 0 ∨ s.clear (0, sSlot s.cur.arch.rho sd)
def State.roomQ (s : State) (qd : Nat) : Prop := qd = 0 ∨ s.clear (1, qd)
def State.roomH (s : State) (h : Nat) : Prop := s.clear (4, h)
def State.roomP (s : State) (pd : Nat) : Prop := pd = 0 ∨ s.clear (2, pd)
def State.roomV (s : State) (vd : Nat) : Prop := s.clear (3, vSlot s.cur.hdr.frame s.cur.arch.rho vd)

/-- The instruction completes with a scalar result. -/
def State.GivesS (s : State) (i : Instr) (sd : Nat) (v : Word) (bound : Nat) : Prop := s.Completes i bound (s.setS sd v 0)
/-- The instruction completes with a scalar predicate. -/
def State.GivesQ (s : State) (i : Instr) (qd : Nat) (v : Bool) (bound : Nat) : Prop := s.Completes i bound (setQ qd v)
/-- The instruction completes with a binary32 result in a scalar register, and flags. -/
def State.GivesF (s : State) (i : Instr) (sd : Nat) (r : Word × Flags) (bound : Nat) : Prop := s.Completes i bound (s.setS sd r.1 r.2)
/-- The instruction completes with a lane predicate. -/
def State.GivesP (s : State) (i : Instr) (pd : Nat) (r : PRes) (bound : Nat) : Prop := s.Completes i bound (setP pd r)
/-- The instruction completes with nothing changed. -/
def State.NoEffect (s : State) (i : Instr) : Prop := exec i s = .next s.marked
/-- The instruction raises a cause, which is taken (R44). -/
def State.Raises (s : State) (i : Instr) (cause : Nat) (words : List Nat) : Prop :=
  exec i s = .next (s.takeRaise ⟨cause, s.slotNo, words, none⟩)
/-- The instruction holds its bundle at issue (R40). -/
def State.Holds (s : State) (i : Instr) : Prop := exec i s = .next { s with ctx := { s.ctx with out := .held } }
/-- The instruction completes at once with the effects that `s1` has beside `s`. -/
def State.Does (s : State) (i : Instr) (s1 : State) : Prop := exec i s = .next s1.marked

/-- The instruction completes with a vector. -/
def State.GivesV (s : State) (i : Instr) (vd : Nat) (r : VRes) (bound : Nat) : Prop := s.Completes i bound (s.setV vd r)

/-- A vector result element by element (R48, R136, R137): an active element takes the low bits of its result, an inactive one is
written, as zero, only in the zeroing mode; no byte beyond the elements is written; the flags are those of the active elements. -/
def VRes.Lanes (r : VRes) (e n : Nat) (p : PWord) (zero : Bool) (res : Nat → Nat × Flags) : Prop :=
  (∀ i, i < n → elem r.val e i = if active p e i = true then (res i).1 % 2 ^ e else 0) ∧
  (∀ k, k < 128 → r.mask.getLsbD k = (decide (k < n * (e / 8)) && (zero || active p e (k / (e / 8))))) ∧
  r.flags = (List.range n).foldl (fun fl i => if active p e i = true then fl ||| (res i).2 else fl) 0

/-- The instruction completes with a vector of elements of its own type, width, predicate and mode. -/
def State.GivesLanes (s : State) (f : VMode) (i : Instr) (vd bound : Nat) (res : Nat → Nat × Flags) : Prop :=
  ∃ r : VRes, r.Lanes f.et.bits (elemCount f.w f.et.bits) (s.rdP f.pg) f.zero res ∧ s.GivesV i vd r bound

/-- A lane predicate element by element: every bit of an element alike, no bit beyond the width written. -/
def PRes.Lanes (r : PRes) (w : Width) (e : Nat) (res : Nat → Bool) : Prop :=
  ∀ k, k < 128 → r.mask.getLsbD k = decide (k < w.bytes) ∧ r.val.getLsbD k = (decide (k < w.bytes) && res (k / (e / 8)))

/-- An integer m / d rounded under a mode: the quotient, one more where the mode says so (R76). -/
def roundQuot (rm : RM) (neg : Bool) (m d : Nat) : Nat :=
  let q := m / d
  let r := m % d
  match rm with
  | .rtz => q
  | .rne => if d < 2 * r ∨ (2 * r = d ∧ q % 2 = 1) then q + 1 else q
  | .rup => if neg = false ∧ r ≠ 0 then q + 1 else q
  | .rdn => if neg = true ∧ r ≠ 0 then q + 1 else q
/-- R81 from a floating format that has infinities to an integer of w bits, from the fields of the encoding: a subnormal encoding of an
8-bit exponent is what DAZ reads as zero (R79). -/
def fpToInt (fm : Fmt) (t : Tctl) (w : Nat) (sgn : Bool) (x : Nat) : Nat × Flags :=
  let lo : Int := if sgn = true then -(2 ^ (w - 1)) else 0
  let hi : Int := if sgn = true then 2 ^ (w - 1) - 1 else 2 ^ w - 1
  let ex := fld x fm.fb fm.eb
  let fr := fld x 0 fm.fb
  let neg := fld x (fm.w - 1) 1 == 1
  let low := fun (y : Int) => (y % 2 ^ w).toNat
  if ex = 2 ^ fm.eb - 1 then (if fr ≠ 0 then 0 else low (if neg = true then lo else hi), Flags.nv)
  else
    let m := if ex = 0 then (if t.daz = true ∧ fm.eb = 8 then 0 else fr) else 2 ^ fm.fb + fr
    let num := m * 2 ^ max ex 1
    let den := 2 ^ (fm.bias + fm.fb)
    let a := roundQuot t.rm neg num den
    let y : Int := if neg = true then -(a : Int) else a
    if y < lo then (low lo, Flags.nv) else if hi < y then (low hi, Flags.nv) else (low y, if num % den = 0 then 0 else Flags.nx)
/-- R81 from an integer to binary32: a zero is +0; else the encoding stands for (2 ^ 23 + fraction) * 2 ^ (exponent - 150) of the integer's
sign, less than one unit of the last place from the integer on the side that the rounding mode says, and NX tells whether it differs. -/
def IsFpOfInt (rm : RM) (v : Int) (r : Nat × Flags) : Prop :=
  (v = 0 → r = (0, 0)) ∧
  (v ≠ 0 → let ex := fld r.1 23 8
    let got := (2 ^ 23 + fld r.1 0 23) * 2 ^ ex
    let want := v.natAbs * 2 ^ 150
    let off := if want ≤ got then got - want else want - got
    r.1 < 2 ^ 32 ∧ (fld r.1 31 1 = 1 ↔ v < 0) ∧ 127 ≤ ex ∧ ex < 255 ∧ off < 2 ^ ex ∧ (v.natAbs ≤ 2 ^ 24 → off = 0) ∧
      r.2 = (if off = 0 then 0 else Flags.nx) ∧
      (rm = .rne → 2 * off ≤ 2 ^ ex ∧ (2 * off = 2 ^ ex → r.1 % 2 = 0)) ∧ (rm = .rtz → got ≤ want) ∧
      (rm = .rup → if v < 0 then got ≤ want else want ≤ got) ∧ (rm = .rdn → if v < 0 then want ≤ got else got ≤ want))

/-- The bridge serves a function: start-up has ended (R382) and the function is not frozen (R370). -/
def State.Serves (s : State) (fn : Nat) : Prop := s.bootstat = 0 ∧ (s.fnOf fn).frozen = false
/-- The bridge takes a command: it serves the function, and the context named is one of the function's (R347). -/
def State.Takes (s : State) (c : Cmd) : Prop := s.Serves c.fn ∧ (s.fnOfCtx c.ctx = c.fn ∨ c.fn = 0)
/-- A command ends with a status, a result and the effects that `s1` has beside the state before it. -/
def State.Answers (s : State) (i : Instr) (c : Cmd) (s1 : State) (status result : Nat) : Prop := exec i s = .next (s1.reply c status result)

end Sys2Proof.Machine
end

