-- ==== Sys2Proof/Certificates/Slice0/Obligations.lean ====
section
/-! DEFINITION. The statements about the machine. -/

open Sys2Proof Sys2Proof.Machine

/-- R57, R285, R332, R348, R374, R382: what the machine holds right after reset, before start-up: BOOTSTAT 0xFF, every queue DISABLED, no
tensor, no sequence, no task; the device's key slot LIVE and every other one FREE, all zero and at generation 1; the registers of each
stack and of each function at the reset values of their tables.
What start-up will meet is the model's choice (log entry 55), and so is that an unlisted byte reads as 0 (log entry 7). -/
def Obligations.ResetState : Prop :=  let s := State.reset
  s.bootstat = 0xFF ∧ (∀ q, (s.queueOf q).st = .disabled ∧ (s.queueOf q).disp = (s.queueOf q).tail) ∧
  (∀ id, s.tensor id = none) ∧ s.seqs = [] ∧ s.allTasks = [] ∧ s.copies = [] ∧ s.mem = [] ∧
  (s.keyOf 0).st = .live ∧ (∀ k, (s.keyOf k).gen = 1 ∧ (s.keyOf k).pair = 0 ∧ (k ≠ 0 → (s.keyOf k).st = .free)) ∧ s.tlto = 100000 ∧
  (∀ n, (s.fnOf n).cmdbuf = 0 ∧ (s.fnOf n).busy = false ∧ (s.fnOf n).fabase = 0 ∧ (s.fnOf n).fasize = 0 ∧ (s.fnOf n).fahead = 0 ∧ (s.fnOf n).fatail = 0) ∧
  ∀ n, (s.stackOf n).slice = 2 ^ 20 ∧ (s.stackOf n).waitth = 20000 ∧ (s.stackOf n).lease = 64 ∧ (s.stackOf n).drainMax = 50000 ∧
    (s.stackOf n).killTokens = 4 ∧ (s.stackOf n).depth = 4 ∧ (s.stackOf n).costSpill = 4 ∧ (s.stackOf n).costFetch = 4 ∧
    (s.stackOf n).costPack = 1 ∧ (s.stackOf n).costDecomp = 1 ∧ (s.stackOf n).costDrop = 2 ∧ (s.stackOf n).wnext = 1 ∧
    (s.stackOf n).rackHi = 840 ∧ (s.stackOf n).rackLo = 720 ∧ (s.stackOf n).m.cap = 750 ∧ (s.stackOf n).c.cap = 750 ∧
    (s.stackOf n).k0.cap = 750 ∧ (s.stackOf n).k1.cap = 750 ∧ (s.stackOf n).k0.racked = 0 ∧ (s.stackOf n).k1.racked = 0 ∧
    (s.stackOf n).vbidx = 0 ∧ (∀ g, Store.get 63 (s.stackOf n).vbshift g = 63) ∧ (s.stackOf n).vbretire = 0 ∧ (s.stackOf n).cellstat = 0

/-- The memories of the machine after reset are in their canonical form.
The form, and the 0 that an unlisted byte reads as, are the model's choice (log entry 7). -/
def Obligations.ResetInv : Prop := State.reset.Inv

/-- Every step keeps the memory of the device, that of the host and every task's window in their canonical form: addresses rising, no
cell that holds what an unlisted address reads as. Equal memories are therefore equal data in every state that follows one in that
form.
The form, and the 0 that an unlisted byte reads as, are the model's choice (log entry 7). -/
def Obligations.StepInvariant : Prop := ∀ s t : State, s.Inv → step s = .next t → t.Inv

/-- R45, R47, R50, R57: the registers of a task at its first dispatch. -/
def Obligations.FirstDispatch : Prop :=  ∀ (h : Header) (holds : List Hold) (inst id : Nat) (bgi bgt : Int),
    let a := Arch.start h holds inst id bgi bgt
    (∀ i, Store.get 0 a.s i = if i = 58 then BitVec.ofNat 64 inst else if i = 59 then BitVec.ofNat 64 id else 0) ∧
    (∀ i, Store.get 0 a.v i = 0) ∧ (∀ i, a.q.getLsbD i = decide (i = 0)) ∧ (∀ i, Store.get 0 a.p i = if i = 0 then BitVec.allOnes 128 else 0) ∧
    (∀ i, a.token i = Token.init ∧ a.barrier i = 0 ∧ a.tile i = [] ∧ Store.get 0 a.lc i = 0 ∧ Store.get 0 a.gbar i = 0) ∧
    (∀ i, Store.get none a.od i = none ∧ Store.get none a.wd i = none ∧ Store.get none a.nest i = none) ∧
    a.rho = 0 ∧ a.gi = 0 ∧ a.gt = 0 ∧ a.exhausted = false ∧ a.clip = false ∧
    (∀ i, a.handle i = (holds[i]?).map fun x => ⟨x, false⟩) ∧ a.made = [] ∧
    (∀ i, i < 8 → (a.queue i).cap = 4096 * h.plan.getD i 0 ∧ (a.queue i).data = [] ∧ (a.queue i).promised = 0) ∧
    a.bgi = bgi ∧ a.bgt = bgt ∧ a.bgs = 0 ∧ a.tctl = BitVec.ofNat 8 h.tctl ∧ a.tstat = 0 ∧ a.lix = 0 ∧
    a.trapRec = BitVec.ofNat 32 (h.window - 64) ∧ a.loops = []

/-- The words of the encodings of R28, R94, R97, R99, R101, R102 and R104, written out from their tables, decode to the operations
they stand for; the 25 code words are the worked example of R28. -/
def Obligations.DecodeWords : Prop :=  (decodeBundle (leafBundle ([0xA800, 0x0100, 0x6084, 0, 0, 0, 0x00A1, 0x4040, 0x2818] ++ List.replicate 15 0))).toOption =
    some ⟨true, false, [(.s0, .add ⟨false, 0⟩ 3 1 2), (.v0, .vadd ⟨.w512, 0, .fp32, false⟩ 4 5 6)]⟩ ∧
  -- ADDI: OP 0x20, GN 1, guard 5, SD 3, SA 2, IMM15 -1
  (decodeSlot .s1 0x20A8617FFF).toOption = some (.addi ⟨true, 5⟩ 3 2 (-1)) ∧
  -- BR: OP 0x40, guard 3, SA 0, OFF21 -2
  (decodeSlot .s0 0x40181FFFFE).toOption = some (.br ⟨false, 3⟩ (-2)) ∧
  -- LOOP: OP 0x45, SA 7, N - 1 = 3, level 2, stages - 1 = 1, margin 9, RS 1
  (decodeSlot .s0 0x4500E1A213).toOption = some (.loop 7 4 2 2 9 true) ∧
  -- VCMP: OP 0x020, W 10, PG 3, ET 2, VD[8:4] condition 2, VD[3:0] p6, VA 100, VB 511
  (decodeSlot .v2 0x1046426327FC).toOption = some (.vcmp .w1024 3 .i32 .lt 6 100 511) ∧
  -- FSQRT: OP 0x07, W 01, PG 2, ET 1, VD 300, VA 7, MD 1
  (decodeSlot .f 0x1D2CB00F).toOption = some (.fsqrt ⟨.w512, 2, true, true⟩ 300 7) ∧
  -- MMA: OP 0x01, AT 5, DA 3, DB 4, KB 32
  (decodeSlot .m 0x069A200000).toOption = some (.mma 5 3 4 32) ∧
  -- MDRN: OP 0x05, AT 2, DA 1, RQ 6, format 5, ReLU, scale enable, n -1, offset enable
  (decodeSlot .m 0x150800CBFF).toOption = some (.mdrn 2 6 .np8 true (some (-1)) (some 1)) ∧
  -- CPIN: OP 0x10, guard 1, handle 9, token 4, SA 12, SB 13, class 3, CN 1
  (decodeSlot .c1 0x2029430D7).toOption = some (.cpin ⟨false, 1⟩ 9 4 12 13 (some 3)) ∧
  -- LDV: OP 0x01, VD 256, SA 33, IMM9 5
  (decodeSlot .c0 0x20804205).toOption = some (.ldv ⟨false, 0⟩ 256 33 5) ∧
  -- LDS, global form: OP 0x03, GN 1, SD 7, SA 8, IMM12[11] 1, handle 4, class 2, CN 1
  (decodeSlot .c1 0x611C8A28).toOption = some (.ldsGlobal ⟨true, 0⟩ 7 4 8 (some 2)) ∧
  -- TESTK: OP 0x21, token 3, IMM14[3:0] q5
  (decodeSlot .c0 0x420300005).toOption = some (.testk ⟨false, 0⟩ 5 3)

/-- R93 to R108: for every well-formed slot operation and every slot that may carry it, the word that the encoding tables give it
fits the slot, and decodes to that operation: no operand is lost at any value that its field admits. -/
def Obligations.SlotRoundTrip : Prop :=  ∀ (i : Instr) (x : Slot), i.wf = true → i.slotOk x = true →
    ∃ w, encodeSlot i = some w ∧ w < 2 ^ x.place.2.2 ∧ (decodeSlot x w).toOption = some i

/-- R18, R27, R28: the 25 code words of a well-formed operation alone in a bundle decode to it.
R9, R41: a word that decodes is the encoding of the well-formed operation it decodes to: no bit of it is ignored, but for the
class field of the global form of LDS with CN = 0, which R107 does not reserve.
That the class field is ignored there is the model's reading (log entry 8). -/
def Obligations.WordsRoundTrip : Prop :=
   (∀ i : Instr, i.wf = true → i.cls.isSome = true → ∃ ws, encode i = some ws ∧ ws.length = 25 ∧ decodeWords ws = some i) ∧
   (∀ (x : Slot) (w : Nat) (i : Instr), w < 2 ^ x.place.2.2 → (decodeSlot x w).toOption = some i →
      i.wf = true ∧ i.slotOk x = true ∧ ∃ v, encodeSlot i = some v ∧
        (w = v ∨ (∃ g sd h sa, i = .ldsGlobal g sd h sa none) ∧ ∃ c < 8, w = v + c * 2 ^ 4))

/-- R19: the mask bit and the slot number of each slot. -/
def Obligations.SlotNumbers : Prop :=  ∀ b : Nat,
    ((Slot.s0.bitsOf b).1 = b.testBit 381 ∧ Slot.s0.number = 0) ∧ ((Slot.s1.bitsOf b).1 = b.testBit 380 ∧ Slot.s1.number = 1) ∧
    ((Slot.v0.bitsOf b).1 = b.testBit 379 ∧ Slot.v0.number = 2) ∧ ((Slot.v1.bitsOf b).1 = b.testBit 378 ∧ Slot.v1.number = 3) ∧
    ((Slot.v2.bitsOf b).1 = b.testBit 377 ∧ Slot.v2.number = 4) ∧ ((Slot.m.bitsOf b).1 = b.testBit 376 ∧ Slot.m.number = 5) ∧
    ((Slot.f.bitsOf b).1 = b.testBit 375 ∧ Slot.f.number = 6) ∧ ((Slot.c0.bitsOf b).1 = b.testBit 374 ∧ Slot.c0.number = 7) ∧
    ((Slot.c1.bitsOf b).1 = b.testBit 373 ∧ Slot.c1.number = 8) ∧
    (∀ l, decodeSlots b Slot.all = .ok l → fld b 368 5 ≠ 0 → ∃ e, decodeBundle b = .error e ∧ e.slot = 0xFF)

/-- R23, R109: an opcode that the table of R109 leaves unassigned, and a control opcode in S1 or a system opcode in S0, decodes in
no slot; a bundle with such a slot, and no lower slot that is illegal, is illegal under that slot's number, and its issue raises
cause 0x02. -/
def Obligations.UnassignedRefused : Prop :=  ∀ (x : Slot) (w : Nat),
    (match x.cls with
      | .scalar => let op := fld w 32 8
        (0x18 ≤ op ∧ op ≤ 0x1F) ∨ (0x2C ≤ op ∧ op ≤ 0x2F) ∨ (0x38 ≤ op ∧ op ≤ 0x3B) ∨ op = 0x3F ∨ op = 0x41 ∨ op = 0x46 ∨
        (0x49 ≤ op ∧ op ≤ 0x5F) ∨ (0x76 ≤ op ∧ op ≤ 0xFF) ∨
        (x = .s1 ∧ 0x40 ≤ op ∧ op ≤ 0x48) ∨ (x = .s0 ∧ 0x60 ≤ op ∧ op ≤ 0x75)
      | .vector => let op := fld w 39 9
        (0x00E ≤ op ∧ op ≤ 0x00F) ∨ (0x01A ≤ op ∧ op ≤ 0x01F) ∨ (0x023 ≤ op ∧ op ≤ 0x02F) ∨ (0x036 ≤ op ∧ op ≤ 0x03F) ∨
        (0x048 ≤ op ∧ op ≤ 0x04F) ∨ (0x058 ≤ op ∧ op ≤ 0x05F) ∨ op = 0x063 ∨ (0x065 ≤ op ∧ op ≤ 0x06F) ∨
        (0x077 ≤ op ∧ op ≤ 0x07F) ∨ (0x083 ≤ op ∧ op ≤ 0x08F) ∨ (0x091 ≤ op ∧ op ≤ 0x1FF)
      | .special => let op := fld w 26 6
        0x0E ≤ op ∧ op ≤ 0x3F
      | .matrix => let op := fld w 34 6
        0x0B ≤ op ∧ op ≤ 0x3F
      | .copy => let op := fld w 29 7
        (0x09 ≤ op ∧ op ≤ 0x0F) ∨ (0x1A ≤ op ∧ op ≤ 0x1F) ∨ (0x24 ≤ op ∧ op ≤ 0x27) ∨ (0x2C ≤ op ∧ op ≤ 0x2F) ∨
        (0x36 ≤ op ∧ op ≤ 0x3B) ∨ (0x3D ≤ op ∧ op ≤ 0x7F)) →
    (∃ e, decodeSlot x w = .error e) ∧
    (∀ b, x.bitsOf b = (true, w) → (∀ y ∈ Slot.all, y.number < x.number → ∃ r, slotResult b y = .ok r) →
      (∃ e, decodeBundle b = .error ⟨x.number, e⟩) ∧
      ∀ (s : State) (n : Nat), 0 ≤ s.cur.pc → s.cur.pc < 2 ^ 32 → s.fetchMeet s.cur.pc.toNat = none →
        s.bundleAt s.cur.pc.toNat = some (b, n) →
        ∃ r, s.fetched = .inl r ∧ r.cause = 0x02 ∧ r.slot = x.number)

/-- R98: LOOP, YLD and RETC under any guard but q0 with GN = 0 are illegal; every other scalar operation keeps the guard that its
word names. -/
def Obligations.ScalarGuards : Prop :=  ∀ (x : Slot) (w : Nat), x.cls = .scalar →
    (fld w 32 8 = 0x45 ∨ fld w 32 8 = 0x60 ∨ fld w 32 8 = 0x63 → fld w 27 5 ≠ 0 → ∃ e, decodeSlot x w = .error e) ∧
    (∀ i, (decodeSlot x w).toOption = some i → fld w 32 8 ≠ 0x45 → fld w 32 8 ≠ 0x60 → fld w 32 8 ≠ 0x63 → fld w 32 8 ≠ 0 →
      i.guard = some ⟨fld w 31 1 == 1, fld w 27 4⟩ ∧
      ∀ g : Guard, g.q < 16 → ∃ j, (decodeSlot x (w - fld w 27 5 * 2 ^ 27 + put (bit g.neg) 31 + put g.q 27)).toOption = some j ∧
        j.guard = some g)

/-- R27 and R31: what a code word means by its value, and the words it takes: a word below 0x1000 is a bundle of the blend, 0xFFFF
a literal bundle in the next 24 words, every other one is illegal, as are a blend word beyond the blend, a position beyond the
end of the code tensor and a literal that runs past it. The position is one that the loop buffer does not hold (for one that it holds, the
bundle is the pinned one, R35), the task's core has loaded the code as it stands, and the fetch meets no error.
What a core has loaded of code that is written since is the model's choice (log entry 62). -/
def Obligations.CodeWords : Prop :=  ∀ (s : State) (pos : Nat),
    let size := s.sizeOf s.cur.hdr.code
    let w := s.coreNat s.cur.hdr.code (2 * pos) 2
    (∀ p, s.pinned pos = some p → s.bundleAt pos = p.bundle) ∧
    (s.codeFresh → s.pinned pos = none →
    (size < 2 * pos + 2 → s.bundleAt pos = none) ∧
    (2 * pos + 2 ≤ size →
      (w < 0x1000 → w < s.sizeOf s.cur.hdr.blend / 48 → s.bundleAt pos = some (s.coreNat s.cur.hdr.blend (48 * w) 48, 1)) ∧
      (w < 0x1000 → s.sizeOf s.cur.hdr.blend / 48 ≤ w → s.bundleAt pos = none) ∧
      (0x1000 ≤ w → w ≤ 0xFFFE → s.bundleAt pos = none) ∧
      (w = 0xFFFF → 2 * (pos + 25) ≤ size → ∃ b, s.bundleAt pos = some (b, 25) ∧ b < 2 ^ 384 ∧
        ∀ k, 1 ≤ k → k ≤ 24 → fld b (384 - 16 * k) 16 = s.coreNat s.cur.hdr.code (2 * (pos + k)) 2) ∧
      (w = 0xFFFF → size < 2 * (pos + 25) → s.bundleAt pos = none)) ∧
    (s.cur.pc = pos → pos < 2 ^ 32 → s.fetchMeet pos = none → s.bundleAt pos = none → ∃ r, s.fetched = .inl r ∧ r.cause = 0x01))

/-- A step runs the decoded instruction. Where the next turn is a core's, the words at its task's code position hold a legal bundle
with one operation, the core has not issued in this clock (R32), no store of the task has met an error in flight, the fetch meets no error,
and the checks and the checkpoint that come before its charge are past, the step is exec of that operation on
the charged state, followed by what issue adds: the position moves on after a slot that ran (R26, R33, R129), the bundle waits as
a unit after one that holds (R40), the cause is taken after one that raised (R44), on the charged state (R259), but for a missed promise, whose
bundle has not issued (R211). Where the next turn is a step of
the device, the step is exec of it.
Whose turn is next, the fields of ctx, and which error a fetch meets are the model's choice (log entries 2, 3 and 71); that a fetch costs no clock is its reading (log entry 10). -/
def Obligations.StepRunsDecoded : Prop :=  ∀ (s : State) (rest : List Turn), s.bootstat = 0 →
    let s0 : State := { s with agenda := rest }
    (∀ i : Instr, i.cls = none → s.agenda = .event i :: rest → step s = exec i s0) ∧
    ∀ (n b k : Nat) (d : Bundle) (x : Slot) (i : Instr) (s1 t : State), s.agenda = .core n :: rest →
      let sf := (s0.focus n).settled_
      let pc := sf.cur.pc.toNat
      let f : Fetched := ⟨d, pc, pc + k⟩
      (s0.focus n).cur.id ≠ 0 → ((s0.focus n).coreOf n).issued ≠ some (s0.focus n).clk → sf.cur.met = none → sf.cur.redirect ≠ .finish →
      0 ≤ sf.cur.pc → sf.cur.pc < 2 ^ 32 → sf.fetchMeet pc = none →
      sf.bundleAt pc = some (b, k) → decodeBundle b = .ok d → sf.legality d pc = none → d.ops = [(x, i)] →
      (sf.enterBundle f false).before f = .done s1 →
      let sc := (s1.enterBundle f d.ck).begun.charged d
      let st : State := { sc with free := s1.free + 1 }
      exec i { st with ctx := { st.ctx with slot := x, out := .ran } } = .next t →
      let done := fun (v : State) => let c := v.coreOf n; let waits := v.cur.waitAt.isSome
        Host.Outcome.next (v.setCore n { c with issued := some (s0.focus n).clk, meets := none, fetchErr := none,
                                                sentAt := if waits = true then c.sentAt else none, early := if waits = true then c.early else none })
      (t.ctx.out = .ran → step s = done (t.afterBundle s1.cur.id f)) ∧
      (t.ctx.out = .held →
        step s = done (s1.holdBundle ⟨{ st with cur := { st.cur with gbarSeen := t.cur.gbarSeen } }, none, true, st.waitFor i⟩)) ∧
      (∀ r, t.ctx.out = .raised r → step s = done ((if r.cause = 0x0A then s1.enterBundle f d.ck else if r.cause = 0x13 then sc.release.1 else sc).takeRaise r))

/-- R40 and R44: of the slots of a bundle that raise, none of which holds it, the cause of the one with the lowest slot number is the one that is
taken, on the state before the bundle, charged (not charged where a promise is missed, R211); where none raises and none holds, every slot has its effect; a bundle that waits leaves every
register, the window and the memory as they were.
A bundle in which one slot holds and another raises is the model's reading (log entry 54); where a wait stands among the slots is its choice (log entry 86). -/
def Obligations.BundleUnit : Prop :=  ∀ (s : State) (f : Fetched),
    let order := (s.enterBundle f f.bundle.ck).slotOrder f.bundle
    let start : State := { (s.enterBundle f f.bundle.ck).begun.charged f.bundle with free := s.free + 1 }
    let upTo := fun (l : List (Slot × Instr)) => l.foldl runSlot ⟨start, none, false, []⟩
    -- the slot that stands behind `l` in the order raises a cause; an END behind a slot that raises does not execute
    let raises := fun (l : List (Slot × Instr)) (x : Slot × Instr) (c : Raise) =>
      (∃ rest, order = l ++ x :: rest) ∧ ((upTo l).cause = none ∨ isEnd x.2 = false) ∧
      ∃ t, exec x.2 { (upTo l).st with ctx := { (upTo l).st.ctx with slot := x.1, out := .ran } } = .next t ∧ t.ctx.out = .raised c
    ((upTo order).held = false → ∀ l x c, raises l x c → (∀ l2 x2 c2, raises l2 x2 c2 → l2 = l ∨ c.slot < c2.slot) →
      let charged := (s.enterBundle f f.bundle.ck).begun.charged f.bundle
      s.runBundle f = (if c.cause = 0x0A then s.enterBundle f f.bundle.ck else if c.cause = 0x13 then charged.release.1 else charged).takeRaise c) ∧
    ((upTo order).held = false → (∀ l x c, ¬ raises l x c) → s.runBundle f = (upTo order).st.afterBundle s.cur.id f) ∧
    ((upTo order).held = true → (∀ c, (upTo order).cause = some c → c.cause ≠ 0x0A) →
      (s.runBundle f).cur.arch = s.cur.arch ∧ (s.runBundle f).cur.win = s.cur.win ∧ (s.runBundle f).cur.pend = s.cur.pend ∧
      (s.runBundle f).cur.pc = s.cur.pc ∧ (s.runBundle f).mem = s.mem ∧ (s.runBundle f).cur.waitAt = some (s.cur.waitAt.getD s.time))

/-- R46: writes to s0, q0 and p0 are discarded, and s0 reads as zero, q0 as true and p0 as all ones, in every state. -/
def Obligations.FixedRegisters : Prop :=  ∀ (s : State), s.rdS 0 = 0 ∧ s.rdQ 0 = true ∧ s.rdP 0 = BitVec.allOnes 128 ∧
    (∀ v b u, ((s.emitS 0 v b 0).cur.settle u).arch = (s.cur.settle u).arch) ∧
    (∀ v b, s.emitQ 0 v b = s) ∧ (∀ r b, s.emitP 0 r b = s)

/-- R37 and R38: a register to which no result is on its way reads as it stands; a lone result of bound L issued at clock t reads
as itself from t + L on and never in its own clock; two results on their way that overlap leave the register undefined: it then
holds a free value.
The free value is log entry 1; what an overlap leaves of a handle is the model's choice (log entry 63). -/
def Obligations.ReadsAfterLanding : Prop :=  ∀ (s : State) (i : Nat), i ≠ 0 →
    let j := sSlot s.cur.arch.rho i
    (s.cur.flight s.clk (0, j) = [] → s.rdS i = Store.get 0 s.cur.arch.s j) ∧
    (∀ p v, s.cur.flight s.clk (0, j) = [p] → p.dest = .s j v → p.undef = false → p.clk + max 1 p.bound ≤ s.clk → s.rdS i = v) ∧
    (∀ v b fl, s.clear (0, j) → (s.emitS i v b fl).rdS i = s.rdS i) ∧
    (∀ p ∈ s.cur.pend, p.dest.key = some (0, j) → s.clk < p.last → ∀ v b, ∃ q ∈ (s.emitS i v b 0).cur.pend,
      q.dest = .s j v ∧ q.undef = true ∧ ∀ a : Arch, Store.get 0 (a.land q.dest q.undef q.tag).s j = Config.freeBits 64 s.free 0)

/-- R114, with the bounds of R95: every integer operation of two registers, or of one, completes and gives the value of the
table, read from its sources at issue; a destination s0 discards it (R46). Nothing else of the machine changes. -/
def Obligations.ScalarArithmetic : Prop :=  ∀ (s : State) (g : Guard) (sd sa sb : Nat), s.guardOn g = true → s.roomS sd →
    let a := s.rdS sa
    let b := s.rdS sb
    s.GivesS (.add g sd sa sb) sd (BitVec.ofNat 64 (a.toNat + b.toNat)) 1 ∧
    s.GivesS (.sub g sd sa sb) sd (BitVec.ofInt 64 (a.toInt - b.toInt)) 1 ∧
    s.GivesS (.mul g sd sa sb) sd (BitVec.ofNat 64 (a.toNat * b.toNat)) 3 ∧
    s.GivesS (.mulh g sd sa sb) sd ((BitVec.ofInt 128 (a.toInt * b.toInt)).extractLsb' 64 64) 3 ∧
    s.GivesS (.div g sd sa sb) sd (if b = 0 then BitVec.allOnes 64 else BitVec.ofInt 64 (a.toInt.tdiv b.toInt)) 12 ∧
    s.GivesS (.rem g sd sa sb) sd (if b = 0 then a else BitVec.ofInt 64 (a.toInt.tmod b.toInt)) 12 ∧
    s.GivesS (.min g sd sa sb) sd (if a.toInt ≤ b.toInt then a else b) 1 ∧
    s.GivesS (.max g sd sa sb) sd (if a.toInt ≤ b.toInt then b else a) 1 ∧
    s.GivesS (.and g sd sa sb) sd (a &&& b) 1 ∧ s.GivesS (.or g sd sa sb) sd (a ||| b) 1 ∧
    s.GivesS (.xor g sd sa sb) sd (a ^^^ b) 1 ∧ s.GivesS (.andn g sd sa sb) sd (a &&& ~~~b) 1 ∧
    s.GivesS (.shl g sd sa sb) sd (a <<< b.toNat) 1 ∧ s.GivesS (.shr g sd sa sb) sd (a >>> b.toNat) 1 ∧
    s.GivesS (.sra g sd sa sb) sd (a.sshiftRight b.toNat) 1 ∧
    s.GivesS (.rol g sd sa sb) sd (a <<< (b.toNat % 64) ||| a >>> (64 - b.toNat % 64)) 1 ∧
    (∃ n, n ≤ 64 ∧ a.toNat < 2 ^ (64 - n) ∧ (n < 64 → 2 ^ (63 - n) ≤ a.toNat) ∧ s.GivesS (.clz g sd sa) sd (BitVec.ofNat 64 n) 1) ∧
    (∃ n, n ≤ 64 ∧ (∀ i < n, a.getLsbD i = false) ∧ (n < 64 → a.getLsbD n = true) ∧ s.GivesS (.ctz g sd sa) sd (BitVec.ofNat 64 n) 1) ∧
    s.GivesS (.popc g sd sa) sd (BitVec.ofNat 64 ((List.range 64).countP fun i => a.getLsbD i)) 1

/-- R115 and R116: fields, selection and the immediate forms, bit by bit; BFI and LDIH read their destination. -/
def Obligations.ScalarFields : Prop :=  ∀ (s : State) (g : Guard) (sd sa sb qs imm n : Nat) (x : Int) (sh : Nat), s.guardOn g = true → s.roomS sd → imm < 2 ^ 21 → n < 64 →
    let a := s.rdS sa
    let b := s.rdS sb
    let d := s.rdS sd
    let pos := (b &&& 63#64).toNat
    let len := min ((b >>> 8) &&& 127#64).toNat 64
    (∃ v : Word, (∀ i < 64, v.getLsbD i =
        if i < len then a.getLsbD (pos + i) else b.getLsbD 16 && decide (0 < len) && a.getLsbD (pos + (len - 1))) ∧
      s.GivesS (.bfx g sd sa sb) sd v 1) ∧
    (∃ v : Word, (∀ i < 64, v.getLsbD i = if pos ≤ i ∧ i < pos + len then a.getLsbD (i - pos) else d.getLsbD i) ∧
      s.GivesS (.bfi g sd sa sb) sd v 1) ∧
    s.GivesS (.sel g sd qs sa sb) sd (if s.rdQ qs = true then a else b) 1 ∧
    s.GivesS (.addi g sd sa x) sd (BitVec.ofInt 64 (a.toInt + x)) 1 ∧
    s.GivesS (.muli g sd sa x) sd (BitVec.ofInt 64 (a.toInt * x)) 3 ∧
    s.GivesS (.andi g sd sa imm) sd (a &&& BitVec.ofNat 64 imm) 1 ∧
    s.GivesS (.ori g sd sa imm) sd (a ||| BitVec.ofNat 64 imm) 1 ∧
    s.GivesS (.xori g sd sa imm) sd (a ^^^ BitVec.ofNat 64 imm) 1 ∧
    s.GivesS (.shli g sd sa n) sd (a <<< n) 1 ∧ s.GivesS (.shri g sd sa n) sd (a >>> n) 1 ∧
    s.GivesS (.srai g sd sa n) sd (a.sshiftRight n) 1 ∧
    s.GivesS (.ldi g sd x) sd (BitVec.ofInt 64 x) 1 ∧
    (∃ v : Word, (∀ i < 64, v.getLsbD i = if i < 21 then imm.testBit i else d.getLsbD (i - 21)) ∧ s.GivesS (.ldih g sd imm) sd v 1) ∧
    s.GivesS (.lea g sd sa x sh) sd (BitVec.ofInt 64 (a.toInt + x * 2 ^ sh)) 1 ∧
    (∃ v : Word, (∀ i < 64, v.getLsbD i = (decide (i < 16) && s.rdQ i)) ∧ s.GivesS (.movq g sd) sd v 1)

/-- R117 and R121: comparisons under each condition, predicate logic, and a register's truth, into a predicate; a
destination q0 discards it (R46). -/
def Obligations.ScalarPredicates : Prop :=  ∀ (s : State) (g : Guard) (qd qa qb t sa sb : Nat) (x : Int), s.guardOn g = true → s.roomQ qd → sfits x 11 = true →
    let a := s.rdS sa
    let b := s.rdS sb
    let c := BitVec.ofInt 64 x
    s.GivesQ (.cmp g .eq qd sa sb) qd (decide (a = b)) 1 ∧ s.GivesQ (.cmp g .ne qd sa sb) qd (decide (a ≠ b)) 1 ∧
    s.GivesQ (.cmp g .lt qd sa sb) qd (decide (a.toInt < b.toInt)) 1 ∧ s.GivesQ (.cmp g .le qd sa sb) qd (decide (a.toInt ≤ b.toInt)) 1 ∧
    s.GivesQ (.cmp g .gt qd sa sb) qd (decide (b.toInt < a.toInt)) 1 ∧ s.GivesQ (.cmp g .ge qd sa sb) qd (decide (b.toInt ≤ a.toInt)) 1 ∧
    s.GivesQ (.cmp g .ltu qd sa sb) qd (decide (a.toNat < b.toNat)) 1 ∧ s.GivesQ (.cmp g .leu qd sa sb) qd (decide (a.toNat ≤ b.toNat)) 1 ∧
    s.GivesQ (.cmp g .gtu qd sa sb) qd (decide (b.toNat < a.toNat)) 1 ∧ s.GivesQ (.cmp g .geu qd sa sb) qd (decide (b.toNat ≤ a.toNat)) 1 ∧
    s.GivesQ (.cmpi g .eq qd sa x) qd (decide (a.toInt = x)) 1 ∧ s.GivesQ (.cmpi g .ne qd sa x) qd (decide (a.toInt ≠ x)) 1 ∧
    s.GivesQ (.cmpi g .lt qd sa x) qd (decide (a.toInt < x)) 1 ∧ s.GivesQ (.cmpi g .le qd sa x) qd (decide (a.toInt ≤ x)) 1 ∧
    s.GivesQ (.cmpi g .gt qd sa x) qd (decide (x < a.toInt)) 1 ∧ s.GivesQ (.cmpi g .ge qd sa x) qd (decide (x ≤ a.toInt)) 1 ∧
    s.GivesQ (.cmpi g .ltu qd sa x) qd (decide (a.toNat < c.toNat)) 1 ∧ s.GivesQ (.cmpi g .leu qd sa x) qd (decide (a.toNat ≤ c.toNat)) 1 ∧
    s.GivesQ (.cmpi g .gtu qd sa x) qd (decide (c.toNat < a.toNat)) 1 ∧ s.GivesQ (.cmpi g .geu qd sa x) qd (decide (c.toNat ≤ a.toNat)) 1 ∧
    s.GivesQ (.qop g qd qa qb t) qd (t.testBit (2 * (s.rdQ qa).toNat + (s.rdQ qb).toNat)) 1 ∧
    s.GivesQ (.qmov g qd sa) qd (decide (a ≠ 0)) 1

/-- R118 to R120: the binary32 operations read bits [31:0] of their sources under DAZ, round once and zero-extend, and their
flags land with the result (R60); FMIN, FMAX and FCMP raise none. A conversion between integers saturates (R120); one from binary32 to an
integer gives 0 for a NaN and saturates, with NV, and one from an integer is rounded once (R81).
R80, R81 and R118 at the special operands: a NaN source of FADD, FSUB, FMUL and FMA, the addend too, gives the canonical NaN, and no
flag but NV where FMA multiplies zero by infinity; infinity minus infinity and zero times infinity raise NV. FCMP orders numbers by sign and
magnitude, and is true for a NaN under NE and UN alone. FCVT among binary32, bf16 and fp16 widens exactly and rounds once, from the fields
of the encodings.
The flags of FMA at the corners are the model's reading (log entry 21). -/
def Obligations.ScalarFloat : Prop :=
   (∀ (s : State) (g : Guard) (sd qd sa sb sc : Nat) (cc : FCond) (dst src : ET), s.guardOn g = true → s.roomS sd → s.roomQ qd → s.noTstat →
      let t := s.tctl
      let val := fun r => srcF Fmt.fp32 t ((s.rdS r).toNat % 2 ^ 32)
      let res := fun (r : FVal × Flags) => (BitVec.ofNat 64 (encodeF Fmt.fp32 t r.1).1, r.2 ||| (encodeF Fmt.fp32 t r.1).2)
      let a := s.rdS sa
      s.GivesF (.fadd g sd sa sb) sd (res (FVal.add t.rm (val sa) (val sb))) 4 ∧
      s.GivesF (.fsub g sd sa sb) sd (res (FVal.add t.rm (val sa) (val sb).negate)) 4 ∧
      s.GivesF (.fmul g sd sa sb) sd (res (FVal.mul (val sa) (val sb))) 4 ∧
      s.GivesF (.fma g sd sa sb sc) sd (res (FVal.fma t.rm (val sa) (val sb) (val sc))) 4 ∧
      s.GivesF (.fmin g sd sa sb) sd (BitVec.ofNat 64 (bitsOf Fmt.fp32 (FVal.fmin (val sa) (val sb))), 0) 4 ∧
      s.GivesF (.fmax g sd sa sb) sd (BitVec.ofNat 64 (bitsOf Fmt.fp32 (FVal.fmax (val sa) (val sb))), 0) 4 ∧
      s.GivesQ (.fcmp g cc qd sa sb) qd (FCond.holdsF cc (val sa) (val sb)) 4 ∧
      s.GivesF (.fcvt g dst src sd sa) sd (fCvt t dst src a) 4 ∧
      s.GivesF (.fcvt g .i32 .i64 sd sa) sd (BitVec.ofInt 64 (max (-(2 ^ 31)) (min (2 ^ 31 - 1) a.toInt)), 0) 4 ∧
      s.GivesF (.fcvt g .n32 .i64 sd sa) sd (BitVec.ofInt 64 (max 0 (min (2 ^ 32 - 1) a.toInt)), 0) 4 ∧
      s.GivesF (.fcvt g .i64 .i32 sd sa) sd ((a.setWidth 32).signExtend 64, 0) 4 ∧
      (let x := a.toNat % 2 ^ 32
        let conv := fun (w : Nat) (sgn : Bool) => fpToInt Fmt.fp32 t w sgn x
        s.GivesF (.fcvt g .i32 .fp32 sd sa) sd ((BitVec.ofNat 32 (conv 32 true).1).signExtend 64, (conv 32 true).2) 4 ∧
        s.GivesF (.fcvt g .n32 .fp32 sd sa) sd (BitVec.ofNat 64 (conv 32 false).1, (conv 32 false).2) 4 ∧
        s.GivesF (.fcvt g .i64 .fp32 sd sa) sd (BitVec.ofNat 64 (conv 64 true).1, (conv 64 true).2) 4 ∧
        s.GivesF (.fcvt g .n64 .fp32 sd sa) sd (BitVec.ofNat 64 (conv 64 false).1, (conv 64 false).2) 4) ∧
      (∀ p ∈ [(ET.i32, (a.setWidth 32).toInt), (.n32, ((a.toNat % 2 ^ 32 : Nat) : Int)), (.i64, a.toInt), (.n64, (a.toNat : Int))],
        ∃ r : Nat × Flags, IsFpOfInt t.rm p.2 r ∧ s.GivesF (.fcvt g .fp32 p.1 sd sa) sd (BitVec.ofNat 64 r.1, r.2) 4)) ∧
   (∀ (t : Tctl) (a b c : Word),
      let nan := fun (x : Word) => fld x.toNat 23 8 = 255 ∧ fld x.toNat 0 23 ≠ 0
      let inf := fun (x : Word) => fld x.toNat 0 31 = 0x7F800000
      let zero := fun (x : Word) => fld x.toNat 0 31 = 0 ∨ (t.daz = true ∧ fld x.toNat 23 8 = 0)
      let key := fun (x : Word) => let m : Int := if t.daz = true ∧ fld x.toNat 23 8 = 0 then 0 else (fld x.toNat 0 31 : Nat)
        if x.getLsbD 31 = true then -m else m
      (nan a ∨ nan b → fAdd t a b = (0x7FC00000, 0) ∧ fSub t a b = (0x7FC00000, 0) ∧ fMul t a b = (0x7FC00000, 0) ∧
        (fFma t a b c).1 = 0x7FC00000 ∧ ∀ cc, fCmp t cc a b = (cc == .ne || cc == .un)) ∧
      (inf a → inf b → a.getLsbD 31 ≠ b.getLsbD 31 → fAdd t a b = (0x7FC00000, Flags.nv)) ∧
      (inf a → inf b → a.getLsbD 31 = b.getLsbD 31 → fSub t a b = (0x7FC00000, Flags.nv)) ∧
      (inf a → zero b → fMul t a b = (0x7FC00000, Flags.nv) ∧ fFma t a b c = (0x7FC00000, Flags.nv)) ∧
      (zero a → inf b → fMul t a b = (0x7FC00000, Flags.nv) ∧ fFma t a b c = (0x7FC00000, Flags.nv)) ∧
      (nan a ∨ nan b ∨ nan c → ¬ (inf a ∧ zero b) → ¬ (zero a ∧ inf b) → fFma t a b c = (0x7FC00000, 0)) ∧
      (¬ nan a → ¬ nan b → fCmp t .eq a b = decide (key a = key b) ∧ fCmp t .ne a b = decide (key a ≠ key b) ∧
        fCmp t .lt a b = decide (key a < key b) ∧ fCmp t .le a b = decide (key a ≤ key b) ∧ fCmp t .gt a b = decide (key b < key a) ∧
        fCmp t .ge a b = decide (key b ≤ key a) ∧ fCmp t .un a b = false ∧ fCmp t .or a b = true) ∧
      -- R81: the half formats widen to binary32, and a conversion from one is that from its binary32
      (∀ d, d = ET.fp32 ∨ d = .bf16 ∨ d = .fp16 → fCvt t d .bf16 a = fCvt t d .fp32 (BitVec.ofNat 64 (fld a.toNat 0 16 * 2 ^ 16)) ∧
        fCvt t d .fp16 a = fCvt t d .fp32 (fCvt 0 .fp32 .fp16 a).1) ∧
      (let e := fld a.toNat 10 5
       let f := fld a.toNat 0 10
       let r := fCvt 0 .fp32 .fp16 a
       let is := fun (x : Nat) => r = (BitVec.ofNat 64 (fld a.toNat 15 1 * 2 ^ 31 + x), 0);
       (e = 0 → f = 0 → is 0) ∧ (e = 0 → f ≠ 0 → is ((Nat.log2 f + 103) * 2 ^ 23 + (f * 2 ^ (23 - Nat.log2 f) - 2 ^ 23))) ∧
       (0 < e → e < 31 → is ((e + 112) * 2 ^ 23 + f * 2 ^ 13)) ∧ (e = 31 → f = 0 → is 0x7F800000) ∧
       (e = 31 → f ≠ 0 → r = (0x7FC00000, 0))) ∧
      -- binary32 to bf16 and to fp16, at every normal source: `q` is the magnitude rounded once
      (let e := fld a.toNat 23 8
       let m := fld a.toNat 0 31
       let neg := a.getLsbD 31
       let out := fun (x : Nat) (fl : Flags) => (BitVec.ofNat 64 (bit neg * 2 ^ 15 + x), fl)
       let inexact := fun (n d : Nat) (tiny : Bool) => if n % d = 0 then (0 : Flags) else if tiny = true then Flags.nx ||| Flags.uf else Flags.nx
       let away := t.rm = .rne ∨ (t.rm = .rup ∧ neg = false) ∨ (t.rm = .rdn ∧ neg = true)
       let b := fCvt t .bf16 .fp32 a
       let h := fCvt t .fp16 .fp32 a;
       (nan a → b = (0x7FC0, 0) ∧ h = (0x7E00, 0)) ∧ (inf a → b = out 0x7F80 0 ∧ h = out 0x7C00 0) ∧ (zero a → b = out 0 0 ∧ h = out 0 0) ∧
       (0 < e → e < 255 → let q := roundQuot t.rm neg m 65536
         (q < 0x7F80 → b = out q (inexact m 65536 false)) ∧
         (0x7F80 ≤ q → b = out (if t.satf = true then 0x7F7F else 0x7F80) (Flags.ovf ||| Flags.nx))) ∧
       (113 ≤ e → e < 255 → let q := roundQuot t.rm neg (m - 112 * 2 ^ 23) 8192
         (q < 0x7C00 → h = out q (inexact m 8192 false)) ∧
         (0x7C00 ≤ q → (away → t.satf = false → h = out 0x7C00 (Flags.ovf ||| Flags.nx)) ∧
           (¬ away ∨ t.satf = true → h = out 0x7BFF (Flags.ovf ||| Flags.nx)))) ∧
       (0 < e → e < 113 → let n := (2 ^ 23 + fld a.toNat 0 23) * 2 ^ e
         let q := roundQuot t.rm neg n (2 ^ 126)
         h = out q (inexact n (2 ^ 126) (q != 0 && decide (q < 0x400))))) ∧
      (nan a → ¬ nan b → ¬ (t.daz = true ∧ fld b.toNat 23 8 = 0) → fMin t a b = BitVec.ofNat 64 (b.toNat % 2 ^ 32) ∧
        fMax t a b = BitVec.ofNat 64 (b.toNat % 2 ^ 32)))

/-- R24, R46, R55: a guard is the exclusive OR of a predicate and GN, so that q0 with GN = 1 never executes. A slot whose guard is false
does nothing; a branch so guarded still has its two delay bundles (R33), and no redirect.
R20, R242: NOP changes nothing. HINT completes in every state and changes nothing but the lines that the cellars hold, and nothing at all
under a false guard, with an unbound handle or with a code other than 1 and 2. -/
def Obligations.Guards : Prop :=
   ((∀ (s : State) (n : Nat),
      s.guardOn ⟨false, n⟩ = s.rdQ n ∧ s.guardOn ⟨true, n⟩ = !s.rdQ n ∧ s.guardOn ⟨false, 0⟩ = true ∧ s.guardOn ⟨true, 0⟩ = false) ∧
    ∀ (s : State) (i : Instr) (g : Guard), i.guard = some g → s.guardOn g = false →
      exec i s = .next (if isBranch i = true then { s.marked with cur := { s.cur with delay := 2, redirect := .none } } else s.marked)) ∧
   (∀ (s : State) (g : Guard) (sa code : Nat), s.NoEffect .nop ∧
      (∃ d f, exec (.hint g sa code) s = .next { s.marked with dies := d, free := f } ∧
        (Store.sorted s.dies = true → ∀ n, ∃ l, Store.get Stack.init d n = { s.stackOf n with lines := l })) ∧
      (s.guardOn g = false ∨ s.handleOf (fld (s.rdS sa).toNat 0 4) = none ∨ (code ≠ 1 ∧ code ≠ 2) → s.NoEffect (.hint g sa code)))

/-- R33, R34, R123, R134: BR, CALL, RET, JR and LBRK, taken or not, keep issue where it is for two delay bundles; a taken one then
goes to its target, read at issue, and CALL writes s63 with the position after the second delay bundle. LBRK outside its delay
bundles leaves every loop register as it stands.
R33, R34, R134: after a branch, its bundle and the next one are followed by the bundle at the next position; after the second
delay bundle issue is at the target of a taken branch, after the outermost body for LBRK, and at the next position else. -/
def Obligations.Branches : Prop :=
   (∀ (s : State) (g : Guard) (off : Int) (sa : Nat),
      let going := fun (r : Redirect) => ({ s with cur := { s.cur with delay := 2, redirect := r } } : State)
      (s.guardOn g = true →
        s.Does (.br g off) (going (.jump (s.ctx.pos + off))) ∧ s.Does (.ret g) (going (.jump (s.rdS 63).toNat)) ∧
        s.Does (.jr g sa) (going (.jump (s.rdS sa).toNat)) ∧ s.Does (.lbrk g) (going .leave) ∧
        (s.roomS 63 → s.CompletesWith (going (.jump (s.ctx.pos + off))) (.call g off) 1
          (s.setS 63 (BitVec.ofNat 64 (s.after (s.after s.ctx.next))) 0))) ∧
      (s.guardOn g = false →
        s.Does (.br g off) (going .none) ∧ s.Does (.ret g) (going .none) ∧ s.Does (.jr g sa) (going .none) ∧ s.Does (.lbrk g) (going .none) ∧
        s.Does (.call g off) (going .none))) ∧
   (∀ (t : Task) (p0 n0 p1 n1 p2 n2 : Nat), t.delay = 2 →
      let t1 := t.advance p0 n0 true
      let t2 := t1.advance p1 n1 false
      let t3 := t2.advance p2 n2 false
      (t.arch.loops = [] → t1.pc = n0 ∧ t2.pc = n1 ∧ t1.arch = t.arch ∧ t2.arch = t.arch ∧
        (∀ x, t.redirect = .jump x → t3.pc = x ∧ t3.delay = 0 ∧ t3.redirect = .none ∧ t3.arch = t.arch) ∧
        (t.redirect = .none → t3.pc = n2 ∧ t3.delay = 0 ∧ t3.redirect = .none ∧ t3.arch = t.arch)) ∧
      (t.redirect = .leave → ∀ l, t2.arch.loops.head? = some l →
        t3.pc = l.after ∧ t3.arch = { t2.arch with loops := [] } ∧ t3.delay = 0 ∧ t3.redirect = .none))

/-- R126 to R128: LOOP reads its count and, with RS in an outermost loop, LIX. Where it starts no pass, an outermost one puts the
count in LIX and goes on after its body, a nested one goes on after its body; else one more loop is active, at its first
iteration, whose first pass starts behind the bundle (R122), an outermost one pins its body's bundles (R35), and nothing else changes. A LOOP is outermost where no loop is active, or where it
issues outside the pinned body of the nest that a switch has kept. -/
def Obligations.LoopStart : Prop :=  ∀ (s : State) (sa n level stages margin : Nat) (rs : Bool),
    let i := Instr.loop sa n level stages margin rs
    let c := (s.rdS sa).toNat % 2 ^ 32
    let going := fun (r : Redirect) => ({ s with cur := { s.cur with redirect := r } } : State)
    ((∀ o, s.cur.arch.loops.head? = some o → s.ctx.pos ∉ o.body) →
      let i0 := if rs = true then s.cur.arch.lix.toNat else 0
      let b := (s.arch fun a => { a with loops := [] }).bodyFrom s.ctx.next n
      (s.cur.arch.loops = [] → b = s.bodyFrom s.ctx.next n) ∧
      (c ≤ i0 → s.CompletesWith (going (.jump b.2)) i 1 fun a => { a with lix := BitVec.ofNat 32 c }) ∧
      (i0 < c → s.Does i ({ s with cur := { s.cur with redirect := .enter, pins := s.pin b.1, arch := { s.cur.arch with
        loops := [⟨b.1, b.2, level, c, i0, c, i0, stages, margin⟩] } } }))) ∧
    (∀ o l, s.cur.arch.loops.head? = some o → s.ctx.pos ∈ o.body → s.cur.arch.loops.getLast? = some l →
      let body := (l.body.drop (l.body.idxOf s.ctx.pos + 1)).take n
      (c = 0 → s.Does i (going (.skip (body.getLast?.getD s.ctx.pos)))) ∧
      (0 < c → s.Does i ((going .enter).arch fun a => { a with loops := a.loops ++ [⟨body, l.after, level, c, 0, c, 0, stages, margin⟩] })))

/-- R122, R128 to R131: the passes of a loop. Behind the bundle of a LOOP that starts one, issue goes on at the body's first bundle, which is the next
one; lc holds the start iteration, and in a pipelined loop the stage predicates are those of the first pass, and results on their way to them are
discarded. What follows the last bundle of the body, outside delay bundles: the next pass starts at the
body's first bundle with lc at its iteration, and in a pipelined loop with one more rotation and the stage predicates of that
pass, whose results on their way are discarded; the loop ends after the last stage of its last iteration, and LIX holds the first iteration not started; a pending yield, or
a span too short for another pass, lowers that to the next iteration. A loop nested at any depth passes in the same way, but neither LIX nor a yield
plays a part in it; where it ends, issue goes on in the enclosing body, or at that body's end with the enclosing loop's own pass.
Delay bundles across checkpoints, and LIX beside an SWR, are the model's reading (log entries 26 and 64). -/
def Obligations.LoopPasses : Prop :=  -- the stage predicates of pass k, from i0 on and up to stop, and the results on their way that its start discards
  let staged := fun (stages i0 k stop : Nat) (t u : Task) =>
    (∀ i, i < 16 → u.arch.q.getLsbD i =
      if 2 ≤ stages ∧ 8 ≤ i ∧ i < 8 + stages then decide (i0 + (i - 8) ≤ k) && decide (k < stop + (i - 8)) else t.arch.q.getLsbD i) ∧
    ∀ p, p ∈ u.pend ↔ p ∈ t.pend ∧ ¬(2 ≤ stages ∧ ∃ i v, p.dest = .q i v ∧ 8 ≤ i ∧ i < 8 + stages)
  (∀ (t : Task) (os : List Loop) (l : Loop) (pos next : Nat), t.arch.loops = os ++ [l] → t.delay = 0 → t.redirect = .enter → l.stages ≤ 8 →
    let u := t.advance pos next false
    u.pc = next ∧ u.redirect = .none ∧ u.arch = { t.arch with q := u.arch.q, lc := Store.set 0 t.arch.lc l.level (BitVec.ofNat 32 l.k) } ∧
    staged l.stages l.i0 l.k l.stop t u) ∧
  (∀ (t : Task) (l : Loop) (pos next : Nat), t.arch.loops = [l] → t.delay = 0 → t.redirect = .none → l.body.getLast? = some pos →
    1 ≤ l.stages → l.stages ≤ 8 →
    let early := (t.yieldPending = true ∨ t.hdr.span ≤ t.arch.bgs + l.margin) ∧ l.i0 < l.k + 1 ∧ l.k + 1 < l.stop
    let stop := if early then l.k + 1 else l.stop
    let u := t.advance pos next false
    let rho := if 2 ≤ l.stages then t.arch.rho + 1 else t.arch.rho
    (l.k + 1 < stop + (l.stages - 1) →
      u.pc = (l.body.head?.getD l.after : Nat) ∧ u.arch.loops = [{ l with k := l.k + 1, stop := stop }] ∧
      u.arch.lc = Store.set 0 t.arch.lc l.level (BitVec.ofNat 32 (l.k + 1)) ∧ u.arch.lix = t.arch.lix ∧ u.arch.rho = rho ∧
      staged l.stages l.i0 (l.k + 1) stop t u) ∧
    (stop + (l.stages - 1) ≤ l.k + 1 →
      u.pc = l.after ∧ u.arch.loops = [] ∧ u.arch.lix = BitVec.ofNat 32 stop ∧ u.arch.lc = t.arch.lc ∧ u.arch.rho = rho ∧
      u.arch.q = t.arch.q ∧ u.pend = t.pend)) ∧
  ∀ (t : Task) (os : List Loop) (o l : Loop) (pos next : Nat), t.arch.loops = os ++ [o, l] → t.delay = 0 → t.redirect = .none →
    l.body.getLast? = some pos → 1 ≤ l.stages → l.stages ≤ 8 →
    let u := t.advance pos next false
    let rho := if 2 ≤ l.stages then t.arch.rho + 1 else t.arch.rho
    (l.k + 1 < l.stop + (l.stages - 1) →
      u.pc = (l.body.head?.getD l.after : Nat) ∧ u.arch.loops = os ++ [o, { l with k := l.k + 1 }] ∧
      u.arch.lc = Store.set 0 t.arch.lc l.level (BitVec.ofNat 32 (l.k + 1)) ∧ u.arch.lix = t.arch.lix ∧ u.arch.rho = rho ∧
      staged l.stages l.i0 (l.k + 1) l.stop t u) ∧
    (l.stop + (l.stages - 1) ≤ l.k + 1 →
      (o.body.getLast? ≠ some pos →
        u = { t with pc := ((o.body[o.body.idxOf pos + 1]?).getD o.after : Nat), arch := { t.arch with loops := os ++ [o], rho := rho } }) ∧
      (o.body.getLast? = some pos → u = ({ t with arch := { t.arch with loops := os ++ [o], rho := rho } } : Task).advance pos next false))

/-- R132, R133: ROT lands in the next clock and rotates both regions by one: what stood in a name of a region then stands in the next
name, the top one's in the bottom one; no storage changes. -/
def Obligations.Rotation : Prop :=  (∀ (s : State) (g : Guard), s.guardOn g = true → s.Completes (.rot g) 1 fun a => { a with rho := a.rho + 1 }) ∧
  (∀ rho i, i < 15 → sSlot (rho + 1) (40 + i + 1) = sSlot rho (40 + i)) ∧ (∀ rho, sSlot (rho + 1) 40 = sSlot rho 55) ∧
  (∀ rho i, i < 40 ∨ 56 ≤ i → sSlot rho i = i) ∧
  (∀ f rho i, 64 ≤ f → i < 63 → vSlot f (rho + 1) (f - 64 + i + 1) = vSlot f rho (f - 64 + i)) ∧
  (∀ f rho, 64 ≤ f → vSlot f (rho + 1) (f - 64) = vSlot f rho (f - 1)) ∧ (∀ f rho i, 64 ≤ f → i < f - 64 → vSlot f rho i = i)

/-- R233, R257, R364: a recoverable cause. The task is back at its checkpoint; where it has a trap entry, no handler runs and the
record fits its window, the 64-byte record stands at TRAPREC, with the cause, the checkpoint's position and the trapping bundle's,
the trap return position is kept, the handler flag is set, and issue goes on at the trap entry, where a checkpoint is taken; no
yield is then pending. Else the task faults with the same cause. TRAP raises cause 0x15 with its code.
R233, R387: RETC clears the handler flag and, after its bundle, issue is at the trap return position, with the delay bundles and
the loops that the trap set aside; where no handler runs, it is a privilege fault with reason 2.
Detail words, and delay bundles across a trap, are the model's reading (log entries 14 and 26). -/
def Obligations.Traps : Prop :=
   ((∀ (s : State) (g : Guard) (code : Nat), s.guardOn g = true → s.Raises (.trap g code) 0x15 [code, 0, 0, 0]) ∧
    ∀ (s : State) (r : Raise), r.cause = 0x0A ∨ r.cause = 0x15 → r.pos = none →
      let b : State := ({ s with ctx := { s.ctx with out := .raised r }, cur := { s.cur with began := true } } : State).rollback
      let a := b.cur.arch.trapRec.toNat
      let t := (s.takeRaise r).cur
      (b.cur.handler = false → b.cur.hdr.tv = true → a + 64 ≤ b.cur.hdr.window → s.cur.yieldPending = false → r.slot < 256 →
        Memory.wf b.cur.win.bytes = true →
        t.handler = true ∧ t.trapRet = b.cur.ckpt ∧ t.pc = (b.cur.hdr.trap : Nat) ∧ t.ckpt = b.cur.hdr.trap ∧ t.delay = 0 ∧ t.redirect = .none ∧
        t.aside = b.cur.arch.loops ∧ t.asidePins = b.cur.pins ∧ t.arch = { b.cur.arch with loops := [], rq := b.cur.arch.freeRetained.rq } ∧ t.shadow = t.arch ∧ t.undo = [] ∧
        (let slab := t.win.read a 64;
          recF slab 0 1 = r.cause ∧ recF slab 1 1 = r.slot ∧ recF slab 2 2 = 1 ∧ recF slab 4 4 = b.cur.id % 2 ^ 32 ∧
          recF slab 16 4 = b.cur.ckpt % 2 ^ 32 ∧ recF slab 20 4 = s.ctx.pos % 2 ^ 32 ∧ recF slab 24 8 = b.time % 2 ^ 64 ∧
          ∀ k, k < 4 → recF slab (32 + 8 * k) 8 = r.words.getD k 0 % 2 ^ 64) ∧
        ∀ x, x < a ∨ a + 64 ≤ x → t.win.byte x = b.cur.win.byte x) ∧
      (b.cur.handler = true ∨ b.cur.hdr.tv = false ∨ b.cur.hdr.window < a + 64 →
        s.takeRaise r = b.taskFault b.cur.id r.cause r.slot r.words s.ctx.pos)) ∧
   (∀ (s : State),
      (s.cur.handler = true → s.Does .retc { s with cur := { s.cur with handler := false, delay := 0, redirect := .back } }) ∧
      (s.cur.handler = false → s.Raises .retc 0x14 [2, 0, 0, s.slotNo]) ∧
      ∀ (t : Task) (pos next : Nat), t.delay = 0 → t.redirect = .back →
        let u := t.advance pos next false
        u.pc = t.trapRet ∧ u.arch = { t.arch with loops := t.aside } ∧ u.delay = t.asideDelay ∧ u.redirect = t.asideRedirect ∧ u.win = t.win)

/-- R253 to R255: a rollback. Whatever stores and loads the interval made, the registers are those of the checkpoint, the window reads
as it read when the interval began, the results in flight, the array operations and the held commands of the interval are gone,
and issue is at the checkpoint's position.
R255, R204, R214, R241: the parts of the machine after a rollback of the task in focus, where no stage barrier has its test met then. Every token is
what it was at the checkpoint, less the held copies that are discarded, and DONE where it was PENDING and the rest of its copies have completed; the
copies of the interval are gone, but for a CFLUSH, which runs on; every byte of memory is as it was, in each page that is left (the pages of a
tensor that the interval created are not).
Delay bundles across a checkpoint are the model's reading (log entry 26). -/
def Obligations.Rollback : Prop :=
   (∀ (t : Task) (stores : List (Nat × List Byte)), t.undo = [] → Memory.wf t.win.bytes = true →
      let u := stores.foldl (fun (t : Task) x => { t.log (linesOf x.1 x.2.length) with win := (t.win.write x.1 x.2) }) t
      (∀ a, (undoWindow u.win u.undo).byte a = t.win.byte a) ∧ (u.undo.map (·.line)).Nodup ∧
      (∀ x ∈ stores, ∀ k ∈ linesOf x.1 x.2.length, k ∈ u.undo.map (·.line))) ∧
   (∀ (s : State), s.cur.id ≠ 0 → (∀ b, barReady (s.cur.shadow.barrier b) = false) →
      let t := s.rollback.cur
      t.arch = { s.cur.shadow with k := t.arch.k } ∧ t.win = undoWindow s.cur.win s.cur.undo ∧ t.undo = [] ∧ t.pend = [] ∧ t.array = [] ∧
      t.heldq = [] ∧ t.pc = s.cur.ckpt ∧ t.delay = s.cur.ckptDelay ∧ t.redirect = s.cur.ckptRedirect ∧ s.rollback.now = s.now ∧
      (∀ k, let x := s.cur.shadow.token k
        let left := x.copies.filter fun c => !s.cur.heldq.any fun h => h.kind == .copy c
        let over_ := x.st = .pending ∧ ∀ c ∈ left, ∀ y ∈ s.rollback.copies, y.id = c → y.st = .done
        t.arch.token k = ⟨if over_ then .done else x.st, left, x.promise⟩) ∧
      (∀ c ∈ s.rollback.copies, c ∈ s.copies ∧ (c.task = s.cur.id → c.fresh = true → c.kind = .cflush)) ∧
      (∀ c ∈ s.copies, c ∉ s.rollback.copies → (∃ h ∈ s.cur.heldq, h.kind = .copy c.id) ∨ c.task = s.cur.id ∧ c.fresh = true ∧ c.kind ≠ .cflush) ∧
      ∀ a, (s.rollback.page (a / 65536)).isSome = true → Memory.byte s.rollback.mem a = Memory.byte s.mem a)

/-- R229 to R232: END and YLD. END releases what is held; the task then ends at once where every result has landed, the
array is idle and its copies are complete, and leaves its core empty; else it issues nothing more until they are. That the stores it has kept back
enter the global order then, is log entry 80, and that one which meets an error there is a fault at the END, entry 33. A YLD whose bundle's
checkpoint is taken (entry 27), whose carry record is in the table and names groups of the frame, granted tiles and a range of the window in whole
lines, and whose task has empty result queues, completes: with no yield pending and no stop requested (entry 18) it passes through, BGS at 0; else,
where no outstanding copy targets the task, the task leaves its core. The checks of YLD, in their order, where the carry record can be read: a record
beyond the table, a group beyond the frame, a tile not granted, an offset or length that is no multiple of 64, a range beyond the window, a queue with bytes
pushed or promised.
The entries 18, 27 and 33 are the model's reading, entry 80 is its choice. -/
def Obligations.EndAndYield : Prop :=  (∀ (s : State) (g : Guard), s.guardOn g = true →
    let h := s.release.1
    let waits : State := { h with cur := { h.cur with delay := 0, redirect := .finish } }
    let waited := h.cur.quiet h.clk = true ∧ (h.copiesOf h.cur.id).all (fun c => c.st == .done) = true
    let d := h.drainAll h.cur.id
    (s.cur.heldq = [] → s.release = (s, none)) ∧ (∀ r, s.release.2 = some r → exec (.endTask g) s = .next (h.takeRaise r)) ∧
    (s.release.2 = none →
      (waited → d.cur.met = none → s.Does (.endTask g) d.endDone) ∧ (¬waited → s.Does (.endTask g) waits) ∧
      (waited → ∀ r, d.cur.met = some r → s.Does (.endTask g) (d.takeRaise r)) ∧
      (waited → d.cur.met = none → h.cur.id ≠ 0 → (h.coreOf h.cur.core).task = h.cur.id →
        ∃ t, exec (.endTask g) s = .next t ∧ t.ctx.out = .ran ∧ t.cur.id = 0 ∧ (t.coreOf h.cur.core).task = 0))) ∧
  (∀ (s : State) (c : Nat) (off : Int) (r : List Byte), s.ctx.ckpt = true → s.carryRec c = some r →
    (∀ g, g < 64 → (recF r 0 8).testBit g = true → 8 * g < s.cur.hdr.frame) →
    (∀ k, k < 8 → (recF r 8 1).testBit k = true → s.cur.hdr.tiles.testBit k = true) →
    recF r 16 4 % 64 = 0 → recF r 20 4 % 64 = 0 → (recF r 20 4 = 0 ∨ recF r 16 4 + recF r 20 4 ≤ s.cur.hdr.window) →
    (∀ i, i < 8 → (s.cur.arch.queue i).occ = 0) →
    (s.cur.yieldPending = false → s.cur.stop = false →
      s.Does (.yld c off) { s with cur := { s.cur with arch := { s.cur.arch with bgs := 0 } } }) ∧
    (s.cur.yieldPending = true ∨ s.cur.stop = true → s.targeted s.cur.id = false → s.cur.id ≠ 0 → (s.coreOf s.cur.core).task = s.cur.id →
      ∃ t, exec (.yld c off) s = .next t ∧ t.ctx.out = .ran ∧ t.cur.id = 0 ∧ (t.coreOf s.cur.core).task = 0)) ∧
  ∀ (s : State) (c : Nat) (off : Int), s.ctx.ckpt = false → s.carryMeet c = none →
    let i := Instr.yld c off
    let hd := s.cur.hdr
    let r := (s.carryRec c).getD []
    let badGroup := fun (g : Nat) => g < 64 ∧ (recF r 0 8).testBit g = true ∧ hd.frame ≤ 8 * g
    let badTile := fun (k : Nat) => k < 8 ∧ (recF r 8 1).testBit k = true ∧ hd.tiles.testBit k = false
    let least := fun (p : Nat → Prop) (n : Nat) => p n ∧ ∀ m, m < n → ¬p m
    (hd.carry = 0 ∨ s.tensor hd.carry = none → s.carryRec c = none) ∧
    (∀ x, hd.carry ≠ 0 → s.tensor hd.carry = some x → (s.carryRec c = none ↔ x.size < 32 * (c + 1)) ∧
      (32 * (c + 1) ≤ x.size → r = s.tensorBytes (Agent.onStack s.stackNo) x (32 * c) 32)) ∧
    (s.carryRec c = none → s.Raises i 3 [3, c, 0, 0]) ∧
    (s.carryRec c ≠ none →
      (∀ g, least badGroup g → s.Raises i 3 [1, 8 * g, 0, 0]) ∧
      ((∀ g, ¬badGroup g) → ∀ k, least badTile k → s.Raises i 3 [2, k, 0, 0]) ∧
      ((∀ g, ¬badGroup g) → (∀ k, ¬badTile k) →
        (recF r 16 4 % 64 ≠ 0 ∨ recF r 20 4 % 64 ≠ 0 → s.Raises i 3 [3, c, 0, 0]) ∧
        (recF r 16 4 % 64 = 0 → recF r 20 4 % 64 = 0 →
          (recF r 20 4 ≠ 0 → hd.window < recF r 16 4 + recF r 20 4 →
            s.Raises i 4 [max (recF r 16 4) hd.window, hd.window, 0xFF, s.slotNo]) ∧
          (recF r 20 4 = 0 ∨ recF r 16 4 + recF r 20 4 ≤ hd.window → (∃ q, q < 8 ∧ (s.cur.arch.queue q).occ ≠ 0) →
            ∃ m, s.Raises i 7 [m, ((List.range 8).map fun q => (s.cur.arch.queue q).occ).foldl (· + ·) 0, 0, 0] ∧
              ∀ q, m.testBit q = (decide (q < 8) && (s.cur.arch.queue q).occ != 0)))))

/-- R57, R111, R234, R235: the budget instructions, TIME and CYC. BGRD reads the budgets as they stood before the charge of its bundle;
BGTOP needs TOPUP and saturates; ESTM sets the estimate; BGGIVE moves budget from the task into a record in the window, as a
window store.
That a store of the C slot comes after BGGIVE is the model's choice (log entry 66). -/
def Obligations.BudgetsAndCounters : Prop :=  ∀ (s : State) (g : Guard) (sd sa sb : Nat) (bgt : Bool), s.guardOn g = true → s.roomS sd →
    let top : Int := 2 ^ 47 - 1
    let x := (s.rdS sa).toNat
    let y := (s.rdS sb).toNat
    s.GivesS (.bgrd g sd .bgi) sd (BitVec.ofInt 64 s.ctx.bgi) 1 ∧ s.GivesS (.bgrd g sd .bgt) sd (BitVec.ofInt 64 s.ctx.bgt) 1 ∧
    s.GivesS (.bgrd g sd .bgs) sd (BitVec.ofNat 64 s.ctx.bgs) 1 ∧ s.GivesS (.bgrd g sd .span) sd (BitVec.ofNat 64 s.cur.hdr.span) 1 ∧
    s.GivesS (.time g sd) sd (BitVec.ofNat 64 s.time) 1 ∧
    s.GivesS (.cyc g sd .m) sd (BitVec.ofNat 64 (s.stackOf (s.core / 12)).m.cyc) 1 ∧
    s.GivesS (.cyc g sd .c) sd (BitVec.ofNat 64 (s.stackOf (s.core / 12)).c.cyc) 1 ∧
    s.GivesS (.cyc g sd .k0) sd (BitVec.ofNat 64 (s.stackOf (s.core / 12)).k0.cyc) 1 ∧
    s.GivesS (.cyc g sd .k1) sd (BitVec.ofNat 64 (s.stackOf (s.core / 12)).k1.cyc) 1 ∧
    s.Does (.estm g sa) { s with cur := { s.cur with est := min x (2 ^ 32 - 1), estAt := s.time } } ∧
    (s.cur.hdr.topup = false → s.Raises (.bgtop g sa sb) 0x16 [x, y, 0, 0]) ∧
    (s.cur.hdr.topup = true → ∃ e, s.Does (.bgtop g sa sb)
        (s.arch fun a => { a with bgi := min (a.bgi + x) top, bgt := min (a.bgt + y) top, exhausted := e }) ∧
      (s.cur.arch.bgi + x ≤ 0 ∨ s.cur.arch.bgt + y ≤ 0 → e = true) ∧
      (0 < s.cur.arch.bgi + x → 0 < s.cur.arch.bgt + y → e = (s.cur.arch.exhausted && s.cur.arch.clip))) ∧
    (x + 256 ≤ s.cur.hdr.window → (s.cur.undo.length + 2 ≤ 4096) →
      let at_ := if bgt = true then x + 16 else x + 8
      let f := min (leNat (s.spad at_ 8)) (2 ^ 47 - 1)
      let b := if bgt = true then s.cur.arch.bgt else s.cur.arch.bgi
      let m := min (min y (max b 0).toNat) (2 ^ 47 - 1 - f)
      ∃ e, s.StoresWith (s.arch fun a => if bgt = true then { a with bgt := a.bgt - m, gt := a.gt + m, exhausted := e }
          else { a with bgi := a.bgi - m, gi := a.gi + m, exhausted := e }) (.bggive g sa sb bgt) at_ (leBytes (f + m) 8) ∧
        (0 < m → m = (max b 0).toNat → e = true)) ∧
    (s.cur.hdr.window < x + 256 → s.Raises (.bggive g sa sb bgt) 4 [max x s.cur.hdr.window, s.cur.hdr.window, 0xFF, s.slotNo])

/-- R57 to R60, R235: SRD of every system register, zero-extended, and SWR. The registers of the task land in the next clock, their
reserved bits dropped; those of the stack, which need SYS, land at the next edge of its control clock and keep the bits that fit; zero to
SLICE or WAITTH, and a DEPTH outside 1 to 4, change nothing. -/
def Obligations.SystemRegisters : Prop :=  ∀ (s : State) (g : Guard) (sd sa idx : Nat), s.guardOn g = true → s.roomS sd →
    let k := s.stackOf (s.core / 12)
    let v := s.rdS sa
    let x := v.toNat
    (∀ p ∈ [(0x000, s.cur.arch.tctl.toNat), (0x001, s.rdTstat.toNat), (0x002, s.cur.arch.lix.toNat), (0x003, s.cur.arch.trapRec.toNat),
        (0x008, s.time), (0x010, k.m.cyc), (0x011, k.c.cyc), (0x012, k.k0.cyc), (0x013, k.k1.cyc), (0x018, s.cur.id % 2 ^ 32),
        (0x019, s.cur.queue % 2 ^ 16), (0x01A, s.cur.seq), (0x01B, s.core), (0x030, k.slice), (0x031, k.waitth), (0x032, k.lease),
        (0x033, k.drainMax), (0x034, k.killTokens), (0x040, k.costSpill), (0x041, k.costFetch), (0x042, k.costPack), (0x043, k.costDecomp),
        (0x044, k.costDrop), (0x045, k.wnext), (0x046, k.depth)], s.GivesS (.srd g sd p.1) sd (BitVec.ofNat 64 p.2) 1) ∧
    s.Completes (.swr g sa 0x000) 1 (fun a => { a with tctl := v.setWidth 8 }) ∧
    (s.cur.pend = [] → s.Completes (.swr g sa 0x001) 1 fun a => { a with tstat := v.setWidth 5 }) ∧
    s.Does (.swr g sa 0x001) (s.emit (.tstat (v.setWidth 5)) 1 0) ∧
    s.Completes (.swr g sa 0x002) 1 (fun a => { a with lix := v.setWidth 32 }) ∧
    s.Completes (.swr g sa 0x003) 1 (fun a => { a with trapRec := BitVec.ofNat 32 (x / 64 * 64) }) ∧
    (0x030 ≤ idx → s.cur.hdr.sys = false → s.Raises (.swr g sa idx) 0x14 [1, idx, 0, s.slotNo]) ∧
    (s.cur.hdr.sys = true →
      ∀ p ∈ [(0x030, { k with slice := if x % 2 ^ 48 = 0 then k.slice else x % 2 ^ 48 }),
        (0x031, { k with waitth := if x % 2 ^ 32 = 0 then k.waitth else x % 2 ^ 32 }), (0x032, { k with lease := x % 2 ^ 32 }),
        (0x033, { k with drainMax := x % 2 ^ 32 }), (0x034, { k with killTokens := x % 2 ^ 8 }), (0x040, { k with costSpill := x % 2 ^ 32 }),
        (0x041, { k with costFetch := x % 2 ^ 32 }), (0x042, { k with costPack := x % 2 ^ 32 }), (0x043, { k with costDecomp := x % 2 ^ 32 }),
        (0x044, { k with costDrop := x % 2 ^ 32 }), (0x045, { k with wnext := x % 2 ^ 32 }),
        (0x046, { k with depth := if 1 ≤ x ∧ x ≤ 4 then x else k.depth })],
        s.Does (.swr g sa p.1) { s with landing := s.landing ++ [⟨s.core / 12, p.1, x⟩] } ∧ k.writeReg p.1 x = p.2) ∧
    (Store.sorted s.dies = true → ∀ (n : Nat) (l : Stack),
      (({ s with landing := [⟨n, idx, x⟩] } : State).landStack n l).stackOf n = l.writeReg idx x)

/-- R236, R237, R239, R241, R243: the held system commands. Each takes a place in the held queue at issue, with its answers on their way;
nothing outside the task changes but what LNCH, ENQ and SEQF reserve. TFREE unbinds the handle where no other result to it is on its way.
With 64 places taken, the cause is withhold overflow, reason 2.
The order of the checks, and the place that an LNCH with qS = 0 takes, are the model's reading (log entry 28); handles on their way are its choice (log entry 63). -/
def Obligations.HeldCommands : Prop :=  ∀ (s : State) (g : Guard) (sd qs sa sb h : Nat), s.guardOn g = true → s.roomS sd → s.roomQ qs →
    let v := (s.rdS sa).toNat
    let keep := fun (t : State) (k : HeldKind) => ({ t with cur := { t.cur with heldq := t.cur.heldq ++ [⟨k, s.ctx.pos⟩] } } : State)
    let answer := fun (x : Nat) (ok : Bool) (a : Arch) => setQ qs ok (s.setS sd (BitVec.ofNat 64 x) 0 a)
    let own := s.handleOf h
    (s.cur.heldq.length < 64 →
      s.Does (.ddec g sa) (keep s (.ddec v)) ∧ (s.cur.hdr.seq = true → s.Does (.seqe g sa) (keep s (.seqe v))) ∧
      (s.cur.hdr.seq = true →
        (∀ r, Store.look s.seqs v = some r → s.forkable r = true → ∀ n t, s.seqReserve .reserved r.owner v = some (n, t) →
          s.CompletesWith (keep t (.seqf v n)) (.seqf g sd qs sa) 32 (answer n true)) ∧
        ((∀ r, Store.look s.seqs v = some r → s.forkable r = false ∨ s.seqReserve .reserved r.owner v = none) → s.CompletesWith (keep s .nothing) (.seqf g sd qs sa) 32 (answer 0 false))) ∧
      (v + 128 ≤ s.cur.hdr.window →
        let n := (s.rdS sb).toNat
        let q := s.queueOf n
        let ok := decide (n < 256) && q.st == .opened && q.owner == s.cur.owner && !q.full
        s.CompletesWith (if ok = true then keep (s.setQueue n { q with resv := q.resv + 1 }) (.enq n (s.spad v 128))
          else keep s .nothing) (.enq g qs sa sb) 8 (setQ qs ok)) ∧
      (v + 256 ≤ s.cur.hdr.window → s.lnchFault (s.spad v 256) = none →
        let l := s.spad v 256
        (recDepth l < s.cur.level + 1 → s.CompletesWith (keep s .nothing) (.lnch g sd qs sa) 8 (answer 2 false)) ∧
        (s.cur.level + 1 ≤ recDepth l →
          ((∀ e, e < 4096 → (s.poolOf (s.core / 12 * 4096 + e)).st ≠ .free) →
            s.CompletesWith (keep s .nothing) (.lnch g sd qs sa) 8 (answer 1 false)) ∧
          ((∃ e, e < 4096 ∧ (s.poolOf (s.core / 12 * 4096 + e)).st = .free) →
            ∃ e, e < 4096 ∧ (s.poolOf (s.core / 12 * 4096 + e)).st = .free ∧
              let p := s.poolOf (s.core / 12 * 4096 + e)
              s.CompletesWith ((keep (s.used.setPool (s.core / 12 * 4096 + e) { p with st := .reserved, launcher := s.cur.id, record := l })
                  (.lnch (s.core / 12) e)).arch fun a => { a with gi := a.gi - recF l 8 8, gt := a.gt - recF l 16 8 })
                (.lnch g sd qs sa) 8 (answer (launchId (s.core / 12) e p.gen) true)))) ∧
      (∀ b, own = some b → s.roomH h → s.CompletesWith (if b.own = true ∧ ∃ kv ∈ s.cur.arch.made, kv.1 = b.hold.id
          then keep (s.arch fun a => { a with made := Store.del b.hold.id a.made }) (.tfree b.hold.id) else keep s .nothing) (.tfree g h) 1
        fun a => { a with h := Store.set none a.h h none })) ∧
    (own = none → s.NoEffect (.tfree g h)) ∧
    (s.cur.hdr.seq = false → s.Raises (.seqf g sd qs sa) 0x14 [3, 0, 0, s.slotNo] ∧ s.Raises (.seqe g sa) 0x14 [3, 0, 0, s.slotNo]) ∧
    (64 ≤ s.cur.heldq.length →
      let full := [2, s.cur.heldq.length, 64, s.slotNo]
      s.Raises (.ddec g sa) 9 full ∧ (s.cur.hdr.seq = true → s.Raises (.seqe g sa) 9 full ∧ s.Raises (.seqf g sd qs sa) 9 full) ∧
      (own ≠ none → s.Raises (.tfree g h) 9 full) ∧ (v + 128 ≤ s.cur.hdr.window → s.Raises (.enq g qs sa sb) 9 full) ∧
      (v + 256 ≤ s.cur.hdr.window → s.lnchFault (s.spad v 256) = none → s.Raises (.lnch g sd qs sa) 9 full)) ∧
    (s.cur.hdr.window < v + 128 → s.Raises (.enq g qs sa sb) 4 [max v s.cur.hdr.window, s.cur.hdr.window, 0xFF, s.slotNo]) ∧
    (s.cur.hdr.window < v + 256 → s.Raises (.lnch g sd qs sa) 4 [max v s.cur.hdr.window, s.cur.hdr.window, 0xFF, s.slotNo]) ∧
    (v + 256 ≤ s.cur.hdr.window → ∀ o, s.lnchFault (s.spad v 256) = some o → s.Raises (.lnch g sd qs sa) 0x0D [v, 12, o, s.slotNo])

/-- R238, R306, R308: LJOIN. An unknown or joined id gives qS = 0 at once; a launch still held is withhold overflow, reason 4; a live one
holds the bundle; an ended one is joined, and where every instance ENDED, its unused budget comes back, saturating. -/
def Obligations.LaunchJoin : Prop :=  ∀ (s : State) (g : Guard) (qs sa : Nat), s.guardOn g = true → s.roomQ qs →
    let i := Instr.ljoin g qs sa
    let v := (s.rdS sa).toNat
    (s.launchOf v = none → s.GivesQ i qs false 1) ∧
    ∀ n, s.launchOf v = some n →
      let p := s.poolOf n
      let s1 := (s.setPool n { p with joined := true }).sweepPool n
      n = fld v 14 2 * 4096 + fld v 0 12 ∧ p.joined = false ∧ p.gen = fld v 16 32 ∧ p.st ≠ .free ∧
      (p.st = .reserved → s.Raises i 9 [4, s.cur.heldq.length, 64, 1]) ∧ (p.st = .live → s.Holds i) ∧
      (p.st = .ended → p.ok = false → s.CompletesWith s1 i 1 (setQ qs false)) ∧
      (p.st = .ended → p.ok = true → s.CompletesWith (s1.arch fun a =>
        { a with bgi := min (a.bgi + p.unusedI) (2 ^ 47 - 1), bgt := min (a.bgt + p.unusedT) (2 ^ 47 - 1) }) i 1 (setQ qs true))

/-- R240, R241: TDEF and TGROW. TDEF completes for every specification inside the window: where the conditions hold, the tensor exists with
its pages, the handle is bound and qS = 1; else qS = 0 and nothing changes. Room that the hold needs is made (R313, R316; that it is made at once is log entry 37). The tensor is in the task's sequence, with the specification's
format, extents and capacity and one hold; the handle holds its binding where no other result to it is on its way. TGROW completes in every state, with the new extent or with qS = 0. The
tensors that the task has made, with their extents, are kept for a rollback.
The order of the checks, and that the moves which make room are complete at once, are the model's reading (log entries 28 and 37); handles on their way are its choice (log entry 63). -/
def Obligations.TensorCommands : Prop :=  ∀ (s : State) (g : Guard) (h qs sa : Nat), s.guardOn g = true → s.roomQ qs → Store.sorted s.dies = true →
    let v := (s.rdS sa).toNat
    let r := s.spad v 64
    let bound := fun (b : Binding) (a : Arch) => setQ qs true { a with h := Store.set none a.h h (some b) }
    (s.cur.hdr.window < v + 64 → s.Raises (.tdef g h qs sa) 4 [max v s.cur.hdr.window, s.cur.hdr.window, 0xFF, s.slotNo]) ∧
    (v + 64 ≤ s.cur.hdr.window →
      (∃ u, exec (.tdef g h qs sa) s = .next u ∧ u.ctx.out = .ran) ∧
      (s.tdefTensor h r = none → s.GivesQ (.tdef g h qs sa) qs false 16) ∧
      (∀ id bytes n, (∀ u, s.roomAt id bytes n = some u → n ≤ s.entriesLeft (homeOf id) ∧ bytes ≤ u.hbmFree (homeOf id)) ∧
        (n ≤ s.entriesLeft (homeOf id) → bytes ≤ s.hbmFree (homeOf id) → s.roomAt id bytes n = some s)) ∧
      (∀ t, s.tdefTensor h r = some t →
        let hold : Hold := ⟨t.id, 0, t.units, recF r 6 1⟩
        (∃ u, s.roomAt t.id (wholePages t.size) (wholePages t.size / 65536) = some u ∧ (s.roomH h →
          s.CompletesWith (((u.used.setTensor t).preparePages hold).arch fun a => { a with made := Store.put t.id t.e0 a.made })
            (.tdef g h qs sa) 16 (bound ⟨hold, true⟩))) ∧
        s.handleOf h = none ∧ Store.look s.tensors t.id = none ∧ t.seq = s.cur.seq ∧ t.holds = 1 ∧ t.tdef = true ∧
        t.fmt = recF r 4 1 ∧ t.e0 = recF r 8 4 ∧ t.cap0 = recF r 32 4 ∧ t.e0 ≤ t.cap0 ∧ (recF r 0 4 ≠ 0 → t.id = recF r 0 4)) ∧
      -- the conditions written out, for a task in the device's own sequence and an id that the program names
      (let id := recF r 0 4
        let x := Tensor.make id (recF r 4 1) ((List.range (recF r 5 1)).map fun i => recF r (8 + 4 * i) 4) 0 0
        id ≠ 0 → specOk r = true → s.cur.seq = 0 → s.handleOf h = none → Store.look s.tensors id = none → s.homed (homeOf id) < 2 ^ 18 →
        wholePages x.size ≤ s.hbmFree (homeOf id) → wholePages x.size / 65536 ≤ s.entriesLeft (homeOf id) →
        ∃ u y, exec (.tdef g h qs sa) s = .next u ∧ u.ctx.out = .ran ∧ Store.look u.tensors id = some y ∧ y.holds = 1 ∧ y.size = x.size)) ∧
    (∃ u, exec (.tgrow g h qs sa) s = .next u ∧ u.ctx.out = .ran) ∧
    (∀ b t, s.roomH h → s.handleOf h = some b → s.tensor b.hold.id = some t → b.own = true → t.id = b.hold.id →
      (∃ kv ∈ s.cur.arch.made, kv.1 = t.id) → 2 ≤ b.hold.mode → t.e0 ≤ v → v ≤ t.cap0 →
      let more := wholePages (fmtSize t.fmt (v * t.rest)) - wholePages t.size
      more ≤ s.hbmFree (homeOf t.id) → more / 65536 ≤ s.entriesLeft (homeOf t.id) →
      ∃ s1, s1.cur = { s.cur with arch := { s.cur.arch with made := Store.put t.id v s.cur.arch.made } } ∧ s1.now = s.now ∧
        s.CompletesWith s1 (.tgrow g h qs sa) 16 (bound ⟨{ b.hold with first := 0, count := unitsOf t.fmt (v * t.rest) }, true⟩) ∧
        ∃ t1, Store.look s1.tensors t.id = some t1 ∧ t1.e0 = v ∧ t1.size = fmtSize t.fmt (v * t.rest)) ∧
    ((∀ b t, s.handleOf h = some b → s.tensor b.hold.id = some t → b.own = false ∨ (∀ kv ∈ s.cur.arch.made, kv.1 ≠ t.id) ∨ b.hold.mode < 2 ∨ v < t.e0 ∨
        t.cap0 < v ∨ let more := wholePages (fmtSize t.fmt (v * t.rest)) - wholePages t.size; s.roomAt t.id more (more / 65536) = none) →
      s.GivesQ (.tgrow g h qs sa) qs false 16)

/-- R136, R137, R139, R140, R151: elementwise arithmetic of integers: the exact result, saturated for VADDS and VSUBS, of which the element
takes the low bits; no flag. -/
def Obligations.VectorIntegers : Prop :=  ∀ (s : State) (f : VMode) (vd va vb : Nat) (imm : Int), f.et.isInt = true → s.roomV vd →
    let e := f.et.bits
    let a := fun i => intOf (elem (s.rdV va) e i) e f.et.isSigned
    let b := fun i => intOf (elem (s.rdV vb) e i) e f.et.isSigned
    let gives := fun (i : Instr) (bound : Nat) (val : Nat → Int) => s.GivesLanes f i vd bound fun k => ((val k % 2 ^ e).toNat, 0)
    let lo : Int := if f.et.isSigned = true then -(2 ^ (e - 1)) else 0
    let hi : Int := if f.et.isSigned = true then 2 ^ (e - 1) - 1 else 2 ^ e - 1
    gives (.vadd f vd va vb) 2 (fun i => a i + b i) ∧ gives (.vsub f vd va vb) 2 (fun i => a i - b i) ∧
    gives (.vmul f vd va vb) 4 (fun i => a i * b i) ∧ gives (.vmulh f vd va vb) 4 (fun i => a i * b i / 2 ^ e) ∧
    gives (.vmin f vd va vb) 2 (fun i => if a i ≤ b i then a i else b i) ∧ gives (.vmax f vd va vb) 2 (fun i => if a i ≤ b i then b i else a i) ∧
    gives (.vabs f vd va) 2 (fun i => if a i < 0 then -(a i) else a i) ∧ gives (.vneg f vd va) 2 (fun i => -(a i)) ∧
    gives (.vadds f vd va vb) 2 (fun i => if a i + b i < lo then lo else if hi < a i + b i then hi else a i + b i) ∧
    gives (.vsubs f vd va vb) 2 (fun i => if a i - b i < lo then lo else if hi < a i - b i then hi else a i - b i) ∧
    gives (.vavg f vd va vb) 2 (fun i => (a i + b i + 1) / 2) ∧ gives (.vaddi f vd va imm) 2 (fun i => a i + imm) ∧
    gives (.vmuli f vd va imm) 4 (fun i => a i * imm) ∧ gives (.vldi f vd imm) 2 (fun _ => imm)

/-- R141, R142, R151: bitwise operations, shifts and counts on the elements of any type, and the broadcast of a register's low bits. -/
def Obligations.VectorBits : Prop :=  ∀ (s : State) (f : VMode) (vd va vb sb n : Nat) (imm : Int), s.roomV vd →
    let e := f.et.bits
    let a := fun i => elem (s.rdV va) e i
    let b := fun i => elem (s.rdV vb) e i
    let gives := fun (i : Instr) (val : Nat → Nat) => s.GivesLanes f i vd 2 fun k => (val k, 0)
    let ones := 2 ^ e - 1
    gives (.vand f vd va vb) (fun i => a i &&& b i) ∧ gives (.vor f vd va vb) (fun i => a i ||| b i) ∧
    gives (.vxor f vd va vb) (fun i => a i ^^^ b i) ∧ gives (.vandn f vd va vb) (fun i => a i &&& (ones ^^^ b i)) ∧
    gives (.vnot f vd va) (fun i => ones - a i) ∧
    gives (.vshl f vd va vb) (fun i => if b i < e then a i * 2 ^ b i else 0) ∧ gives (.vshr f vd va vb) (fun i => a i / 2 ^ b i) ∧
    gives (.vsra f vd va vb) (fun i => (intOf (a i) e true / 2 ^ b i % 2 ^ e).toNat) ∧
    gives (.vshli f vd va n) (fun i => if n < e then a i * 2 ^ n else 0) ∧ gives (.vshri f vd va n) (fun i => a i / 2 ^ n) ∧
    gives (.vsrai f vd va n) (fun i => (intOf (a i) e true / 2 ^ n % 2 ^ e).toNat) ∧
    gives (.vclz f vd va) (fun i => if a i = 0 then e else e - 1 - Nat.log2 (a i)) ∧
    gives (.vpopc f vd va) (fun i => (List.range e).countP fun k => (a i).testBit k) ∧
    gives (.vandi f vd va imm) (fun i => a i &&& (imm % 2 ^ e).toNat) ∧
    gives (.vbc f vd sb) (fun _ => (s.rdS sb).toNat)

/-- R137 to R140, R145, R149, R150: the elementwise operations of floating elements, each with one rounding into the element's format, and
the classes, from the fields of the encoding. VRND rounds to an integer. Flags land with the result (R60). -/
def Obligations.VectorFloats : Prop :=  ∀ (s : State) (f : VMode) (fm : Fmt) (vd va vb sb : Nat), ET.fmt f.et = some fm → s.roomV vd → s.noTstat →
    let e := f.et.bits
    let t := s.tctl
    let a := fun i => elem (s.rdV va) e i
    let x := fun i => srcF fm t (a i)
    let y := fun i => srcF fm t (elem (s.rdV vb) e i)
    let d := fun i => srcF fm t (elem (s.rdV vd) e i)
    let res := fun (r : FVal × Flags) => ((encodeF fm t r.1).1, r.2 ||| (encodeF fm t r.1).2)
    let gives := fun (i : Instr) (bound : Nat) (val : Nat → Nat × Flags) => s.GivesLanes f i vd bound val
    gives (.vadd f vd va vb) 4 (fun i => res (FVal.add t.rm (x i) (y i))) ∧
    gives (.vsub f vd va vb) 4 (fun i => res (FVal.add t.rm (x i) (y i).negate)) ∧
    gives (.vmul f vd va vb) 4 (fun i => res (FVal.mul (x i) (y i))) ∧
    gives (.vfma f vd va vb) 4 (fun i => res (FVal.fma t.rm (x i) (y i) (d i))) ∧
    gives (.vfms f vd va vb) 4 (fun i => res (FVal.fma t.rm (x i) (y i) (d i).negate)) ∧
    gives (.vmin f vd va vb) 2 (fun i => (bitsOf fm (FVal.fmin (x i) (y i)), 0)) ∧
    gives (.vmax f vd va vb) 2 (fun i => (bitsOf fm (FVal.fmax (x i) (y i)), 0)) ∧
    gives (.vabs f vd va) 2 (fun i => (a i % 2 ^ (e - 1), 0)) ∧ gives (.vneg f vd va) 2 (fun i => (a i + 2 ^ (e - 1), 0)) ∧
    gives (.vscl f vd va sb) 4 (fun i => encodeF fm t (scalePow (x i) (s.rdS sb).toInt)) ∧
    gives (.vrnd f vd va) 4 (fun i => match x i with
      | .fin n m ex => (bitsOf fm (.fin n (roundInt m ex n t.rm).1 0), if (roundInt m ex n t.rm).2 = true then 0 else Flags.nx)
      | v => (bitsOf fm v, 0)) ∧
    ∃ c : Nat → Nat, gives (.vclass f vd va) 2 (fun i => (c i, 0)) ∧ ∀ i,
      let ex := fld (a i) fm.fb fm.eb
      let fr := fld (a i) 0 fm.fb
      let neg := fld (a i) (fm.w - 1) 1 = 1
      let top := ex = 2 ^ fm.eb - 1
      let nan := top ∧ (if fm.hasInf = true then fr ≠ 0 else fr = 2 ^ fm.fb - 1)
      let inf := top ∧ fm.hasInf = true ∧ fr = 0
      let normal := ex ≠ 0 ∧ ¬nan ∧ ¬inf
      let sub := ex = 0 ∧ fr ≠ 0
      let zero := ex = 0 ∧ fr = 0
      ∀ k, (c i).testBit k = true ↔ (k = 0 ∧ nan) ∨ (k = 1 ∧ inf ∧ neg) ∨ (k = 2 ∧ normal ∧ neg) ∨ (k = 3 ∧ sub ∧ neg) ∨ (k = 4 ∧ zero ∧ neg) ∨
        (k = 5 ∧ zero ∧ ¬neg) ∨ (k = 6 ∧ sub ∧ ¬neg) ∨ (k = 7 ∧ normal ∧ ¬neg) ∨ (k = 8 ∧ inf ∧ ¬neg) ∨ (k = 9 ∧ sub ∧ fm.eb = 8)

/-- R146 to R148: the conversions of elements of any type. Between types of one size, VCVT and VCVTS convert element by element; between
sizes, element i of the result comes from element i of the source. VPACK narrows two registers, VUNPK widens half of one. From a floating
format to an integer, a NaN gives 0 and a value beyond the range saturates, with NV; an integer is rounded once (R81).
That VUNPK flushes what FTZ flushes is the model's reading (log entry 21). -/
def Obligations.VectorConversions : Prop :=  ∀ (s : State) (f : VMode) (src : ET) (vd va vb : Nat) (half : Bool), s.roomV vd → s.noTstat →
    let e := f.et.bits
    let t := s.tctl
    let p := s.rdP f.pg
    let n := elemCount f.w e
    let m := elemCount f.w (max src.bits e)
    let cvt := fun (i : Instr) (sat : Bool) => ∃ r : VRes, s.GivesV i vd r 4 ∧
      (∀ k, k < n → elem r.val e k =
        if k < m ∧ active p e k = true then (convert t sat sat f.et src (elem (s.rdV va) src.bits k)).1 % 2 ^ e else 0) ∧
      (∀ i, i < 128 → r.mask.getLsbD i = (decide (i < n * (e / 8)) && (decide (m ≤ i / (e / 8)) || f.zero || active p e (i / (e / 8))))) ∧
      r.flags = (List.range n).foldl (fun fl k =>
        if k < m ∧ active p e k = true then fl ||| (convert t sat sat f.et src (elem (s.rdV va) src.bits k)).2 else fl) 0
    cvt (.vcvt f src vd va) false ∧ cvt (.vcvts f src vd va) true ∧
    s.GivesLanes f (.vpack f vd va vb) vd 4 (fun i => convert t true false f.et (doubleType f.et)
      (if i < n / 2 then elem (s.rdV va) (2 * e) i else elem (s.rdV vb) (2 * e) (i - n / 2))) ∧
    (∃ r : VRes, s.GivesV (.vunpk f vd va half) vd r 4 ∧
      r.Lanes (2 * e) (elemCount f.w (2 * e)) p f.zero fun i =>
        let x := elem (s.rdV va) e ((if half = true then elemCount f.w (2 * e) else 0) + i)
        match ET.fmt f.et, ET.fmt (doubleType f.et) with
        | some fs, some fd => encodeF fd t (srcF fs t x)
        | _, _ => ((intOf x e f.et.isSigned % 2 ^ (2 * e)).toNat, 0)) ∧
    ∀ (si sf : Bool) (d : ET) (x : Nat), d.isInt = true →
      (∀ (y : ET) (fm : Fmt), ET.fmt y = some fm → fm.hasInf = true → convert t si sf d y x = fpToInt fm t d.bits d.isSigned x) ∧
      IsFpOfInt t.rm (intOf x d.bits d.isSigned) (convert t si sf .fp32 d x) ∧
      (∀ y : ET, y.isInt = true → let v := intOf x y.bits y.isSigned
        let lo : Int := if d.isSigned = true then -(2 ^ (d.bits - 1)) else 0
        let hi : Int := if d.isSigned = true then 2 ^ (d.bits - 1) - 1 else 2 ^ d.bits - 1
        convert t true sf d y x = (((if v < lo then lo else if hi < v then hi else v) % 2 ^ d.bits).toNat, 0) ∧
        convert t false sf d y x = ((v % 2 ^ d.bits).toNat, 0)) ∧
      ∀ (fm : Fmt) (y z : ET), ET.fmt y = some fm → ET.fmt z = some fm → x < 2 ^ fm.w → fm.hasInf = true →
        fld x fm.fb fm.eb ≠ 0 → fld x fm.fb fm.eb ≠ 2 ^ fm.eb - 1 → convert t si false z y x = (x, 0)

/-- R143, R144, R158, R159: predicates from vectors, predicate logic, the first active element, counts, and selection. Floating elements
compare by sign and magnitude, zeros alike, a NaN being unequal to everything (R80). -/
def Obligations.VectorPredicates : Prop :=  ∀ (s : State) (w : Width) (et : ET) (cc : FCond) (pg pd pa pb sd sb vd va vb : Nat), s.roomP pd → s.roomS sd → s.roomV vd →
    let e := et.bits
    let n := elemCount w e
    let p := s.rdP pa
    let gives := fun (i : Instr) (res : Nat → Bool) => ∃ r : PRes, r.Lanes w e res ∧ s.GivesP i pd r 2
    gives (.vcmp w pg et cc pd va vb) (fun i => active (s.rdP pg) e i && vRel s.tctl et cc (elem (s.rdV va) e i) (elem (s.rdV vb) e i)) ∧
    (et.isInt = true → ∀ t x y, let a := intOf x e et.isSigned; let b := intOf y e et.isSigned
      vRel t et .eq x y = decide (a = b) ∧ vRel t et .ne x y = decide (a ≠ b) ∧ vRel t et .lt x y = decide (a < b) ∧
      vRel t et .le x y = decide (a ≤ b) ∧ vRel t et .gt x y = decide (b < a) ∧ vRel t et .ge x y = decide (b ≤ a)) ∧
    (∀ (fm : Fmt) (t : Tctl) (x y : Nat), ET.fmt et = some fm → x < 2 ^ fm.w → y < 2 ^ fm.w →
      let nan := fun (z : Nat) => fld z fm.fb fm.eb = 2 ^ fm.eb - 1 ∧ (if fm.hasInf = true then fld z 0 fm.fb ≠ 0 else fld z 0 fm.fb = 2 ^ fm.fb - 1)
      let key := fun (z : Nat) => let m : Int := if t.daz = true ∧ fm.eb = 8 ∧ fld z fm.fb fm.eb = 0 then 0 else (fld z 0 (fm.w - 1) : Nat)
        if fld z (fm.w - 1) 1 = 1 then -m else m
      (nan x ∨ nan y → ∀ r, vRel t et r x y = (r == .ne || r == .un)) ∧
      (¬ nan x → ¬ nan y → vRel t et .eq x y = decide (key x = key y) ∧ vRel t et .ne x y = decide (key x ≠ key y) ∧
        vRel t et .lt x y = decide (key x < key y) ∧ vRel t et .le x y = decide (key x ≤ key y) ∧ vRel t et .gt x y = decide (key y < key x) ∧
        vRel t et .ge x y = decide (key y ≤ key x) ∧ vRel t et .un x y = false ∧ vRel t et .or x y = true)) ∧
    s.GivesP (.pand pd pa pb) pd ⟨p &&& s.rdP pb, BitVec.allOnes 128⟩ 2 ∧ s.GivesP (.por pd pa pb) pd ⟨p ||| s.rdP pb, BitVec.allOnes 128⟩ 2 ∧
    s.GivesP (.pxor pd pa pb) pd ⟨p ^^^ s.rdP pb, BitVec.allOnes 128⟩ 2 ∧ s.GivesP (.pnot pd pa) pd ⟨~~~p, BitVec.allOnes 128⟩ 2 ∧
    gives (.pfirst w et pd pa) (fun i => active p e i && (List.range i).all fun j => !active p e j) ∧
    gives (.plen w et pd sb) (fun i => decide (i < (s.rdS sb).toNat)) ∧
    s.GivesS (.pcnt w et sd pa) sd (BitVec.ofNat 64 ((List.range n).countP fun i => active p e i)) 2 ∧
    ∃ r : VRes, s.GivesV (.vsel w pg et vd va vb) vd r 2 ∧ r.flags = 0 ∧ (∀ k, k < 128 → r.mask.getLsbD k = decide (k < w.bytes)) ∧
      ∀ i, i < n → elem r.val e i = if active (s.rdP pg) e i = true then elem (s.rdV va) e i else elem (s.rdV vb) e i

/-- R152 to R155, R160, R161: moves between elements. A source element that is out of range or inactive reads as zero; VEXT extends by the
type; VINS writes one element; VCMPR, VXPND and VIOTA count the active elements below. -/
def Obligations.VectorMoves : Prop :=  ∀ (s : State) (f : VMode) (vd va vb sd sa sb pl : Nat), s.roomV vd → s.roomS sd →
    let e := f.et.bits
    let n := elemCount f.w e
    let p := s.rdP f.pg
    let a := fun i => elem (s.rdV va) e i
    let src := fun j => if j < n ∧ active p e j = true then a j else 0
    let rank := fun i => (List.range i).countP fun j => active p e j
    let gives := fun (i : Instr) (val : Nat → Nat) => s.GivesLanes f i vd 6 fun k => (val k, 0)
    let x := (s.rdS sb).toNat
    gives (.vperm f vd va vb) (fun i => src (elem (s.rdV vb) e i)) ∧ gives (.vrot f vd va sb) (fun i => src ((i + x) % n)) ∧
    gives (.vsld f vd va sb) (fun i => src (i + x)) ∧
    s.GivesS (.vext f sd va sb) sd (BitVec.ofInt 64 (intOf (src x) e f.et.isSigned)) 6 ∧
    gives (.viota f vd) rank ∧ gives (.vxpnd f vd va) (fun i => a (rank i)) ∧
    gives (.vupln f vd va pl) (fun i => (npRead (vBytes (s.rdV va) (8 * pl * (i / 64)) (8 * pl)) pl (i % 64) % 2 ^ e).toNat) ∧
    (f.et = .i8 ∧ 2 ≤ pl ∧ pl ≤ 8 ∨ f.et = .i16 ∧ pl = 16 → ∃ r : VRes, s.GivesV (.vpln f vd va pl) vd r 6 ∧ r.flags = 0 ∧
      (∀ k, k < 128 → r.mask.getLsbD k = decide (k < f.w.bytes)) ∧
      (∀ b j k, b < n / 64 → j < pl → k < 64 →
        let v := intOf (a (64 * b + k)) e true
        let x := if active p e (64 * b + k) = true then (if v < -(2 ^ (pl - 1)) then -(2 ^ (pl - 1)) else if 2 ^ (pl - 1) - 1 < v then 2 ^ (pl - 1) - 1 else v) else 0
        r.val.getLsbD (64 * (pl * b + j) + k) = (x % 2 ^ pl).toNat.testBit (pl - 1 - j)) ∧
      ∀ i, 64 * pl * (n / 64) ≤ i → r.val.getLsbD i = false) ∧
    (∃ r : VRes, s.GivesV (.vins f vd sa sb) vd r 6 ∧ r.flags = 0 ∧
      (∀ i, i < n → active p e i = true → (r.mask.getLsbD (e / 8 * i) = decide (i = x)) ∧ (i = x → elem r.val e i = (s.rdS sa).toNat % 2 ^ e)) ∧
      ∀ i, i < n → active p e i = false → r.mask.getLsbD (e / 8 * i) = f.zero ∧ elem r.val e i = 0) ∧
    ∃ r : VRes, s.GivesV (.vcmpr f vd va) vd r 6 ∧ r.flags = 0 ∧
      (∀ i, i < n → active p e i = true → r.mask.getLsbD (e / 8 * rank i) = true ∧ elem r.val e (rank i) = a i) ∧
      ∀ i, i < n → rank n ≤ i → r.mask.getLsbD (e / 8 * i) = f.zero ∧ elem r.val e i = 0

/-- R156, R157, R162: reductions. Each completes in every state, on every operand, and sets one result on its way. An integer one is exact
before it is wrapped to 64 bits at byte 0, the rest of the width zero; a floating one is a tree of binary32 nodes, each with DAZ and FTZ
(R90). VBSC gives the scale code of the largest active element.
R163, R164, R191: VPOP takes the next bytes of a result queue, which stay retained until the next checkpoint: an underflow, a bundle held
while promised bytes have not landed, or the bytes. Where the bytes have landed it completes in every state.
The nodes of VRMAX and VRMIN under FTZ, and two pops of one queue in one bundle, are the model's reading (log entries 21 and 24). -/
def Obligations.VectorReductions : Prop :=
   ((∀ (s : State) (f : VMode) (vd va vb : Nat),
      (∃ t, exec (.vradd f vd va) s = .next t ∧ s.Issues t) ∧ (∃ t, exec (.vrmax f vd va) s = .next t ∧ s.Issues t) ∧
      (∃ t, exec (.vrmin f vd va) s = .next t ∧ s.Issues t) ∧ (∃ t, exec (.vdot f vd va vb) s = .next t ∧ s.Issues t) ∧
      ∃ t, exec (.vbsc f vd va) s = .next t ∧ s.Issues t) ∧
    ∀ (s : State) (f : VMode) (vd va vb : Nat), s.roomV vd →
      let e := f.et.bits
      let n := elemCount f.w e
      let p := s.rdP f.pg
      let a := fun i => intOf (elem (s.rdV va) e i) e f.et.isSigned
      let b := fun i => intOf (elem (s.rdV vb) e i) e f.et.isSigned
      let head := fun (i : Instr) (x : Int) => ∃ r : VRes, s.GivesV i vd r 8 ∧ r.flags = 0 ∧ elem r.val 64 0 = (x % 2 ^ 64).toNat ∧
        (∀ k, 1 ≤ k → k < 16 → elem r.val 64 k = 0) ∧ ∀ k, k < 128 → r.mask.getLsbD k = decide (k < f.w.bytes)
      (f.et.isInt = true →
        head (.vradd f vd va) ((List.range n).foldl (fun acc i => if active p e i = true then acc + a i else acc) 0) ∧
        head (.vdot f vd va vb) ((List.range n).foldl (fun acc i => if active p e i = true then acc + a i * b i else acc) 0) ∧
        ((∃ i, i < n ∧ active p e i = true) →
          (∃ m, head (.vrmax f vd va) m ∧ (∀ i, i < n → active p e i = true → a i ≤ m) ∧ ∃ i, i < n ∧ active p e i = true ∧ a i = m) ∧
          ∃ m, head (.vrmin f vd va) m ∧ (∀ i, i < n → active p e i = true → m ≤ a i) ∧ ∃ i, i < n ∧ active p e i = true ∧ a i = m)) ∧
      (s.noTstat →
        ∀ fm : Fmt, ET.fmt f.et = some fm →
        let t := s.tctl
        let x := fun i => fm.decode (elem (s.rdV va) e i)
        let y := fun i => fm.decode (elem (s.rdV vb) e i)
        let enc := fun (r : FVal × Flags) => ((encodeF Fmt.fp32 t r.1).1, r.2 ||| (encodeF Fmt.fp32 t r.1).2)
        -- a node of two binary32 encodings with the flags below them, and the tree over the leaves
        let node := fun (o : FVal → FVal → FVal × Flags) (u v : Nat × Flags) =>
          let r := enc (o (srcF Fmt.fp32 t u.1) (srcF Fmt.fp32 t v.1))
          (r.1, u.2 ||| v.2 ||| r.2)
        let quiet := fun (o : FVal → FVal → FVal × Flags) (u v : Nat × Flags) => ((node o u v).1, (0 : Flags))
        let leaf := fun (idle : Nat) i => (if active p e i = true then bitsOf Fmt.fp32 (x i) else idle, (0 : Flags))
        let low := fun (i : Instr) (bound bits : Nat) (res : Nat × Flags) => ∃ r : VRes, s.GivesV i vd r bound ∧ r.flags = res.2 ∧
          elem r.val bits 0 = res.1 ∧ (∀ k, bits ≤ k → k < 1024 → r.val.getLsbD k = false) ∧ ∀ k, k < 128 → r.mask.getLsbD k = decide (k < f.w.bytes)
        let tree := fun (o : Nat × Flags → Nat × Flags → Nat × Flags) (l : Nat → Nat × Flags) => (treeReduce o (Nat.log2 n) ((List.range n).map l)).headD (0, 0)
        low (.vradd f vd va) 8 32 (tree (node (FVal.add t.rm)) (leaf 0x80000000)) ∧
        low (.vrmax f vd va) 8 32 (tree (quiet fun u v => (FVal.fmax u v, 0)) (leaf 0xFF800000)) ∧
        low (.vrmin f vd va) 8 32 (tree (quiet fun u v => (FVal.fmin u v, 0)) (leaf 0x7F800000)) ∧
        low (.vdot f vd va vb) 8 32 (tree (node (FVal.add t.rm)) fun i =>
          if active p e i = true then enc (FVal.mul (dazV t (x i)) (dazV t (y i))) else (0x80000000, 0)) ∧
        ∃ c fl, low (.vbsc f vd va) 6 8 (c, fl) ∧
          (∀ i, i < n → active p e i = true → (x i).isNan = true ∨ (x i).isInf = true → c = 0xFF) ∧
          (fl = if (List.range n).any (fun i => active p e i && (x i).isInf) = true then Flags.nv else 0) ∧
          ((∀ i, i < n → active p e i = true → (dazV t (x i)).isZero = true) → c = 0) ∧
          ∀ i ng m ex, i < n → active p e i = true → dazV t (x i) = .fin ng m ex → m ≠ 0 →
            (∀ j, j < n → active p e j = true → ∃ nj mj ej, dazV t (x j) = .fin nj mj ej ∧ mj * 2 ^ (ej + 300).toNat ≤ m * 2 ^ (ex + 300).toNat) →
            (c : Int) = max 0 (min 254 ((Nat.log2 m : Int) + ex + 128)))) ∧
   (∀ (s : State) (f : VMode) (vd rq : Nat),
      let n := f.w.bytes
      let q := s.cur.arch.queue rq
      let k := f.et.bits / 8
      let left : ResQ := { q with data := q.data.drop n, retained := q.retained + n }
      let popped := s.arch fun a => { a with rq := Store.set ResQ.init a.rq rq left }
      (n ≤ q.data.length → ∃ t, exec (.vpop f vd rq) s = .next t ∧ popped.Issues t) ∧
      (q.data.length + q.promised < n → s.Raises (.vpop f vd rq) 6 [rq, n, q.data.length + q.promised, 0]) ∧
      (n ≤ q.data.length + q.promised → q.data.length < n → s.Holds (.vpop f vd rq)) ∧
      (s.roomV vd → n ≤ q.data.length → ∃ r : VRes,
        r.Lanes f.et.bits (elemCount f.w f.et.bits) (s.rdP f.pg) f.zero (fun i => (leNat ((q.data.drop (k * i)).take k), 0)) ∧
        s.CompletesWith popped (.vpop f vd rq) 4 (s.setV vd r)))

/-- R165, R101: every special function completes with its element function, with its latency bound.
R166, R167: the special sources of the functions, for binary32 elements: a NaN gives the canonical NaN and no flag, infinities and zeros
of either sign what the table gives, and a negative number to a logarithm or a root NV; the exact cases, where the source and the result are
normal numbers.
R168 with R165: the value r of a finite source that is neither special nor exact, and its encoding. FRCP and FSQRT are the exact result
rounded once. The others lie within the bound of the result y as the model computes it to some 300 bits (that of FRSQ is 1/√x cut
there, with NX; FSIN and FCOS of a source beyond 2 ^ 15 · π lie in [-1, 1], as y does, and within 2 ^ -12 of it.
The corners that the manual leaves open are the model's reading (log entry 21). -/
def Obligations.SpecialFunctions : Prop :=
    ((∀ (s : State) (f : FMode) (vd va : Nat), s.roomV vd → s.noTstat →
        let e := if f.bf = true then 16 else 32
        let gives := fun (i : Instr) (op : FOp) (bound : Nat) => ∃ r : VRes, s.GivesV i vd r bound ∧
          r.Lanes e (elemCount f.w e) (s.rdP f.pg) f.zero fun k => fElem op f.bf s.tctl (elem (s.rdV va) e k)
        gives (.fexp2 f vd va) .exp2 8 ∧ gives (.fexp f vd va) .exp 8 ∧ gives (.flog2 f vd va) .log2 8 ∧ gives (.fln f vd va) .ln 8 ∧
        gives (.frcp f vd va) .rcp 8 ∧ gives (.frsq f vd va) .rsq 8 ∧ gives (.fsqrt f vd va) .sqrt 8 ∧ gives (.ftanh f vd va) .tanh 8 ∧
        gives (.fsigm f vd va) .sigm 8 ∧ gives (.ferf f vd va) .erf 12 ∧ gives (.fsin f vd va) .sin 12 ∧ gives (.fcos f vd va) .cos 12 ∧
        gives (.fgelu f vd va) .gelu 12) ∧
     (∀ (t : Tctl) (op : FOp) (x : Nat), x < 2 ^ 32 →
        let f := fElem op false t
        (fld x 23 8 = 255 → fld x 0 23 ≠ 0 → f x = (0x7FC00000, 0)) ∧
        f 0x00000000 = (match op with
          | .exp2 | .exp | .cos => (0x3F800000, 0) | .log2 | .ln => (0xFF800000, Flags.dz) | .rcp | .rsq => (0x7F800000, Flags.dz)
          | .sigm => (0x3F000000, 0) | .sqrt | .tanh | .erf | .sin | .gelu => (0, 0)) ∧
        f 0x7F800000 = (match op with
          | .exp2 | .exp | .log2 | .ln | .sqrt | .gelu => (0x7F800000, 0) | .rcp | .rsq => (0, 0) | .tanh | .sigm | .erf => (0x3F800000, 0)
          | .sin | .cos => (0x7FC00000, Flags.nv)) ∧
        f 0xFF800000 = (match op with
          | .exp2 | .exp | .sigm => (0, 0) | .log2 | .ln | .rsq | .sqrt | .sin | .cos => (0x7FC00000, Flags.nv)
          | .rcp | .gelu => (0x80000000, 0) | .tanh | .erf => (0xBF800000, 0)) ∧
        f 0x80000000 = (match op with
          | .exp2 | .exp | .cos => (0x3F800000, 0) | .log2 | .ln | .rcp | .rsq => (0xFF800000, Flags.dz) | .sigm => (0x3F000000, 0)
          | .sqrt | .tanh | .erf | .sin | .gelu => (0x80000000, 0)) ∧
        (op = .log2 ∨ op = .ln ∨ op = .rsq ∨ op = .sqrt → 0x80800000 ≤ x → x < 0xFF800000 → f x = (0x7FC00000, Flags.nv)) ∧
        -- R167: with `pow k` the encoding of 2 ^ k, for k from -126 to 127
        (let pow := fun (k : Int) => (k + 127).toNat * 2 ^ 23;
          (op = .ln → f 0x3F800000 = (0, 0)) ∧
          (∀ k : Int, -126 ≤ k → k ≤ 127 →
            (op = .log2 → IsFpOfInt t.rm k (f (pow k))) ∧ (op = .rcp → k ≤ 126 → f (pow k) = (pow (-k), 0)) ∧
            (op = .rsq → k % 2 = 0 → f (pow k) = (pow (-(k / 2)), 0)) ∧
            (op = .exp2 → ∀ n m ex, Fmt.fp32.decode x = .fin n m ex → (m : Int) * 2 ^ (ex + 149).toNat = (if n = true then -k else k) * 2 ^ 149 →
              f x = (pow k, 0))) ∧
          (op = .sqrt → ∀ y n m k ex ey, y < 2 ^ 31 → Fmt.fp32.decode x = .fin false m ex → Fmt.fp32.decode y = .fin n k ey →
            2 ^ 23 ≤ m → 2 ^ 23 ≤ k → m * 2 ^ (ex + 300).toNat = k * k * 2 ^ (2 * ey + 300).toNat → f x = (y, 0))))) ∧
   (∀ (t : Tctl) (op : FOp) (x : Nat) (n : Bool) (m : Nat) (e : Int), x < 2 ^ 32 → srcF .fp32 t x = .fin n m e → m ≠ 0 →
      let r := fDeliver op t (.fin n m e) (bitsOf .fp32 (.fin n m e))
      let nx := r.2 &&& Flags.nx ≠ 0
      let at_ := fun (neg : Bool) (a : Nat) (k : Int) => (if neg = true then -1 else 1) * (a : Int) * 2 ^ (k + 2000).toNat
      (fElem op false t x).1 = (encodeF .fp32 t r.1).1 ∧
      (x % 2 ^ 16 = 0 → (fElem op true t (x / 2 ^ 16)).1 =
        (encodeF .bf16 t (if r.2 &&& Flags.ovf = 0 then r.1 else .fin r.1.isNeg 1 200)).1) ∧
      (op = .rcp → r.2 &&& Flags.ovf = 0 → ∃ g : Int, let d := 2 ^ (-(g + e)).toNat
        let k := roundQuot t.rm n d m
        r.1 = .fin n k g ∧ g + e ≤ 0 ∧ -149 ≤ g ∧ (g = -149 ∨ 2 ^ 23 ≤ k) ∧ k ≤ 2 ^ 24 ∧ (nx ↔ n = true ∨ k * m ≠ d)) ∧
      (op = .sqrt → n = false → ∃ (k : Nat) (g : Int), let d := m * 2 ^ (e - 2 * g).toNat
        r.1 = .fin false k g ∧ 2 * g ≤ e ∧ 2 ^ 23 ≤ k ∧ k ≤ 2 ^ 24 ∧ (nx ↔ d ≠ k ^ 2) ∧
        (t.rm = .rne → (2 * k - 1) ^ 2 < 4 * d ∧ 4 * d < (2 * k + 1) ^ 2) ∧ (t.rm = .rup → (k - 1) ^ 2 < d ∧ d ≤ k ^ 2) ∧
        (t.rm = .rtz ∨ t.rm = .rdn → k ^ 2 ≤ d ∧ d < (k + 1) ^ 2)) ∧
      (∀ yn ym ye, op ≠ .rcp → op ≠ .sqrt → fSpecial op (.fin n m e) = none → fExact op n m e = none → fCompute op n m e = .fin yn ym ye →
        at_ false ym ye ≤ at_ false (2 ^ 24 - 1) 104 → ∃ zn zm ze, r = (.fin zn zm ze, Flags.nx) ∧
          let off : Int := (at_ zn zm ze - at_ yn ym ye).natAbs
          let b := match op with | .exp2 | .log2 | .rsq => 1 | .gelu => 4 | _ => 2
          ((op = .sin ∨ op = .cos) ∧ 2 ^ 15 * fxPi < fxOf false m e →
            at_ false ym ye ≤ at_ false 1 0 → off ≤ at_ false 1 (-12) ∧ at_ false zm ze ≤ at_ false 1 0) ∧
          (¬ ((op = .sin ∨ op = .cos) ∧ 2 ^ 15 * fxPi < fxOf false m e) →
            off ≤ at_ false b ((if ym = 0 then -126 else max ((Nat.log2 ym : Int) + ye) (-126)) - 23))) ∧
      (op = .rsq → n = false → ∃ (k : Nat) (g : Int), fCompute .rsq false m e = .fin false k g ∧ 2 * g + e ≤ 0 ∧
        k ^ 2 * m ≤ 2 ^ (-(2 * g + e)).toNat ∧ 2 ^ (-(2 * g + e)).toNat < (k + 1) ^ 2 * m))

/-- R175 to R178, R182, R184 to R189: the operations of the M slot that enter the array. A busy tile holds the bundle; a check that fails
raises its cause; else one operation more is in the queue of the array, its tile busy from then on, with TCTL and the window as they
stand, and a drain promises its bytes to its queue. No tile, no byte of the window and no landed byte changes. -/
def Obligations.MatrixIssue : Prop :=  ∀ (s : State) (ta da db kb rq : Nat) (fmt : DrainFmt) (relu : Bool) (shift : Option Int) (off : Option Nat),
    let ops := [(Instr.mma ta da db kb, 0, false), (.mmaz ta da db kb, 0, true), (.mmaw ta da db kb, 1, false), (.mmag ta da db kb, 2, false)]
    let drain := Instr.mdrn ta rq fmt relu shift off
    let push := fun (k : ArrayKind) (clocks : Nat) =>
      ({ s with cur := { s.cur with array := s.cur.array ++ [⟨k, ta, clocks, 0, false, s.cur.arch.tctl, s.cur.win, [], [], 0, s.free⟩] }
                free := s.free + 1 } : State)
    let q := s.cur.arch.queue rq
    (s.cur.busy ta = true → (∀ p ∈ ops, s.Holds p.1) ∧ s.Holds drain ∧ s.Holds (.mzero ta) ∧ s.Holds (.mwait ta)) ∧
    (s.cur.busy ta = false →
      s.Does (.mzero ta) (push .zero 1) ∧ s.NoEffect (.mwait ta) ∧
      (∀ p ∈ ops,
        (∀ r, s.mmaCheck p.2.1 da db kb = some r → exec p.1 s = .next (s.takeRaise r)) ∧
        (s.mmaCheck p.2.1 da db kb = none → ∃ a b, Store.get none s.cur.arch.od da = some a ∧ Store.get none s.cur.arch.od db = some b ∧
          s.Does p.1 (push (.mma p.2.2 da db kb (Store.get none s.cur.arch.nest da) a b (if odMode a = 2 then s.indexList a else []))
            (kb * odQ b * (if 8 < odQ a then 2 else 1))))) ∧
      (∀ r, s.drainCheck rq fmt off = some r → exec drain s = .next (s.takeRaise r)) ∧
      (s.drainCheck rq fmt off = none → s.Does drain ((push (.drain rq fmt relu shift (off.bind s.drainOff)) 32).arch fun a =>
        { a with rq := Store.set ResQ.init a.rq rq { q with promised := q.promised + drainBytes fmt } })))

/-- R86, R170, R175 to R177, R191, R192: what the checks of the M slot find, in their order, with the words they report: the window of an
index list, the descriptors, the bound on KB, the entries of an index list, the scale layout of A and of B, the least byte of a plane that lies
at or beyond the window, and for a drain its offset vector and the room.
R170, R171, R174, R181, R190: MDLD, MNEST and MQSET, and the content that breaks a descriptor or a nest. The content of the window serves from the next bundle on; a descriptor of kind 0 becomes
invalid; content that breaks the rules is reported with its lowest bit, the old content unchanged; a queue that holds bytes keeps its
capacity, and the capacities stay within the allotment.
Detail words are the model's reading where the rule names only a field (log entry 14); that DA is named where both fail, and the lowest of several bad fields, is its choice (log entries 65 and 87). -/
def Obligations.MatrixChecks : Prop :=
   (∀ (s : State) (mode da db kb rq : Nat) (fmt : DrainFmt),
      let od := fun i => Store.get none s.cur.arch.od i
      let bad := fun (w : List Nat) => some (⟨0x0D, s.slotNo, w, none⟩ : Raise)
      let q := s.cur.arch.queue rq
      let used := q.data.length + q.promised
      let w := s.cur.hdr.window
      let layout := fun (num : Nat) (d : BitVec 512) =>
        if odSU d = true then none
        else if odScale d % 1024 ≠ 0 then some [num, 1, odScols d, kb]
        else if odScols d < (kb + 31) / 32 then some [num, 2, odScols d, kb]
        else if w < odScale d + 4096 * odScols d then some [num, 3, odScols d, kb]
        else none
      (od da = none → s.mmaCheck mode da db kb = bad [da, 1, 0, 0]) ∧
      (∀ a, od da = some a → mode = 2 → odKind a = 1 → odMode a = 2 → w < odAux a + 256 →
        s.mmaCheck mode da db kb = some ⟨4, s.slotNo, [max (odAux a) w, w, 0xFF, s.slotNo], none⟩) ∧
      (∀ a, od da = some a → (mode = 2 → odKind a = 1 → odMode a = 2 → odAux a + 256 ≤ w) →
        (od db = none → s.mmaCheck mode da db kb = bad [db, 1, 0, 0]) ∧
        ∀ b, od db = some b →
          (odKind a ≠ 1 → s.mmaCheck mode da db kb = bad [da, 2, 0, 0]) ∧
          (odKind a = 1 → odKind b ≠ 2 → s.mmaCheck mode da db kb = bad [db, 2, 0, 0]) ∧
          (odKind a = 1 → odKind b = 2 → odMode a ≠ mode → s.mmaCheck mode da db kb = bad [da, 3, 0, 0]) ∧
          (odKind a = 1 → odKind b = 2 → odMode a = mode →
            let nest := Store.get none s.cur.arch.nest da
            let idx := if mode = 2 then s.indexList a else []
            let reads := fun (x : Nat) =>
              (∃ r k j p, r < 128 ∧ k < kb ∧ j < odQ a ∧ aAddr a nest idx r k = some p ∧ p + j * odPstride a ≤ x ∧ x < p + j * odPstride a + 8) ∨
              (∃ c k j p, c < 128 ∧ k < kb ∧ j < odQ b ∧ bAddr b c k = some p ∧ p + j * odPstride b ≤ x ∧ x < p + j * odPstride b + 8)
            (mode = 1 → (∀ n, nest = some n → bf n 64 8 * bf n 72 8 * bf n 128 16 < kb) → s.mmaCheck mode da db kb = bad [da, 4, 0, 0]) ∧
            ((mode = 1 → ∃ n, nest = some n ∧ kb ≤ bf n 64 8 * bf n 72 8 * bf n 128 16) →
              (∀ i, mode = 2 → i < 128 → idx.getD i 0 ≠ 0xFFFF → odRows a ≤ idx.getD i 0 →
                (∀ j, j < i → idx.getD j 0 = 0xFFFF ∨ idx.getD j 0 < odRows a) → s.mmaCheck mode da db kb = bad [da, 5, i, idx.getD i 0]) ∧
              ((mode = 2 → ∀ i, i < 128 → idx.getD i 0 = 0xFFFF ∨ idx.getD i 0 < odRows a) →
                (∀ ws, layout da a = some ws → s.mmaCheck mode da db kb = some ⟨0x0C, s.slotNo, ws, none⟩) ∧
                (∀ ws, layout da a = none → layout db b = some ws → s.mmaCheck mode da db kb = some ⟨0x0C, s.slotNo, ws, none⟩) ∧
                (layout da a = none → layout db b = none →
                  (∀ x, reads x → w ≤ x → (∀ y, reads y → w ≤ y → x ≤ y) →
                    s.mmaCheck mode da db kb = some ⟨4, s.slotNo, [x, w, 0xFF, s.slotNo], none⟩) ∧
                  ((∀ x, reads x → x < w) → s.mmaCheck mode da db kb = none))))) ∧
          (odKind a = 1 → odKind b = 2 → odMode a = 0 → mode = 0 → odSU a = true → odSU b = true → 1 ≤ kb →
            odBase a + 127 * odRstride a + (kb - 1) * odBstride a + (odQ a - 1) * odPstride a + 8 ≤ s.cur.hdr.window →
            odBase b + 127 * odRstride b + (kb - 1) * odBstride b + (odQ b - 1) * odPstride b + 8 ≤ s.cur.hdr.window →
            s.mmaCheck mode da db kb = none)) ∧
      (used + q.retained + drainBytes fmt ≤ q.cap → s.drainCheck rq fmt none = none) ∧
      (q.cap < used + q.retained + drainBytes fmt →
        s.drainCheck rq fmt none = some ⟨5, s.slotNo, [1, rq, drainBytes fmt, q.cap - used - q.retained], none⟩) ∧
      (od da = none → s.drainCheck rq fmt (some da) = bad [da, 1, 0, 0]) ∧
      (∀ a, od da = some a → (odKind a ≠ 3 → s.drainCheck rq fmt (some da) = bad [da, 2, 0, 0]) ∧
        (odKind a = 3 → w < odBase a + 512 →
          s.drainCheck rq fmt (some da) = some ⟨4, s.slotNo, [max (odBase a) w, w, 0xFF, s.slotNo], none⟩) ∧
        (odKind a = 3 → odBase a + 512 ≤ w → s.drainCheck rq fmt (some da) = s.drainCheck rq fmt none))) ∧
   (∀ (s : State) (da off rq size : Nat),
      let d := BitVec.ofNat 512 (leNat (s.spad (64 * off) 64))
      let q := s.cur.arch.queue rq
      let used := q.data.length + q.promised + q.retained
      let others := (((List.range 8).filter (· ≠ rq)).map fun i => (s.cur.arch.queue i).cap).sum
      let least := fun (fault : Option Nat) (bad : Nat → Prop) =>
        (fault = none ↔ ∀ b, ¬ bad b) ∧ ∀ b, fault = some b ↔ bad b ∧ ∀ c, bad c → b ≤ c
      (∀ d : BitVec 512, let f := fun lo n => (d.extractLsb' lo n).toNat
        let kind := f 0 4
        let mode := f 4 2
        let some_ := fun (l : List (Nat × Nat)) (b : Nat) => ∃ n, (b, n) ∈ l ∧ f b n ≠ 0
        least (odFault d) (fun b =>
          (4 ≤ kind ∧ b = 0) ∨
          (kind = 3 ∧ (b = 32 ∧ f 32 32 % 4 ≠ 0 ∨ some_ [(4, 2), (6, 5), (11, 5), (16, 1), (17, 7), (24, 8), (64, 32), (96, 32), (128, 32),
            (160, 32), (192, 8), (200, 8), (208, 16), (224, 32), (256, 256)] b)) ∨
          ((kind = 1 ∨ kind = 2) ∧
            (b = 4 ∧ (mode = 3 ∨ kind = 2 ∧ mode ≠ 0) ∨ b = 6 ∧ (f 6 5 < 2 ∨ 8 < f 6 5) ∧ f 6 5 ≠ 16 ∨ b = 11 ∧ (f 11 5 = 0 ∨ f 6 5 < f 11 5) ∨
             b = 24 ∧ f 16 1 = 0 ∧ f 24 8 ≠ 0 ∨ b = 32 ∧ f 32 32 % 8 ≠ 0 ∨ b = 64 ∧ (f 64 32 % 8 ≠ 0 ∨ mode = 1 ∧ f 64 32 ≠ 0) ∨
             b = 96 ∧ f 96 32 % 8 ≠ 0 ∨ b = 128 ∧ (f 128 32 = 0 ∨ f 128 32 % 8 ≠ 0) ∨ f 16 1 = 1 ∧ some_ [(160, 32), (192, 8)] b ∨
             b = 208 ∧ (mode = 2 ∧ f 208 16 = 0 ∨ mode ≠ 2 ∧ f 208 16 ≠ 0) ∨ b = 224 ∧ (mode = 0 ∧ f 224 32 ≠ 0 ∨ mode = 2 ∧ f 224 32 % 2 ≠ 0) ∨
             some_ [(17, 7), (200, 8), (256, 256)] b))) ∧
        least (nestFault d) (fun b =>
          (∃ n, (b, n) ∈ [(0, 16), (16, 16), (32, 16), (48, 16), (64, 8), (72, 8), (80, 8), (88, 8), (96, 8), (104, 8), (128, 16)] ∧ f b n = 0) ∨
          b = 128 ∧ 127 < f 128 16 ∨ (b = 160 ∨ b = 192) ∧ f b 32 % 8 ≠ 0 ∨ some_ [(144, 16), (224, 288)] b)) ∧
      (64 * off + 64 ≤ s.cur.hdr.window →
        (∀ b, odFault d = some b → s.Raises (.mdld da off) 0x0D [da, 6, b, 0]) ∧
        (odFault d = none → s.Completes (.mdld da off) 1 fun a => { a with od := Store.set none a.od da (if odKind d = 0 then none else some d) }) ∧
        (∀ b, nestFault d = some b → s.Raises (.mnest da off) 0x0D [da, 6, b, 0]) ∧
        (nestFault d = none → s.Completes (.mnest da off) 1 fun a => { a with nest := Store.set none a.nest da (some d) })) ∧
      (s.cur.hdr.window < 64 * off + 64 →
        let w := [max (64 * off) s.cur.hdr.window, s.cur.hdr.window, 0xFF, s.slotNo]
        s.Raises (.mdld da off) 4 w ∧ s.Raises (.mnest da off) 4 w) ∧
      (0 < used → s.Raises (.mqset rq size) 5 [3, rq, 4096 * size, q.cap - used]) ∧
      (used = 0 → s.cur.hdr.allot < others + 4096 * size → s.Raises (.mqset rq size) 5 [2, rq, 4096 * size, s.cur.hdr.allot - others]) ∧
      (used = 0 → others + 4096 * size ≤ s.cur.hdr.allot → s.Completes (.mqset rq size) 1 fun a =>
        { a with rq := Store.set ResQ.init a.rq rq { Store.get ResQ.init a.rq rq with cap := 4096 * size } }))

/-- R169, R178 to R180, R186 to R188: the array. Its head starts, runs, and at its end its tile and its flags land (a drain's flags with its
last row), and the next operation is the head; a product adds to each element of its tile, block by block, the exact dot product of a row of A and a column of B, rounded
once a block; in its 32 clocks a drain, where no byte it reads has changed since its issue, adds to its queue exactly the bytes it promised: each element of
its tile plus the offset of its column, scaled by its shift and rectified, in the format, row by row, for np8 with the scale codes behind. Its
tile does not change; the flags are those of every element.
R84, R87, R88, R91, R92: the arithmetic of blocks. A nested read is the sum of its planes, the first the sign's, and is the full value
rounded down; the dot product of two blocks is exact; each addition into an accumulator is the exact sum encoded once, a product of 0
leaving it as it is; a block is encoded under the least scale that holds its largest magnitude, each element rounded and saturated.
Chains, the clocks at which the bytes of a drain land, and what a race leaves are the model's reading (log entries 29 and 19). -/
def Obligations.MatrixArray : Prop :=
   ((∀ (s : State) (core : Nat) (t : Task) (o : ArrayOp) (rest : List ArrayOp), s.runner core = some t → t.array = o :: rest →
      let ended := fun (a : Arch) => exec (.arrayOpEnd core) s = .next (s.putTask { t with array := rest, arch := a })
      (o.started = false → exec (.arrayOpStart core) s = .next (s.putTask { t with array := { o with started := true } :: rest })) ∧
      (o.started = true → o.clocks ≤ o.done →
        (o.kind = .zero → ended { t.arch with tiles := Store.set [] t.arch.tiles o.tile [] }) ∧
        (∀ rq f r sh off, o.kind = .drain rq f r sh off → ended t.arch) ∧
        (∀ z da db kb n a b idx, o.kind = .mma z da db kb n a b idx →
          let add := fun (r c acc k : Nat) =>
            accAdd acc (npBlockDot (o.block t.win a (aAddr a n idx r k)) (odQ a) (o.scale t.win a (aAddr a n idx r k) r k)
              (o.block t.win b (bAddr b c k)) (odQ b) (o.scale t.win b (bAddr b c k) c k) o.tctl) o.tctl
          let sum := fun (r c k : Nat) => (List.range k).foldl (fun acc k => (add r c acc k).1)
            (if z = true then 0 else ((Store.get [] t.arch.tiles o.tile).getD (128 * r + c) 0).toNat)
          ∃ tile fl, ended { t.arch with tiles := Store.set [] t.arch.tiles o.tile tile, tstat := t.arch.tstat ||| fl } ∧ tile.length = 16384 ∧
            (∀ r c, r < 128 → c < 128 → tile.getD (128 * r + c) 0 = BitVec.ofNat 32 (sum r c kb)) ∧
            ∀ i, fl.getLsbD i = true ↔ ∃ r c k, r < 128 ∧ c < 128 ∧ k < kb ∧ (add r c (sum r c k) k).2.getLsbD i = true))) ∧
    ∀ (t : Task) (o : ArrayOp) (rest : List ArrayOp) (rq : Nat) (f : DrainFmt) (relu : Bool) (sh : Option Int) (off : Option Nat),
      t.array = o :: rest → o.kind = .drain rq f relu sh off → o.started = true → o.clocks = 32 → o.done = 0 → o.rest = [] →
      o.flags = 0 → o.snap = t.win → o.mids = [] →
      Store.sorted t.arch.rq = true →
      let u := (List.range 32).foldl (fun t _ => t.arrayClock) t
      let q := t.arch.queue rq
      let r := u.arch.queue rq
      let y := fun (i c : Nat) =>
        let x := srcF .fp32 o.tctl ((Store.get [] t.arch.tiles o.tile).getD (128 * i + c) 0).toNat
        let v : FVal × Flags := match off with
          | some b => FVal.add o.tctl.rm x (srcF .fp32 o.tctl (leNat ((List.range 4).map fun k => t.win.byte (b + 4 * c + k))))
          | none => (x, 0)
        let z := match v.1, sh with | .fin n m e, some k => FVal.fin n m (e + k) | a, _ => a
        (if relu = true ∧ z.isNan = false ∧ z.isNeg = true then FVal.fin false 0 0 else z, v.2)
      let fp : Option Fmt := match f with
        | .fp32 => some Fmt.fp32 | .bf16 => some Fmt.bf16 | .fp16 => some Fmt.fp16 | .e4m3 => some Fmt.e4m3 | .e5m2 => some Fmt.e5m2 | _ => none
      let block := fun (i b : Nat) => npEncodeBlock ((List.range 64).map fun k => (y i (64 * b + k)).1) 8 o.tctl
      let got := fun (i : Nat) => r.data.getD (q.data.length + i) 0
      let own := fun (i c : Nat) => match fp with
        | some fm => (encodeF fm o.tctl (y i c).1).2
        | none => if f = .i8 then (toIntF (y i c).1 8 true o.tctl.rm).2 else (block i (c / 64)).2.2
      ((List.range 31).foldl (fun t _ => t.arrayClock) t).arch.tstat = t.arch.tstat ∧
      (∃ fl, u.arch.tstat = t.arch.tstat ||| fl ∧
        ∀ k, fl.getLsbD k = true ↔ ∃ i c, i < 128 ∧ c < 128 ∧ ((y i c).2 ||| own i c).getLsbD k = true) ∧
      u.arrayDue = true ∧ u.arch.tiles = t.arch.tiles ∧ u.win = t.win ∧ r.data.length = q.data.length + drainBytes f ∧
      r.data.take q.data.length = q.data ∧ r.promised = q.promised - drainBytes f ∧ r.cap = q.cap ∧ r.retained = q.retained ∧
      (∀ fm, fp = some fm → ∀ i c k, i < 128 → c < 128 → k < fm.w / 8 →
        got (16 * fm.w * i + fm.w / 8 * c + k) = BitVec.ofNat 8 ((encodeF fm o.tctl (y i c).1).1 / 256 ^ k)) ∧
      (f = .i8 → ∀ i c, i < 128 → c < 128 → got (128 * i + c) = BitVec.ofInt 8 (toIntF (y i c).1 8 true o.tctl.rm).1) ∧
      (f = .np8 → ∀ i b, i < 128 → b < 2 → got (16384 + 2 * i + b) = BitVec.ofNat 8 (block i b).1 ∧
        ∀ j k, j < 8 → k < 64 →
          (got (128 * i + 64 * b + 8 * j + k / 8)).getLsbD (k % 8) = (BitVec.ofInt 8 ((block i b).2.1.getD k 0)).getLsbD (7 - j))) ∧
   ((∀ (blk : List Byte) (q p k : Nat),
      npRead blk q k = ((List.range q).map fun j => if (blk.getD (8 * j + k / 8) 0).getLsbD (k % 8) = true
        then (if j = 0 then -1 else 1) * (2 : Int) ^ (q - 1 - j) else 0).sum ∧
      (1 ≤ q → q ≤ p → npRead blk q k = npRead blk p k / 2 ^ (p - q))) ∧
    (∀ (ab bb : List Byte) (qa sa qb sb : Nat) (t : Tctl),
      (sa = 0xFF ∨ sb = 0xFF → npBlockDot ab qa sa bb qb sb t = .nan) ∧
      (sa < 0xFF → sb < 0xFF → 1 ≤ qa → qa ≤ 16 → 1 ≤ qb → qb ≤ 16 →
        let x := fun (blk : List Byte) (q sc k : Nat) =>
          let y := npRead blk q k
          if t.daz = true ∧ y.natAbs * 2 ^ sc < 2 ^ q then 0 else y
        ∃ n m e, npBlockDot ab qa sa bb qb sb t = .fin n m e ∧ -600 ≤ e ∧
          (if n = true then -(m : Int) else m) * 2 ^ (e + 600).toNat =
            ((List.range 64).map fun k => x ab qa sa k * x bb qb sb k).sum * 2 ^ (sa + sb + 348 - qa - qb))) ∧
    (∀ (acc : Nat) (p : FVal) (t : Tctl),
      let a := srcF .fp32 t acc
      (p.isZero = true → accAdd acc p t = (acc, 0)) ∧
      (p.isZero = false → (p = .nan ∨ a = .nan → accAdd acc p t = (0x7FC00000, 0)) ∧
        ∀ n m e i, p = .fin n m e → a = .inf i → accAdd acc p t = encodeF .fp32 t (.inf i)) ∧
      ∀ n m e an am ae, p = .fin n m e → m ≠ 0 → a = .fin an am ae → ∃ s k g, accAdd acc p t = encodeF .fp32 t (.fin s k g) ∧
        let low := min (min ae e) g
        let at_ := fun (neg : Bool) (x : Nat) (y : Int) => (if neg = true then -1 else 1) * (x : Int) * 2 ^ (y - low).toNat
        at_ s k g = at_ an am ae + at_ n m e ∧ (k = 0 → s = (t.rm == .rdn))) ∧
    ∀ (vs : List FVal) (p : Nat) (t : Tctl), 2 ≤ p → p ≤ 16 →
      let r := npEncodeBlock vs p t
      let bad := ∃ v, v ∈ vs ∧ (v.isNan = true ∨ v.isInf = true)
      let w := vs.map (dazV t)
      r.2.1.length = vs.length ∧
      (bad → r.1 = 0xFF ∧ (∀ x, x ∈ r.2.1 → x = 0) ∧ r.2.2 = if vs.any FVal.isInf = true then Flags.nv else 0) ∧
      (¬ bad → (∀ v, v ∈ w → v.isZero = true) → r.1 = 0 ∧ (∀ x, x ∈ r.2.1 → x = 0) ∧ r.2.2 = 0) ∧
      (¬ bad → (∃ v, v ∈ w ∧ v.isZero = false) → (∀ n m e, FVal.fin n m e ∈ vs → -300 ≤ e) →
        r.1 ≤ 254 ∧
        (r.1 < 254 → ∀ n m e, FVal.fin n m e ∈ w → m * 2 ^ (e + 300).toNat < 2 ^ (r.1 + 173)) ∧
        (0 < r.1 → ∃ n m e, FVal.fin n m e ∈ w ∧ 2 ^ (r.1 + 172) ≤ m * 2 ^ (e + 300).toNat) ∧
        let u : Int := (r.1 : Int) - 126 - p
        let hi : Int := 2 ^ (p - 1) - 1
        let num := fun (m : Nat) (e : Int) => m * 2 ^ (e - u + 600).toNat
        let whole := fun (n : Bool) (m : Nat) (e : Int) => (if n = true then -1 else 1) * (roundQuot t.rm n (num m e) (2 ^ 600) : Int)
        let kept := fun (y : Int) => if y < -hi - 1 then -hi - 1 else if hi < y then hi else y
        let gone := fun (y : Int) => t.ftz = true ∧ y ≠ 0 ∧ y.natAbs * 2 ^ r.1 < 2 ^ p
        (∀ i n m e, w[i]? = some (.fin n m e) →
          (gone (kept (whole n m e)) → r.2.1.getD i 0 = 0) ∧ (¬ gone (kept (whole n m e)) → r.2.1.getD i 0 = kept (whole n m e))) ∧
        ∀ j, r.2.2.getLsbD j = true ↔ ∃ n m e, FVal.fin n m e ∈ w ∧ let y := whole n m e
          (num m e % 2 ^ 600 ≠ 0 ∧ Flags.nx.getLsbD j = true) ∨
          (kept y ≠ y ∧ 2 * hi * 2 ^ 600 < num m e ∧ Flags.ovf.getLsbD j = true) ∨
          (gone (kept y) ∧ (Flags.uf ||| Flags.nx).getLsbD j = true)))

/-- R37, R53, R193 to R198: the loads of the window, and the content that breaks a window descriptor, whose lowest bit is named. A load gives the bytes as they stand at issue, little-endian, six clocks later at
most, LDVX ten, where no copy that is not joined races for them (R206); WDLD serves from the next bundle on; bytes at or beyond the window's size are a window fault, whose word is the lowest.
That the byte named is the least over all elements of LDVX is the model's reading (log entry 14), and that of several bad fields the lowest is named is its choice (log entry 87). -/
def Obligations.WindowLoads : Prop :=  ∀ (s : State) (g : Guard) (vd sd pd wd sa vx imm : Nat), s.guardOn g = true → s.roomV vd → s.roomS sd → s.roomP pd →
    let w := s.cur.hdr.window
    let base := (s.rdS sa).toNat
    let a := base + 128 * imm
    let at_ := fun i => base + elem (s.rdV vx) 32 i
    let byte := fun x => (s.spad x 1).headD 0
    let d := BitVec.ofNat 512 (leNat (s.spad (base + 64 * imm) 64))
    let fault := fun (i : Instr) (x : Nat) => s.Raises i 4 [x, w, 0xFF, s.slotNo]
    (∀ d : BitVec 512, let f := fun lo n => (d.extractLsb' lo n).toNat
      let dims := f 445 3
      let bad := fun (b : Nat) => f b 45 ≠ 0 ∧ b = 400 ∨ (dims = 0 ∨ dims = 7) ∧ b = 445 ∨ 4 ≤ f 448 3 ∧ b = 448 ∨ f 455 1 = 0 ∧ f 451 4 ≠ 0 ∧ b = 451 ∨
        f 456 5 ≠ 0 ∧ b = 456 ∨ (1 ≤ dims ∧ dims ≤ 6 ∧ ∃ k, k < 6 ∧
          (b = 20 * k ∧ (k < dims ∧ f b 20 = 0 ∨ dims ≤ k ∧ f b 20 ≠ 0) ∨
           1 ≤ k ∧ dims ≤ k ∧ (b = 88 + 32 * k ∧ f b 32 ≠ 0 ∨ b = 256 + 24 * k ∧ f b 24 ≠ 0)))
      (wdFault d = none ↔ ∀ b, ¬ bad b) ∧ ∀ b, wdFault d = some b ↔ bad b ∧ ∀ c, bad c → b ≤ c) ∧
    (s.cur.races.alts = [] → ∀ x n, s.spad x n = s.cur.win.read x n) ∧
    (a + 128 ≤ w → ∃ r : VRes, s.GivesV (.ldv g vd sa imm) vd r 6 ∧ r.mask = BitVec.allOnes 128 ∧ r.flags = 0 ∧
      ∀ k, k < 128 → elem r.val 8 k = (byte (a + k)).toNat) ∧
    (w < a + 128 → fault (.ldv g vd sa imm) (max a w)) ∧
    (base + imm + 8 ≤ w → ∃ v : Word, s.GivesS (.lds g sd sa imm) sd v 6 ∧
      ∀ k, k < 8 → v.extractLsb' (8 * k) 8 = byte (base + imm + k)) ∧
    (w < base + imm + 8 → fault (.lds g sd sa imm) (max (base + imm) w)) ∧
    (a + 16 ≤ w → ∃ v : PWord, s.GivesP (.ldp g pd sa imm) pd ⟨v, BitVec.allOnes 128⟩ 6 ∧
      ∀ k, k < 16 → v.extractLsb' (8 * k) 8 = byte (a + k)) ∧
    (w < a + 16 → fault (.ldp g pd sa imm) (max a w)) ∧
    ((∀ i, i < 32 → at_ i + 4 ≤ w) → ∃ r : VRes, s.GivesV (.ldvx g vd sa vx) vd r 10 ∧ r.mask = BitVec.allOnes 128 ∧ r.flags = 0 ∧
      ∀ i, i < 32 → elem r.val 32 i = leNat (s.spad (at_ i) 4)) ∧
    (∀ i, i < 32 → w < at_ i + 4 → (∀ j, j < 32 → w < at_ j + 4 → max (at_ i) w ≤ max (at_ j) w) → fault (.ldvx g vd sa vx) (max (at_ i) w)) ∧
    (base + 64 * imm + 64 ≤ w →
      (∀ b, wdFault d = some b → s.Raises (.wdld g wd sa imm) 0x0D [16 + wd, 6, b, s.slotNo]) ∧
      (wdFault d = none → s.Completes (.wdld g wd sa imm) 1 fun r => { r with wd := Store.set none r.wd wd (some d) })) ∧
    (w < base + 64 * imm + 64 → fault (.wdld g wd sa imm) (max (base + 64 * imm) w))

/-- R193 to R196, R254: the stores to the window. The bytes stand from the next clock on, the lines they touch are logged with what they
held, and every other byte, register and memory is as before; a full log is withhold overflow, reason 1, and stores nothing.
That the byte named is the least over all elements of STVX is the model's reading (log entry 14). -/
def Obligations.WindowStores : Prop :=  (∀ (w : Window) (a : Nat) (bs : List Byte) (x : Nat), Memory.wf w.bytes = true →
    (w.write a bs).byte x = if a ≤ x ∧ x < a + bs.length then bs.getD (x - a) 0 else w.byte x) ∧
  (∀ (t : Task) (a : Nat) (bs : List Byte), (t.put none a bs).win = t.win.write a bs ∧ (t.put none a bs).arch = t.arch ∧
    (t.races = Races.init → (t.put none a bs).races = Races.init)) ∧
  (∀ (t : Task) (ls : List Nat), (t.newLines ls).Nodup ∧ ∀ l, l ∈ t.newLines ls ↔ l ∈ ls ∧ l ∉ t.undo.map (·.line)) ∧
  (∀ a n l, l ∈ linesOf a n ↔ ∃ x, a ≤ x ∧ x < a + n ∧ x / 64 = l) ∧
  ∀ (s : State) (g : Guard) (vd sd pd sa vx imm : Nat), s.guardOn g = true →
    let w := s.cur.hdr.window
    let base := (s.rdS sa).toNat
    let a := base + 128 * imm
    let at_ := fun i => base + elem (s.rdV vx) 32 i
    let all := s.cur.undo.length + (s.cur.newLines ((List.range 32).flatMap fun i => linesOf (at_ i) 4)).length
    let ops := [(Instr.stv g vd sa imm, a, vBytes (s.rdV vd) 0 128), (.sts g sd sa imm, base + imm, leBytes (s.rdS sd).toNat 8),
      (.stp g pd sa imm, a, leBytes (s.rdP pd).toNat 16)]
    (∀ p ∈ ops,
      (w < p.2.1 + p.2.2.length → s.Raises p.1 4 [max p.2.1 w, w, 0xFF, s.slotNo]) ∧
      (p.2.1 + p.2.2.length ≤ w →
        let n := s.cur.undo.length + (s.cur.newLines (linesOf p.2.1 p.2.2.length)).length
        (n ≤ 4096 → s.StoresWith s p.1 p.2.1 p.2.2) ∧ (4096 < n → s.Raises p.1 9 [1, s.cur.undo.length, 4096, s.slotNo]))) ∧
    ((∀ i, i < 32 → at_ i + 4 ≤ w) → 4096 < all → s.Raises (.stvx g vd sa vx) 9 [1, s.cur.undo.length, 4096, s.slotNo]) ∧
    ((∀ i, i < 32 → at_ i + 4 ≤ w) → all ≤ 4096 →
      ∃ t, exec (.stvx g vd sa vx) s = .next t ∧
        t = { s with cur := { s.cur with undo := t.cur.undo, pend := t.cur.pend }, free := t.free, ctx := { s.ctx with out := .ran } } ∧
        (∀ i, i < 32 → ∀ l ∈ linesOf (at_ i) 4, l ∈ t.cur.undo.map (·.line)) ∧
        ∀ u, s.clk + 1 ≤ u → t.cur.settle u =
          (List.range 32).foldl (fun (v : Task) i => v.put none (at_ i) (leBytes (elem (s.rdV vd) 32 i) 4)) { s.cur.settle u with undo := t.cur.undo }) ∧
    (∀ i, i < 32 → w < at_ i + 4 → (∀ j, j < 32 → w < at_ j + 4 → max (at_ i) w ≤ max (at_ j) w) →
      s.Raises (.stvx g vd sa vx) 4 [max (at_ i) w, w, 0xFF, s.slotNo])

/-- R50, R208, R220, R224: where a single-element access stops: an unbound handle, a handle without the mode, an element beyond the range, an
offset that the width does not divide, an atomic whose page class does not allow it at its scope, where the access has not been made ahead.
The element named where an access straddles the end of its range is the model's reading (log entry 35). -/
def Obligations.GlobalFaults : Prop :=  ∀ (s : State) (g : Guard) (h sa sb sd : Nat) (size : GSize) (cs : CSize) (fn : AmoFn) (scope : Scope) (cls : Option Nat), s.guardOn g = true →
    let x := (s.rdS sa).toNat
    let ops := [(Instr.ldg g h size sa sb cls, 1, size.bytes), (.ldsGlobal g sd h sa cls, 1, 8), (.stg g h size sa sb cls, 2, size.bytes),
      (.amoc g h cs sa sb scope, 3, cs.bytes)]
    let fault := fun (i : Instr) (off reason : Nat) => s.Raises i 0x0B [h, off, reason, s.slotNo]
    (s.handleOf h = none → (∀ p ∈ ops, fault p.1 x 1) ∧ fault (.amo g h fn sa sb scope) x 1) ∧
    ∀ b, s.handleOf h = some b →
      let z := elemBytes (s.fmtOf b.hold.id)
      let amo := Instr.amo g h fn sa sb scope
      (b.hold.mode &&& 3 ≠ 3 → fault amo x 2) ∧
      (b.hold.mode &&& 3 = 3 → b.hold.count ≤ x → fault amo (max x b.hold.count) 3) ∧
      (b.hold.mode &&& 3 = 3 → x < b.hold.count → z ≠ 4 → z ≠ 8 → fault amo x 4) ∧
      (b.hold.mode &&& 3 = 3 → x < b.hold.count → z = 4 ∨ z = 8 → (s.coreOf s.core).early = none → ∀ t, s.tensor b.hold.id = some t →
        let coh := s.pageClass t ((b.hold.first + x) * z)
        (coh = 0 → scope ≠ .core → scope ≠ .stack → s.Raises amo 0x18 [h, x, coh, scope.code]) ∧
        (coh = 1 → scope = .group ∨ scope = .system → s.Raises amo 0x18 [h, x, coh, scope.code]) ∧
        (coh = 2 → scope = .group ∨ scope = .system → fn ≠ .add → fn ≠ .xchg → s.Raises amo 0x18 [h, x, coh, scope.code])) ∧
      ∀ p ∈ ops,
        (b.hold.mode &&& p.2.1 ≠ p.2.1 → fault p.1 x 2) ∧
        (b.hold.mode &&& p.2.1 = p.2.1 →
          (b.hold.count * z < x * z + p.2.2 → fault p.1 (max x b.hold.count) 3) ∧
          (x * z + p.2.2 ≤ b.hold.count * z → x * z % p.2.2 ≠ 0 → fault p.1 x 4) ∧
          (x * z + p.2.2 ≤ b.hold.count * z → x * z % p.2.2 = 0 → p.2.1 = 3 → (s.coreOf s.core).early = none → ∀ t, s.tensor b.hold.id = some t →
            let coh := s.pageClass t ((b.hold.first + x) * z)
            (coh = 0 → scope ≠ .core → scope ≠ .stack → s.Raises p.1 0x18 [h, x, coh, scope.code]) ∧
            (coh = 1 → scope = .group ∨ scope = .system → s.Raises p.1 0x18 [h, x, coh, scope.code])))

/-- R221 to R223, R267, R270, R271, R277, R346: single-element accesses that meet no error and have not been made ahead. On an element of the
device, LDG and LDS give the bytes that the core sees; STG of class 0 writes its bytes, and no other byte of any memory, to memory or, on an NC page, to
where only its own stack sees them; a store of another class is kept back; an atomic gives the old value and writes a new one, AMOC only where
the comparison succeeds. A store kept back enters the global order before a load of its class or of class 0; a load of another class gives the
older value. Through a proxy, a load gives some value and a store leaves this device as it is (log entry 61), and an atomic needs the permission. A value
is read at issue (log entry 22).
That an atomic is one step for every agent is the model's reading (log entry 36); which errors it meets is the world's (log entry 71). -/
def Obligations.GlobalAccesses : Prop :=  (∀ (s : State) (q : NcStore) (rest : List NcStore) (ag : Agent) (y : Nat),
    (s.nc = [] → s.readByte ag y = Memory.byte s.mem y) ∧
    (s.nc = rest ++ [q] →
      let seen := q.addr ≤ y ∧ y < q.addr + q.bytes.length ∧ (ag.stack = some q.stack ∨ ag.scope ≤ q.reach)
      (seen → s.readByte ag y = q.bytes.getD (y - q.addr) 0) ∧ (¬seen → s.readByte ag y = ({ s with nc := rest } : State).readByte ag y))) ∧
  ∀ (s : State) (g : Guard) (h sa sb sd : Nat) (size : GSize) (cs : CSize) (fn : AmoFn) (scope : Scope) (cls : Option Nat) (b : Binding),
    s.guardOn g = true → s.roomS sb → s.roomS sd → (s.coreOf s.core).meets = none → (s.coreOf s.core).early = none → s.handleOf h = some b →
    let x := (s.rdS sa).toNat
    let v := (s.rdS sb).toNat
    let c := s.classOf cls
    let kept := fun (off : Nat) => ({ s with cur := { s.cur with
      stores := s.cur.stores ++ [(⟨c, s.cur.place, b.hold.id, off, leBytes v size.bytes, s.time, s.slotNo, s.ctx.pos⟩ : PStore)], place := s.cur.place + 1 } } : State);
    (∀ (t : Tensor) (p : PageEnt), s.tensor b.hold.id = some t → Memory.wf s.mem = true → isProxy b.hold.id = false →
      let z := elemBytes t.fmt
      let off := (b.hold.first + x) * z
      let e := t.entry (off / t.pageBytes)
      let a := pageAddr e (off % t.pageBytes)
      let old := fun n => leNat ((List.range n).map fun i => s.readByte (Agent.onStack s.stackNo) (a + i))
      let fits := fun n => x * z + n ≤ b.hold.count * z ∧ x * z % n = 0 ∧ off % t.pageBytes + n ≤ t.pageBytes
      let into := fun (n : Nat) (v : Nat) => (if p.coh = 0 then { s with nc := [⟨a, leBytes v n, s.stackNo, 2, s.cur.id, none⟩] }
        else { s with mem := Memory.setBytes s.mem a (leBytes v n) } : State)
      e ≠ 0 → s.page e = some p → s.meet t off 8 = none →
      (∀ n v, p.coh ≠ 0 → (∀ k, k < n → Memory.byte (into n v).mem (a + k) = (leBytes v n).getD k 0) ∧
        ∀ y, y < a ∨ a + n ≤ y → Memory.byte (into n v).mem y = Memory.byte s.mem y) ∧
      (s.cur.stores = [] →
        (b.hold.mode &&& 1 = 1 →
          (fits size.bytes → s.GivesS (.ldg g h size sa sb cls) sb (BitVec.ofNat 64 (old size.bytes)) 1) ∧
          (fits 8 → s.GivesS (.ldsGlobal g sd h sa cls) sd (BitVec.ofNat 64 (old 8)) 1)) ∧
        (s.nc = [] → b.hold.mode &&& 2 = 2 → fits size.bytes → c = 0 → s.Does (.stg g h size sa sb cls) (into size.bytes v)) ∧
        (s.nc = [] → b.hold.mode &&& 3 = 3 →
          (fits cs.bytes → atomicOk p.coh scope true = true →
            s.CompletesWith (if old cs.bytes = v % 2 ^ (8 * cs.bytes) then into cs.bytes ((s.rdS (sb + 1)).toNat % 2 ^ (8 * cs.bytes)) else s)
              (.amoc g h cs sa sb scope) 1 (s.setS sb (BitVec.ofNat 64 (old cs.bytes)) 0)) ∧
          (z = 4 ∨ z = 8 → fits z → atomicOk p.coh scope (fn == .add || fn == .xchg) = true →
            s.CompletesWith (into z (amoNew fn (8 * z) (old z) (v % 2 ^ (8 * z)))) (.amo g h fn sa sb scope) 1
              (s.setS sb (BitVec.ofNat 64 (old z)) 0)))) ∧
      (b.hold.mode &&& 2 = 2 → fits size.bytes → c ≠ 0 → s.Does (.stg g h size sa sb cls) (kept off)) ∧
      ∀ (q : PStore) (p1 : PageEnt), s.cur.stores = [q] → s.cur.fences = [] → s.cur.id ≠ 0 → s.nc = [] → q.tensor = b.hold.id →
        let e1 := t.entry (q.offset / t.pageBytes)
        let s1 : State := { s with mem := Memory.setBytes s.mem (pageAddr e1 (q.offset % t.pageBytes)) q.bytes, cur := { s.cur with stores := [] } }
        s.page e1 = some p1 → p1.coh ≠ 0 → q.offset % t.pageBytes + q.bytes.length ≤ t.pageBytes →
        s.meet t q.offset q.bytes.length = none → b.hold.mode &&& 1 = 1 → fits size.bytes →
        (c = 0 ∨ c = q.cls → s.CompletesWith s1 (.ldg g h size sa sb cls) 1 (s.setS sb (BitVec.ofNat 64 (leNat (Memory.bytes s1.mem a size.bytes))) 0)) ∧
        (c ≠ 0 → c ≠ q.cls → s.GivesS (.ldg g h size sa sb cls) sb (BitVec.ofNat 64 (leNat (Memory.bytes s.mem a size.bytes))) 1)) ∧
    ∀ e : ImportEnt, isProxy b.hold.id = true → s.tensor b.hold.id = none → Store.look s.imports (importKey b.hold.id) = some e → s.cur.stores = [] →
      let z := elemBytes e.fmt
      let fits := fun n => x * z + n ≤ b.hold.count * z ∧ x * z % n = 0;
      (b.hold.mode &&& 1 = 1 → fits size.bytes → ∃ y, y < 2 ^ (8 * size.bytes) ∧
        s.CompletesWith s.used (.ldg g h size sa sb cls) 1 (s.setS sb (BitVec.ofNat 64 y) 0)) ∧
      (b.hold.mode &&& 2 = 2 → fits size.bytes → (c = 0 → s.NoEffect (.stg g h size sa sb cls)) ∧
        (c ≠ 0 → s.Does (.stg g h size sa sb cls) (kept ((b.hold.first + x) * z)))) ∧
      (b.hold.mode &&& 3 = 3 → z = 4 ∨ z = 8 → fits z →
        (e.perms.testBit 2 = true → ∃ y, y < 2 ^ (8 * z) ∧ s.CompletesWith s.used (.amo g h fn sa sb scope) 1 (s.setS sb (BitVec.ofNat 64 y) 0)) ∧
        (e.perms.testBit 2 = false → s.Raises (.amo g h fn sa sb scope) 0x10 [b.hold.id, x, 5, s.slotNo]))

/-- R222: the value that each AMO function leaves, of an element of n bits and a second operand of n bits.
R225, R270, R277: FENCE. It changes no memory without FLUSH, and nothing where no store of the task is still to come; every pending store
of a class of its mask then comes before every later access of those classes. With FLUSH, the task's stores to non-coherent pages reach
the scope: every agent that lies within it reads them, and one that they had reached reads them still; those that were kept back enter the global order.
No register and no window byte changes. -/
def Obligations.AtomicsAndFences : Prop :=
   (∀ (n old b : Nat), 0 < n → old < 2 ^ n → b < 2 ^ n →
      let sg := fun (x : Nat) => if x < 2 ^ (n - 1) then (x : Int) else (x : Int) - 2 ^ n
      amoNew .add n old b = (old + b) % 2 ^ n ∧ amoNew .xchg n old b = b ∧
      (∀ i, (amoNew .and n old b).testBit i = (old.testBit i && b.testBit i)) ∧ (∀ i, (amoNew .or n old b).testBit i = (old.testBit i || b.testBit i)) ∧
      (∀ i, (amoNew .xor n old b).testBit i = (old.testBit i != b.testBit i)) ∧
      amoNew .min n old b = (if sg b < sg old then b else old) ∧ amoNew .max n old b = (if sg old < sg b then b else old) ∧
      amoNew .minu n old b = (if b < old then b else old) ∧ amoNew .maxu n old b = (if old < b then b else old)) ∧
   (∀ (s : State) (g : Guard) (scope : Scope) (mask : Nat), s.guardOn g = true →
      let s1 : State := if s.cur.stores = [] then s
        else { s with cur := { s.cur with fences := s.cur.fences ++ [(⟨s.cur.place, mask⟩ : FenceAt)], place := s.cur.place + 1 } }
      s.Does (.fence g scope mask false) s1 ∧ s.Does (.fence g scope mask true) (s1.flush scope.code) ∧
      (let u := s1.flush scope.code;
        u.cur.arch = s.cur.arch ∧ u.cur.win = s.cur.win ∧ u.cur.pend = s.cur.pend ∧ u.pages = s.pages ∧
        (s.cur.id ≠ 0 → ∀ p ∈ u.cur.stores, p ∈ s.cur.stores ∧ s.ncStore p = false) ∧
        (s.cur.stores = [] → Memory.wf s.mem = true → ∀ (ag : Agent) (y : Nat), ag.scope ≤ 5 →
          u.readByte ag y = ({ s with nc := s.nc.map fun (n : NcStore) =>
            if n.task = s.cur.id ∧ n.copy = none then { n with reach := max n.reach scope.code } else n } : State).readByte ag y)) ∧
      (∀ p ∈ s.cur.stores, p.place < s.cur.place → mask.testBit p.cls = true → ∀ c, mask.testBit c = true →
        p.before s1.cur.fences s1.cur.place c = true) ∧
      ∀ place c, let d := dueStores s.cur.fences place c s.cur.stores
        (d.1 ++ d.2).length = s.cur.stores.length ∧
        ∀ p ∈ s.cur.stores, (p ∈ d.1 ∨ p ∈ d.2) ∧ (p.before s.cur.fences place c = true → p ∈ d.1))

/-- R197, R200 to R205, R208, R217, R244: the ten copies and CFLUSH. The checks of R203 are made in their order, each given here by what breaks it and by
the words of its record (R196, R208), and the first that fails is raised; else one copy more exists, with the accesses of R199 to R201, which its token
names, PENDING; a copy-out takes a place in the held queue and moves nothing before its release. A CPQO or a CPQF pops its queue: fewer bytes than it asks
for are an underflow (R191, R192), and while some of them have not landed the bundle holds (R40, R188). That it holds, where R204 speaks of bytes that leave as they
land, is log entry 29.
The core and the element that a record names where several fail are the model's choice (log entries 74 and 75); word 2 for a frozen engine is its reading (log entry 31). -/
def Obligations.CopyIssue : Prop :=  -- the extents and strides of a descriptor (R197), the index of an element in a dimension and its place under strides (R199)
  let dims := fun (d : BitVec 512) => bf d 445 3
  let ext := fun (d : BitVec 512) (k : Nat) => bf d (20 * k) 20
  let esz := fun (d : BitVec 512) => 2 ^ bf d 448 3
  let spadStride := fun (d : BitVec 512) (k : Nat) => if k = 0 then esz d else bf d (280 + 24 * (k - 1)) 24
  let tensStride := fun (d : BitVec 512) (k : Nat) => if k = 0 then 1 else bf d (120 + 32 * (k - 1)) 32
  let count := fun (d : BitVec 512) => (List.range (dims d)).foldl (fun a k => a * ext d k) 1
  let place := fun (d : BitVec 512) (stride : Nat → Nat) (n : Nat) =>
    ((List.range (dims d)).map fun k => n / (List.range k).foldl (fun a j => a * ext d j) 1 % ext d k * stride k).sum
  let least := fun (p : Nat → Prop) (n : Nat) => p n ∧ ∀ m, m < n → ¬p m
  -- step 1: the descriptor
  (∀ (s : State) (kind : CopyKind) (k sb : Nat) (range : Option Hold),
    let w := s.cur.hdr.window
    let bad := fun (reason word : Nat) => s.copyDesc kind k sb range = some (s.raise 0x0D [16 + k, reason, word, s.slotNo])
    let rows := kind = .cpga ∨ kind = .cpsc
    let chain := if kind = .cpxf then s.chainAt sb 8 else .inr []
    (∀ r, chain = .inl r → s.copyDesc kind k sb range = some r) ∧
    ∀ l, chain = .inr l →
      (Store.get none s.cur.arch.wd k = none → bad 1 0) ∧
      ∀ d, Store.get none s.cur.arch.wd k = some d →
        let list := ext d 1 = 0 ∨ sb + 4 * ext d 1 ≤ w
        let far := fun (j : Nat) => j < ext d 1 ∧ s.spadNat (sb + 4 * j) 4 ≠ 0xFFFFFFFF ∧
          ∃ h, range = some h ∧ h.count < s.spadNat (sb + 4 * j) 4 * tensStride d 1 + ext d 0
        let cores := (List.range 48).filter fun n => (bf d 464 48).testBit n
        let depth := recLevels (s.launchRec s.cur)
        let named := kind = .cpmc ∧ bf d 464 48 ≠ 0 ∨ kind = .cpqf ∧ cores.length = 1
        (rows → ¬list → s.copyDesc kind k sb range = some (s.raise 4 [max sb w, w, 0xFF, s.slotNo])) ∧
        (rows → list → (dims d ≠ 2 → bad 3 445) ∧ (dims d = 2 → 65536 < ext d 1 → bad 3 20) ∧
          (dims d = 2 → ext d 1 ≤ 65536 → ∀ j, least far j → bad 5 j)) ∧
        ((rows → list ∧ dims d = 2 ∧ ext d 1 ≤ 65536 ∧ ∀ j, ¬far j) →
          (kind = .cpmc ∨ kind = .cpqf → ¬named → bad 7 464) ∧ (named → depth ≤ bf d 461 3 → bad 7 461) ∧
          (named → bf d 461 3 < depth → ∀ n, least (fun n => n ∈ cores ∧ s.targetOn (bf d 461 3) n = none) n → bad 7 (464 + n)) ∧
          ((kind = .cpmc ∨ kind = .cpqf → named ∧ bf d 461 3 < depth ∧ ∀ n ∈ cores, s.targetOn (bf d 461 3) n ≠ none) →
            let differ := kind ≠ .cpqf ∧ ∃ h, range = some h ∧ elemBytes (s.fmtOf h.id) ≠ esz d
            (differ → bad 8 448) ∧
            (¬differ → (∀ n, s.chainFault l 0 (wdBytes d) = some n → bad 9 n) ∧
              (s.chainFault l 0 (wdBytes d) = none → s.copyDesc kind k sb range = none))))) ∧
  -- the chain of a CPXF: its blocks, and the first one that is malformed
  (∀ (s : State) (off n : Nat), s.chainAt off 0 = .inr [] ∧
    (s.cur.hdr.window < off + 64 → s.chainAt off (n + 1) = .inl (s.raise 4 [max off s.cur.hdr.window, s.cur.hdr.window, 0xFF, s.slotNo])) ∧
    (off + 64 ≤ s.cur.hdr.window → let b := s.spad off 64
      ((recF b 2 2).testBit 0 = true → s.chainAt off (n + 1) = .inr [b]) ∧
      ((recF b 2 2).testBit 0 = false → (∀ r, s.chainAt (recF b 4 4) n = .inl r → s.chainAt off (n + 1) = .inl r) ∧
        ∀ l, s.chainAt (recF b 4 4) n = .inr l → s.chainAt off (n + 1) = .inr (b :: l)))) ∧
  (∀ (s : State) (b : List Byte) (l : List (List Byte)) (n input : Nat),
    let last := (recF b 2 2).testBit 0
    let malformed := n = 7 ∧ last = false ∨ 1 < recF b 2 2 ∨ n ≠ 0 ∧ recF b 12 4 ≠ 0 ∨ recF b 8 4 = 0 ∨ last = false ∧ 262144 < recF b 8 4 ∨
      recF b 0 2 ∉ s.routines ∨ routineRejects b input = true
    s.chainFault [] n input = none ∧ (malformed → s.chainFault (b :: l) n input = some n) ∧
    (¬malformed → s.chainFault (b :: l) n input = s.chainFault l (n + 1) (recF b 8 4))) ∧
  -- steps 2 and 3: the windows and the hold
  (∀ (s : State) (kind : CopyKind) (d : BitVec 512) (h sa sb o : Nat),
    let moved := fun (n : Nat) => n < count d ∧ (kind = .cpsc → n / ext d 0 < ext d 1 → s.spadNat (sb + 4 * (n / ext d 0)) 4 ≠ 0xFFFFFFFF)
    let outside := fun (w b : Nat) => w ≤ b ∧ ∃ n, moved n ∧ sa + place d (spadStride d) n ≤ b ∧ b < sa + place d (spadStride d) n + esz d
    let far := fun (x : Nat) (c : Nat) => c ≤ x ∧ ∃ n, n < count d ∧ x = o + place d (tensStride d) n
    let hold := fun (x reason : Nat) => s.copyHold kind d h o = some (s.raise 0x0B [h, x, reason, s.slotNo])
    (kind = .cpin ∨ kind = .cpga ∨ kind = .cpout ∨ kind = .cpsc →
      (∀ b, least (outside s.cur.hdr.window) b → s.copyWin kind d sa sb = some (s.raise 4 [b, s.cur.hdr.window, 0xFF, s.slotNo])) ∧
      ((∀ b, ¬outside s.cur.hdr.window b) → s.copyWin kind d sa sb = none)) ∧
    (kind = .cpmc ∨ kind = .cpqf →
      (∀ l t m, s.targetsOf d = l ++ t :: m → (∀ x ∈ l, ∀ b, ¬outside x.hdr.window b) → ∀ b, least (outside t.hdr.window) b →
        s.copyWin kind d sa sb = some (s.raise 4 [b, t.hdr.window, if t.id = s.cur.id then 0xFF else t.core, s.slotNo])) ∧
      ((∀ t ∈ s.targetsOf d, ∀ b, ¬outside t.hdr.window b) → s.copyWin kind d sa sb = none)) ∧
    (kind = .cpxf → ∀ l b, s.chainAt sb 8 = .inr (l ++ [b]) →
      (recF b 8 4 ≠ 0 → s.cur.hdr.window < sa + recF b 8 4 →
        s.copyWin kind d sa sb = some (s.raise 4 [max sa s.cur.hdr.window, s.cur.hdr.window, 0xFF, s.slotNo])) ∧
      (recF b 8 4 = 0 ∨ sa + recF b 8 4 ≤ s.cur.hdr.window → s.copyWin kind d sa sb = none)) ∧
    (kind = .cpqo ∨ kind = .cpfl → s.copyWin kind d sa sb = none) ∧
    (kind = .cpqf → s.copyHold kind d h o = none) ∧
    (kind ≠ .cpqf → (s.handleOf h = none → hold o 1) ∧ ∀ x, s.handleOf h = some x →
      (x.hold.mode.testBit (if kind.out = true ∧ kind ≠ .cpmc then 1 else 0) = false → hold o 2) ∧
      (x.hold.mode.testBit (if kind.out = true ∧ kind ≠ .cpmc then 1 else 0) = true →
        (kind = .cpga ∨ kind = .cpsc → s.copyHold kind d h o = none) ∧
        (kind ≠ .cpga → kind ≠ .cpsc →
          (∀ y, least (fun y => far y x.hold.count) y → hold y 3) ∧ ((∀ y, ¬far y x.hold.count) → s.copyHold kind d h o = none)))) ∧
    (64 ≤ s.cur.heldq.length → s.placeFault = some (s.raise 9 [2, s.cur.heldq.length, 64, s.slotNo])) ∧
    (s.cur.heldq.length < 64 → s.placeFault = none)) ∧
  -- the accesses of a copy, by ordinal
  (∀ (s : State) (kind : CopyKind) (d : BitVec 512) (sa sb o base n : Nat) (data : Nat → List Byte),
    let x := Store.look (s.copyList kind d sa sb o base data) n
    let spad := sa + place d (spadStride d) n
    let tens := base + esz d * (o + place d (tensStride d) n)
    let row := s.spadNat (sb + 4 * (n / ext d 0)) 4
    (count d ≤ n → x = none) ∧
    (n < count d →
      (kind = .cpin ∨ kind = .cpout ∨ kind = .cpmc → x = some ⟨some tens, some spad, []⟩) ∧ (kind = .cpxf → x = some ⟨some tens, none, []⟩) ∧
      (kind = .cpqo ∨ kind = .cpfl → x = some ⟨some tens, none, data n⟩) ∧ (kind = .cpqf → x = some ⟨none, some spad, data n⟩) ∧
      (n / ext d 0 < ext d 1 →
        (row = 0xFFFFFFFF → (kind = .cpga → x = some ⟨none, some spad, List.replicate (esz d) 0⟩) ∧ (kind = .cpsc → x = none)) ∧
        (row ≠ 0xFFFFFFFF → kind = .cpga ∨ kind = .cpsc →
          x = some ⟨some (base + esz d * (row * tensStride d 1 + n % ext d 0)), some spad, []⟩)))) ∧
  -- the order of the checks, and the copy that starts
  ∀ (s : State) (g : Guard) (h k sa sb rq : Nat) (cls : Option Nat), s.guardOn g = true →
    let a := (s.rdS sa).toNat
    let b := (s.rdS sb).toNat
    let plain := [(Instr.cpin g h k sa sb cls, CopyKind.cpin, a, 0, b), (.cpout g h k sa sb cls, .cpout, a, 0, b),
      (.cpmc g h k sa sb cls, .cpmc, a, 0, b), (.cpga g h k sa sb cls, .cpga, a, b, 0), (.cpsc g h k sa sb cls, .cpsc, a, b, 0),
      (.cpxf g h k sa sb cls, .cpxf, a, b, s.spadNat (b + 12) 4), (.cpfl g h k sa sb cls, .cpfl, 0, 0, b)]
    let queued := [(Instr.cpqo g h k sa rq cls, CopyKind.cpqo, h, 0, a), (.cpqf g k sa rq, .cpqf, 0, a, 0)]
    let d := (Store.get none s.cur.arch.wd k).getD 0
    let starts := fun (i : Instr) (kind : CopyKind) (ok : Copy → Prop) => ∃ t, exec i s = .next t ∧ t.ctx = { s.ctx with out := .ran } ∧
      ∃ c, t.copies = s.copies ++ [c] ∧ ok c ∧ c.id = s.nextCopy ∧ t.nextCopy = s.nextCopy + 1 ∧ c.kind = kind ∧ c.task = s.cur.id ∧ c.num = k ∧
        c.fresh = true ∧ c.st = (if kind.out = true then .held else .active) ∧
        (t.cur.arch.token k).st = .pending ∧ s.nextCopy ∈ (t.cur.arch.token k).copies ∧
        t.cur.heldq = (if kind.out = true then s.cur.heldq ++ [⟨.copy s.nextCopy, s.ctx.pos⟩] else s.cur.heldq) ∧
        t.cur.win = s.cur.win ∧ t.cur.pend = s.cur.pend ∧ t.cur.arch.s = s.cur.arch.s ∧ t.cur.arch.v = s.cur.arch.v ∧
        t.cur.stores = s.cur.stores ∧ t.mem = s.mem ∧ t.nc = s.nc
    -- what the copy is, beside the accesses: the range, the class, the bytes, the targets and the barrier of its descriptor
    let made := fun (kind : CopyKind) (h : Nat) (sa sb o : Nat) (data : Nat → List Byte) (c : Copy) =>
      let r := (s.copyRange kind h).getD ⟨0, 0, 0, 0⟩
      c.todo = s.copyList kind d sa sb o (r.first * esz d) data ∧ c.hold = r ∧ c.esz = esz d ∧ c.bytes = esz d * count d ∧
        c.barrier = (if bf d 455 1 = 1 then some (bf d 451 4) else none) ∧
        c.targets = (if kind = .cpmc ∨ kind = .cpqf then (s.targetsOf d).map (·.id) else []) ∧
        c.cls = (if kind = .cpqf then 0 else cls.getD s.tctl.acls)
    Store.sorted s.cur.arch.k = true → (∀ c ∈ s.copies, c.id ≠ s.nextCopy) →
    (∀ p ∈ plain,
      let range := s.copyRange p.2.1 h
      let full := if p.2.1.out = true then s.placeFault else none
      (∀ r, s.copyDesc p.2.1 k p.2.2.2.1 range = some r → exec p.1 s = .next (s.takeRaise r)) ∧
      (s.copyDesc p.2.1 k p.2.2.2.1 range = none →
        (∀ r, s.copyWin p.2.1 d p.2.2.1 p.2.2.2.1 = some r → exec p.1 s = .next (s.takeRaise r)) ∧
        (s.copyWin p.2.1 d p.2.2.1 p.2.2.2.1 = none →
          (∀ r, s.copyHold p.2.1 d h p.2.2.2.2 = some r → exec p.1 s = .next (s.takeRaise r)) ∧
          (s.copyHold p.2.1 d h p.2.2.2.2 = none →
            (∀ r, full = some r → exec p.1 s = .next (s.takeRaise r)) ∧
            (full = none → (s.coreOf s.core).walkFrozen = false → (s.coreOf s.core).xfFrozen = false →
              starts p.1 p.2.1 (made p.2.1 h p.2.2.1 p.2.2.2.1 p.2.2.2.2 fun _ => leBytes (if p.2.1 = .cpfl then a else 0) (esz d))))))) ∧
    (∀ p ∈ queued,
      s.copyDesc p.2.1 k 0 (s.copyRange p.2.1 p.2.2.1) = none → s.copyWin p.2.1 d p.2.2.2.1 0 = none → s.copyHold p.2.1 d p.2.2.1 p.2.2.2.2 = none →
      let q := s.cur.arch.queue rq
      let n := wdBytes d
      (q.data.length + q.promised < n → s.Raises p.1 6 [rq, n, q.data.length + q.promised, 0]) ∧
      (n ≤ q.data.length + q.promised → q.data.length < n → s.Holds p.1) ∧
      (n ≤ q.data.length → 64 ≤ s.cur.heldq.length → s.Raises p.1 9 [2, s.cur.heldq.length, 64, s.slotNo]) ∧
      (n ≤ q.data.length → s.cur.heldq.length < 64 → (s.coreOf s.core).walkFrozen = false → (s.coreOf s.core).xfFrozen = false →
        starts p.1 p.2.1 (made p.2.1 p.2.2.1 p.2.2.2.1 0 p.2.2.2.2 fun i => (q.data.drop (esz d * i)).take (esz d)))) ∧
    (s.handleOf h = none → s.Raises (.cflush g h k sa sb) 0x0B [h, a, 1, s.slotNo]) ∧
    (∀ r, s.handleOf h = some r →
      (r.hold.count < a + b → s.Raises (.cflush g h k sa sb) 0x0B [h, max a r.hold.count, 3, s.slotNo]) ∧
      (a + b ≤ r.hold.count → (s.coreOf s.core).walkFrozen = false →
        starts (.cflush g h k sa sb) .cflush fun c => c.todo = [] ∧ c.hold = r.hold ∧ c.bytes = b * elemBytes (s.fmtOf r.hold.id)))

/-- R197, R199, R202, R205, R207, R209, R218: one element access of a copy, by the side that it has, and its completion. What is read of the tensor, or is brought
along (the bytes popped for a CPQF, the zeros of a row that a CPGA leaves out, the output of a chain), is put at its place in the
window, and no other byte changes; the lines that a copy-in of the present interval writes are logged first, and it fails where the log has no room for
them. A CPMC or a CPQF puts the bytes into each target's window whose gang stands. A copy-out writes the window's bytes, or what writes that race with it
leave, or what it brings (CPQO, CPFL), to the tensor. A CPXF keeps what it reads for its chain. A copy with no access left that completes is
DONE, and so is a token all of whose copies are complete; no memory and no window changes then.
R216 to R218: the transform core. A chain goes on, where its core is free, with what its link reads: the bytes read of the window, in
order, or the output of the link before. A shipped routine's output, with zeros up to what the link declares, is the next link's, or goes
to the window byte by byte; more than is declared ends the copy with reason 10. A routine of another image runs from the instruction memory,
one instruction a turn of its core: those of RV64IMC and of V on integers; an access or a fetch outside its buffers is a violation, and an
instruction of no such set a violation or an error.
When an access of a copy is made is the model's choice (log entry 22), and so is which racing value is left (log entry 19); the instructions of the transform core are those of the RISC-V manual, and how a routine is entered and served is open (log entry 91). -/
def Obligations.CopyMoves : Prop :=
   ((∀ (s : State) (c : Copy) (ord : Nat) (x : Access) (t : Task), s.taskOf c.task = some t →
      -- bytes put into the task's own window
      (let put := fun (u : State) (a : Nat) (bs : List Byte) =>
          let ls := linesOf a bs.length
          let new := t.newLines ls
          (c.fresh = false → u = s.putTask (t.put (some c.id) a bs)) ∧
          (c.fresh = true → t.undo.length + new.length ≤ 4096 → u = s.putTask ((t.log ls).put (some c.id) a bs) ∧
            (t.log ls).undo = t.undo ++ new.map fun l => ⟨l, t.win.read (64 * l) 64⟩) ∧
          (c.fresh = true → 4096 < t.undo.length + new.length → u = s.taskFault c.task 9 c.slot [1, t.undo.length, 4096, c.slot] c.pos) ∧
          (t.put (some c.id) a bs).win = t.win.write a bs;
        (∀ a, x.tens = none → x.spad = some a → c.kind = .cpga ∨ c.kind = .cpxf → put (s.copyStep c ord x) a x.data) ∧
        (∀ (n : Tensor) (off : Nat), s.tensor c.hold.id = some n → x.tens = some off → s.meet n off c.esz = none →
          let bs := s.tensorBytes (Agent.onStack (c.core / 12)) n off c.esz
          let written := fun (bs : List Byte) => s.writeTensor (Agent.onStack (c.core / 12)) c.task (some c.id) n off bs
          (∀ a, x.spad = some a →
            (c.kind = .cpin ∨ c.kind = .cpga → put (s.copyStep c ord x) a bs) ∧
            (c.kind = .cpmc → s.copyStep c ord x = s.copySpread c a bs) ∧
            (c.kind = .cpout ∨ c.kind = .cpsc → s.copyStep c ord x = written (s.copyRead c a c.esz) ∧
              (t.races = Races.init → s.copyRead c a c.esz = t.win.read a c.esz))) ∧
          (x.spad = none → (c.kind = .cpqo ∨ c.kind = .cpfl → s.copyStep c ord x = written x.data) ∧
            (c.kind = .cpxf → ∀ c1, s.copyOf c.id = some c1 → s.copyStep c ord x = s.setCopy { c1 with read := Store.put ord bs c1.read }))) ∧
        (∀ a, x.tens = none → x.spad = some a → c.kind = .cpqf → s.copyStep c ord x = s.copySpread c a x.data))) ∧
    (∀ (s : State) (c : Copy) (a : Nat) (bs : List Byte) (id : Nat) (ids : List Nat), c.kind = .cpmc ∨ c.kind = .cpqf →
      (c.targets = [] → s.copySpread c a bs = s) ∧
      (c.targets = id :: ids → let next := { c with targets := ids };
        (∀ t, s.taskOf id = some t → s.brokenAny t = false → s.copySpread c a bs = (s.putTask (t.put (some c.id) a bs)).copySpread next a bs) ∧
        ((∀ t, s.taskOf id = some t → s.brokenAny t = true) → s.copySpread c a bs = s.copySpread next a bs))) ∧
    ∀ (s : State) (id : Nat) (c : Copy) (t : Task), s.copyOf id = some c → c.st = .active → c.todo = [] → c.barrier = none →
      (∀ b ∈ s.copies, b.id = id → b = c) → s.cur = t → c.task = t.id → t.id ≠ 0 →
      (c.chain ≠ [] → exec (.copyComplete id) s = .next s) ∧ (c.chain = [] →
      ∃ u, exec (.copyComplete id) s = .next u ∧ u.mem = s.mem ∧ u.nc = s.nc ∧ u.tensors = s.tensors ∧ u.tasks = s.tasks ∧ u.cur.win = t.win ∧
        (∃ b, u.copyOf id = some b ∧ b.st = .done) ∧ u.incomplete id = false ∧
        ∀ k v, (k, v) ∈ t.arch.k → v.st = .pending → (∀ x ∈ v.copies, x = id ∨ s.incomplete x = false) →
          ∃ v', (k, v') ∈ u.cur.arch.k ∧ v'.st = .done ∧ v'.copies = v.copies)) ∧
   ((∀ (s : State) (c : Copy) (b : List Byte) (rest : List (List Byte)) (n : Nat),
      s.copyOf c.id = some c → c.st = .active → c.kind = .cpxf → c.todo = [] → c.chain = b :: rest → (s.coreOf c.core).xf.run = none →
      let input := (c.read.map (·.2)).flatten
      let id := leNat (b.take 2)
      let out := routineRun s.free b input
      let room := leNat ((b.drop 8).take 4)
      let full := out ++ List.replicate (room - out.length) 0
      let known := id = 1 ∨ id = 2 ∨ id = 0x10 ∨ id = 0x20 ∨ id = 0x30
      (known → ∃ x : XfCore, x.run = none ∧
        let s1 := ({ s with free := s.free + 1 } : State).setCore c.core { s.coreOf c.core with xf := x }
        (room < out.length → s.chainGo c.id (n + 1) = ({ s1 with free := s1.free + 1 } : State).copyFail c 0x0D [16 + c.num, 10, Config.freeNat s1.free 0, c.slot]) ∧
        (out.length ≤ room → rest ≠ [] →
          s.chainGo c.id (n + 1) = (s1.setCopy { c with chain := rest, read := [(0, full)], links := c.links + 1 }).chainGo c.id n) ∧
        (out.length ≤ room → rest = [] → ∃ todo, s.chainGo c.id (n + 1) = (s1.setCopy { c with chain := [], read := [], todo := todo }).chainGo c.id n ∧
          todo.length = room ∧ ∀ i, i < room → todo[i]? = some (i, ⟨none, some (c.dest + i), [full.getD i 0]⟩))) ∧
      (¬ known → ∃ x : XfCore, s.chainGo c.id (n + 1) =
          ({ s with free := s.free + 1 } : State).setCore c.core { s.coreOf c.core with xf := x } ∧
        (∃ r, x.run = some r ∧ r.copy = c.id ∧ r.block = b ∧ r.out = [] ∧ (c.links = 0 → x.stream.flatten ++ r.left = input)) ∧
        (c.links ≠ 0 → x.chain = input))) ∧
    ∀ (s : State) (n : Nat) (r : XfRun) (c : Copy), n < 48 → (s.coreOf n).xf.run = some r → s.copyOf r.copy = some c → c.st = .active →
      let x := (s.coreOf n).xf
      let turn := State.runTurn s (.xf n)
      let goes := fun (y : XfCore) => turn = .next (({ s with free := s.free + 16 } : State).setCore n
        { s.coreOf n with xf := { y with ranAt := some (s.stackOf (n / 12)).c.cyc } })
      let violation := turn = .next (({ s with free := s.free + 16 } : State).xfViolation n)
      let base := Config.choice 5 6 % 2 ^ 58 * 64
      let bytes := fun (k : Nat) => leNat ((List.range k).map fun i => s.xfMem.getD (x.pc + i - base) 0)
      let reg := fun (i : Nat) => if i = 0 then (0 : Word) else Store.get 0 x.x i
      let sets := fun (rd : Nat) (v : Word) (len : Nat) =>
        goes { x with pc := (x.pc + len) % 2 ^ 64, x := if rd = 0 then x.x else Store.set 0 x.x rd v }
      (x.pc < base ∨ base + 65536 ≤ x.pc → x.pc < 2 ^ 64 → violation) ∧
      (base ≤ x.pc → x.pc + 4 ≤ base + 65536 → x.pc + 4 ≤ 2 ^ 64 → ∀ rd r1 r2 : Nat, rd < 32 → r1 < 32 → r2 < 32 →
        let a := reg r1
        let b := reg r2
        let w := bytes 4
        let low := fun (v : Int) => (BitVec.ofInt 32 v).signExtend 64
        let regs := r1 * 2 ^ 15 + r2 * 2 ^ 20 + rd * 2 ^ 7
        (∀ p ∈ [(0, 0, a + b), (0x20, 0, a - b), (0, 1, a <<< (b.toNat % 64)), (0, 2, if a.toInt < b.toInt then 1 else 0),
            (0, 3, if a.toNat < b.toNat then 1 else 0), (0, 4, a ^^^ b), (0, 5, a >>> (b.toNat % 64)), (0x20, 5, a.sshiftRight (b.toNat % 64)),
            (0, 6, a ||| b), (0, 7, a &&& b), (1, 0, a * b), (1, 1, BitVec.ofInt 64 (a.toInt * b.toInt / 2 ^ 64)),
            (1, 3, BitVec.ofNat 64 (a.toNat * b.toNat / 2 ^ 64)), (1, 5, if b = 0 then BitVec.allOnes 64 else a / b), (1, 7, if b = 0 then a else a % b)],
          w = 0x33 + regs + p.2.1 * 2 ^ 12 + p.1 * 2 ^ 25 → sets rd p.2.2 4) ∧
        (∀ p ∈ [(0, 0, low (a.toInt + b.toInt)), (0x20, 0, low (a.toInt - b.toInt)), (1, 0, low (a.toInt * b.toInt))],
          w = 0x3B + regs + p.2.1 * 2 ^ 12 + p.1 * 2 ^ 25 → sets rd p.2.2 4) ∧
        (∀ i : Nat, i < 2 ^ 12 → let at_ := (a.toInt + (BitVec.ofNat 12 i).toInt) % 2 ^ 64
          (w = 0x13 + rd * 2 ^ 7 + r1 * 2 ^ 15 + i * 2 ^ 20 → sets rd (a + (BitVec.ofNat 12 i).signExtend 64) 4) ∧
          (w = 0x03 + rd * 2 ^ 7 + 3 * 2 ^ 12 + r1 * 2 ^ 15 + i * 2 ^ 20 →
            (∀ k p, k < 5 → (∀ j, j < 8 → xfPlace (at_.toNat + j) = some (k, p + j)) →
              sets rd (BitVec.ofNat 64 (leNat ((List.range 8).map fun j => (if k = 4 then x.chain else x.stream.getD k []).getD (p + j) 0))) 4) ∧
            ((∃ j, j < 8 ∧ xfPlace (at_.toNat + j) = none) → violation))) ∧
        (∀ i : Nat, i < 2 ^ 20 → w = 0x37 + rd * 2 ^ 7 + i * 2 ^ 12 → sets rd ((BitVec.ofNat 32 (i * 2 ^ 12)).signExtend 64) 4) ∧
        (bytes 2 = 0x9002 + rd * 2 ^ 7 + r2 * 2 ^ 2 → r2 ≠ 0 → sets rd (reg rd + b) 2) ∧
        (w = 0x02000057 + regs → x.vstart = 0 → 0 < x.vl → x.vtype < 2 ^ 8 → x.vtype % 8 = 0 → x.vtype / 8 % 8 < 4 →
          let e := 8 * 2 ^ (x.vtype / 8 % 8)
          x.vl ≤ 512 / e → Store.sorted x.v = true → ∃ y : XfCore, goes y ∧ y = { x with v := y.v, pc := (x.pc + 4) % 2 ^ 64 } ∧
            (∀ i, i < x.vl → y.vel e rd i = (x.vel e r2 i + x.vel e r1 i) % 2 ^ e) ∧
            ∀ k, k ≠ rd → Store.get 0 y.v k = Store.get 0 x.v k) ∧
        (bytes 2 = 0 → turn = .next (if Config.choice s.free 0 % 2 = 1 then ({ s with free := s.free + 16 } : State).xfViolation n
            else ((({ s with free := s.free + 16 } : State).setCore n { s.coreOf n with xf :=
              { x with run := none, ranAt := some (s.stackOf (n / 12)).c.cyc } }).linkFails c)))))

/-- R206, R209, R211 to R213: waits on tokens. A token whose copies are complete lets WAITK and WAITKX through, DONE, with its copies joined;
one with a held copy is withhold overflow, reason 3; WAITK past the promise is promise missed; else the bundle waits. TESTK tells, and
KREL frees the token and lets its copies go on.
A wait on a FREE token is the model's reading (log entry 34). -/
def Obligations.TokenWaits : Prop :=  ∀ (s : State) (g : Guard) (k qd : Nat), s.guardOn g = true → s.roomQ qd →
    let t := s.cur.arch.token k
    let settled := t.st ≠ .pending ∨ ∀ c ∈ t.copies, s.incomplete c = false
    let held := ∃ c ∈ s.copies, c.id ∈ t.copies ∧ c.st = .held
    let joined := fun (st : TokSt) => (s.join t.copies).arch fun a => { a with k := Store.set Token.init a.k k ⟨st, [], 0⟩ }
    (settled → s.Does (.waitk g k) (joined .done) ∧ s.Does (.waitkx g k) (joined .done) ∧
      s.CompletesWith (joined (if t.st = .free then .free else .done)) (.testk g qd k) 1 (setQ qd true)) ∧
    (¬ settled → s.GivesQ (.testk g qd k) qd false 1 ∧
      (held → let w := [3, s.cur.heldq.length, 64, s.slotNo]; s.Raises (.waitk g k) 9 w ∧ s.Raises (.waitkx g k) 9 w) ∧
      (¬ held → s.Holds (.waitkx g k) ∧ (s.time < s.tokenPromise t → s.Holds (.waitk g k)) ∧
        (s.tokenPromise t ≤ s.time → s.Raises (.waitk g k) 0x0A [k, s.tokenPromise t, s.time, s.slotNo]))) ∧
    s.Does (.krel g k) (s.arch fun a => { a with k := Store.set Token.init a.k k Token.init })

/-- R215, R226 to R228, R245: stage barriers and group barriers, field by field. BARV counts an arrival and its credits, and the test completes
a phase; BWAIT waits for the phase; GBAR waits for its group, and gives 0 where the gang is broken.
R228, R275: GBAR. Each arrival is a generation. At a level that the launch does not have, it passes with 1; in a broken gang, with 0; else the task
has arrived, and waits until every other member of its group has, or has ended, and passes with 1. The first that passes brings what its
members have stored into the global order, and each of them then knows what every one of them knew and did; one that passes a completed generation
again, after a rollback, does so with its own stores, and each member knows what it knows then.
That ARRIVED wraps and CREDITED saturates is the model's reading (log entry 15). -/
def Obligations.Barriers : Prop :=
   (∀ (s : State) (g : Guard) (b sa count : Nat), s.guardOn g = true → Store.sorted s.cur.arch.b = true → s.cur.id ≠ 0 → count < 2 ^ 14 →
      let x := s.cur.arch.barrier b
      let v := (s.rdS sa).toNat
      let sets := fun (i : Instr) (ok : BitVec 128 → Prop) => ∃ y, ok y ∧ s.Does i (s.arch fun a => { a with b := Store.set 0 a.b b y })
      sets (.binit g b count) (fun y => barPend y = 0 ∧ barPhase y = 0 ∧ barValid y = 1 ∧ barArrived y = 0 ∧ barCount y = count ∧
        barCredited y = barCredited x ∧ barExpected y = barExpected x) ∧
      sets (.bexp g b sa) (fun y => barPend y = barPend x ∧ barPhase y = barPhase x ∧ barValid y = barValid x ∧ barArrived y = barArrived x ∧
        barCount y = barCount x ∧ barCredited y = barCredited x ∧ barExpected y = v % 2 ^ 48) ∧
      (barValid x = 0 → s.Raises (.barv g b sa) 0x0D [32 + b, 11, 0, s.slotNo] ∧ s.Raises (.bwait g b) 0x0D [32 + b, 11, 0, s.slotNo]) ∧
      (barValid x = 1 →
        let n := (barArrived x + 1) % 2 ^ 14
        let c := min (barCredited x + v % 2 ^ 48) (2 ^ 48 - 1)
        (¬ (barCount x ≤ n ∧ barExpected x ≤ c) → sets (.barv g b sa) fun y => barPend y = 1 ∧ barPhase y = barPhase x ∧ barValid y = 1 ∧
          barArrived y = n ∧ barCount y = barCount x ∧ barCredited y = c ∧ barExpected y = barExpected x) ∧
        (barCount x ≤ n → barExpected x ≤ c → ∃ y cs rs, s.Does (.barv g b sa)
            { s with cur := { s.cur with arch := { s.cur.arch with b := Store.set 0 s.cur.arch.b b y }, races := rs }, copies := cs } ∧
          barPend y = 0 ∧ barPhase y = 1 - barPhase x ∧ barValid y = 1 ∧ barArrived y = 0 ∧ barCount y = barCount x ∧
          barCredited y = c - barExpected x ∧ barExpected y = 0) ∧
        (barPend x = 1 → s.brokenAny s.cur = false → s.Holds (.bwait g b)) ∧
        (barPend x = 0 ∨ s.brokenAny s.cur = true →
          s.Does (.bwait g b) (s.join (s.cur.counted b)) ∧
            ∀ id, id ∈ s.cur.counted b ↔ ∃ f ∈ s.cur.races.inbound ++ s.cur.races.outbound, f.copy = id ∧ f.counted = true ∧ f.bar = some b))) ∧
   (∀ (s : State) (g : Guard) (qs level : Nat), s.guardOn g = true → s.roomQ qs →
      let i := Instr.gbar g qs level
      let l := s.launchRec s.cur
      let gen := Store.get 0 s.cur.arch.gbar level + 1
      let count := fun (t : State) => t.arch fun a => { a with gbar := Store.set 0 a.gbar level gen }
      let s1 : State := { s with cur := { s.cur with
        gbarSeen := Store.set 0 s.cur.gbarSeen level (max gen (Store.get 0 s.cur.gbarSeen level)) } }
      let settled := ∀ x ∈ s1.groupOf s1.cur level, x.id = s.cur.id ∨ x.status = .ended ∨ gen ≤ Store.get 0 x.gbarSeen level
      (recLevels l ≤ level → s.CompletesWith (count s) i 1 (setQ qs true)) ∧
      (level < recLevels l →
        (s.brokenAt s.cur level = true → s.CompletesWith (count s) i 1 (setQ qs false)) ∧
        (s.brokenAt s.cur level = false →
          (¬ settled → exec i s = .next { s1 with ctx := { s.ctx with out := .held } }) ∧
          (settled →
            let group := s1.groupOf s1.cur level
            let first := ∀ x ∈ group, Store.get 0 x.arch.gbar level < gen
            let met := if first then s1.meetGroup (group.map (·.id)) level gen else s1.meetAgain (group.map (·.id)) level gen
            s.CompletesWith (count met) i 1 (setQ qs true) ∧
            ((∀ x ∈ group, x.stores = []) → met.mem = s.mem ∧ met.nc = s.nc) ∧
            (((s.cur :: s.tasks).map (·.id)).Nodup → (∀ x ∈ group, x.id ≠ 0) → ∀ x ∈ group, ∃ y, met.taskOf x.id = some y ∧
              y.arch.s = x.arch.s ∧ y.arch.q = x.arch.q ∧ y.arch.p = x.arch.p ∧ y.arch.v = x.arch.v ∧ (x.races.inbound = [] → y.win = x.win) ∧
              (first ∨ x.id = s.cur.id → y.stores = []) ∧
              ∀ z ∈ group, first ∨ z.id = s.cur.id → ∀ key, Store.get 0 z.clock key ≤ Store.get 0 y.arch.seen key)))))

/-- R211, R252, R253, R260, R261, R299, R301: the steps of a core that no slot carries. A CK bundle whose waits are over and that holds no
command has its checkpoint taken at its position; a held WAITK whose token is PENDING with a copy incomplete, past the latest promise of the
token's copies (those that something else has joined included, R209), raises promise missed with that promise, and is charged nothing; a wait that has become a switch
point parks its task, and leaves the core empty; a slice used up sets the clip latch where the scheduler has other work, and is
else renewed; a drain that has lasted DRAIN_MAX sets the latch.
When a stop is requested is the model's reading (log entry 18); the stack whose LEASE counts is its choice (log entry 76). -/
def Obligations.CoreSteps : Prop :=  (∀ (s : State) (core : Nat), let r := (s.focus core).settled_; r.cur.id ≠ 0 →
    (∀ f, r.fetched = .inr f → f.bundle.ck = true →
      (f.bundle.yd = false → r.cur.arch.bgs + bundleI r.cur f.bundle ≤ r.cur.hdr.span → r.cur.pend = [] → r.cur.array = [] → r.cur.heldq = [] →
        (∀ p ∈ f.bundle.ops, ∀ c o, p.2 ≠ .yld c o) →
        ∃ u, exec (.checkpointBundle core) s = .next u ∧ u.cur.ckpt = f.pos ∧ u.cur.undo = [] ∧ u.cur.shadow = u.cur.arch ∧
          u.cur.arch = r.cur.arch.freeRetained ∧ u.cur.win = r.cur.win ∧ u.cur.pc = r.cur.pc ∧ u.mem = s.mem) ∧
      (unpriced r.cur f.bundle = false → r.cur.hdr.span < r.cur.arch.bgs + bundleI r.cur f.bundle →
        exec (.checkpointBundle core) s = .next ((r.enterBundle f true).takeRaise
          ⟨8, 0xFF, [r.cur.arch.bgs, bundleI r.cur f.bundle, r.cur.hdr.span, 0], none⟩))) ∧
    (∀ f x k, r.fetched = .inr f → let tok := r.cur.arch.token k
      (∀ g, f.bundle.ops = [(x, .waitk g k)] → r.guardOn g = true → tok.st = .pending → (∃ c ∈ r.copies, c.id ∈ tok.copies ∧ c.st ≠ .done) →
        (∀ c ∈ r.copies, c.id ∈ tok.copies → c.st ≠ .held ∧ c.promise ≤ r.time) → tok.promise ≤ r.time → r.missed f = some (x, k)) ∧
      (r.cur.waitAt.isSome = true → r.missed f = some (x, k) →
        ∃ p, p ≤ r.time ∧ (tok.promise ≤ p ∧ ∀ c ∈ r.copies, c.id ∈ tok.copies → c.promise ≤ p) ∧
          (p = tok.promise ∨ ∃ c ∈ r.copies, c.id ∈ tok.copies ∧ p = c.promise) ∧ exec (.promiseMissed core) s =
          .next ((r.enterBundle f false).takeRaise ⟨0x0A, x.number, [k, p, r.time, x.number], none⟩))) ∧
    (r.switchPoint = true → r.cur.heldq = [] → 0 ≤ r.cur.pc → r.cur.core = core → Store.sorted r.cores = true →
      let a := r.cur.landAll
      ∃ u, exec (.waitSwitchPoint core) s = .next u ∧ u.cur.id = 0 ∧ (u.coreOf core).task = 0 ∧
        ∃ t ∈ u.tasks, t.id = r.cur.id ∧ t.status = .parked ∧ t.contPos = r.cur.pc ∧ t.ckpt = r.cur.pc ∧ t.full = true ∧ t.wait = r.cur.wait ∧
          t.arch.clip = false ∧ t.arch.s = a.arch.s ∧ t.arch.v = a.arch.v ∧ t.win = a.win ∧ t.stores = a.stores)) ∧
  ∀ (s : State) (core : Nat) (t : Task), s.runner core = some t → t.status = .running →
    let clipped := fun (s : State) => s.putTask { t with arch := { t.arch with clip := true } }
    (t.slice ≤ 0 → t.arch.clip = false →
      (s.workFor t = true → exec (.sliceExhausted core) s = .next (clipped s)) ∧
      (s.workFor t = false → exec (.sliceExhausted core) s = .next (s.putTask { t with slice := (s.stackOf (core / 12)).slice }))) ∧
    (0 < t.slice ∨ t.arch.clip = true → exec (.sliceExhausted core) s = .next s) ∧
    (∀ d, (s.coreOf core).drainAt = some d →
      (s.time < d → exec (.drainMaxExpiry core) s = .next s) ∧
      (d ≤ s.time → exec (.drainMaxExpiry core) s = .next (clipped (s.setCore core { s.coreOf core with drainAt := none })))) ∧
    ((s.coreOf core).drainAt = none → exec (.drainMaxExpiry core) s = .next s)

/-- R249, R250, R261, R289, R290, R295, R297, R298, R312 to R314, R340: the steps of the schedulers and the residency engines. The
arbiter's choice is the work of the highest rank, ties going to the lower queue number and then to the older task, where it fits a slice or its age is 256 or
more, else the highest that fits a slice, and failing that the highest; with one item that a core can hold, the decision
dispatches it; an OPEN queue's next record becomes head with its tasks, and a bad one freezes the queue; a HOLDING task whose holds
are kept, or are all prepared, is READY; a move that completes ends MOVING. A core that another die's scheduler is asked for, for a gang that leads, takes no
other work once it is free; a request of another device is log entry 84.
The placement of tasks and gangs, the second reading of a header, room that cannot be made whole, what counts as other work, and two of the checks of a record are the model's reading (log entries 39, 41, 42, 50 and 67); what a request from another device does is its choice (log entry 84). -/
def Obligations.SchedulerSteps : Prop :=  (let wins := fun (a b : Item) => b.rank < a.rank ∨ a.rank = b.rank ∧ (a.no < b.no ∨ a.no = b.no ∧ a.task < b.task)
    ∀ (slice : Nat) (l : List Item) (top : Item), top ∈ l → (∀ i ∈ l, i = top ∨ wins top i) →
      (3 * top.est ≤ 5 * slice ∨ 256 ≤ top.age → choose slice l = some top) ∧
      (5 * slice < 3 * top.est → top.age < 256 →
        (∀ c ∈ l, 3 * c.est ≤ 5 * slice → (∀ i ∈ l, 3 * i.est ≤ 5 * slice → i = c ∨ wins c i) → choose slice l = some c) ∧
        ((∀ i ∈ l, 5 * slice < 3 * i.est) → choose slice l = some top))) ∧
  (∀ (s : State) (die n : Nat) (i : Item) (t : Task) (w : Work), s.gangs die = [] → s.items die = [i] → i.start = true → i.fit = true → i.place = [(t.id, n)] →
    s.cur.id = 0 → s.tasks = [t] → t.id ≠ 0 → t.work = w.id → i.work = w.id → s.works = [w] → w.kind = .lane die → Store.sorted s.cores = true →
    (s.parkedOn n) = [] → fits [t.needs] = true →
    ∃ u, exec (.schedulerDecision die) s = .next u ∧ (u.coreOf n).task = t.id ∧
      ∃ v ∈ u.tasks, v.id = t.id ∧ v.status = .running ∧ v.core = n ∧ v.ckpt = t.hdr.entry ∧ v.saveArea = t.hdr.save ∧
        v.slice = (s.stackOf (n / 12)).slice ∧ v.win = ⟨[], []⟩) ∧
  (∀ (s : State) (task : Nat) (t : Task), s.taskOf task = some t →
    (t.status = .parked → s.settled t = true → ∃ c, exec (.saveParkedTask task) s =
      .next { s.putTask { t with status := .saved, cont := c } with free := s.free + 1 }) ∧
    (t.status ≠ .parked ∨ s.settled t = false → exec (.saveParkedTask task) s = .next s) ∧
    (∀ w, s.workOf t.work = some w → t.status = .ready → t.saveArea = 0 ∨ t.core / 12 ≠ w.die → t.hdr.save ≠ 0 → recDomain w.launch 0 < 4 →
      t.hdr.save ≤ s.hbmFree w.die →
      exec (.saveAreaReserve task) s = .next (s.putTask { t with saveArea := t.hdr.save, core := 12 * w.die })) ∧
    (∀ w, s.workOf t.work = some w → t.status ≠ .holding → t.status ≠ .suspended → exec (.holdPrepare task) s = .next s) ∧
    (∀ w, s.workOf t.work = some w → t.status = .suspended → t.waitsOn ≠ [] → (∀ id ∈ t.waitsOn, s.recomputing id = false ∧ s.isLost id = false) →
      exec (.holdPrepare task) s = .next (s.putTask { t with status := .holding, waitsOn := [] })) ∧
    (∀ w, s.workOf t.work = some w → t.status = .holding → t.held0 = true →
      exec (.holdPrepare task) s = .next (s.putTask { t with status := .ready })) ∧
    (∀ w, s.workOf t.work = some w → t.status = .holding → t.held0 = false → t.prepared = true →
      let r := (s.putTask t).prepareAll t ((List.range (s.ranges t).length).zip (s.ranges t))
      (∀ c ws, r.bad = some (c, ws) → exec (.holdPrepare task) s = .next (r.st.taskFault task c 0xFF ws t.hdr.entry)) ∧
      (r.bad = none → r.lost = [] → r.waits = true → exec (.holdPrepare task) s = .next r.st) ∧
      (r.bad = none → r.lost = [] → r.waits = false →
        exec (.holdPrepare task) s = .next (r.st.takeHolds ((r.st.taskOf task).getD t))))) ∧
  (∀ (s : State) (qn : Nat), let q := s.queueOf qn
    (q.st ≠ .opened ∨ q.disp = q.tail → exec (.operatorHead qn) s = .next s) ∧
    (q.st = .opened → q.headBad = false → q.disp ≠ q.tail → s.workAt qn q.disp = none → s.reissuing qn = false →
      let r := s.idBytes q.base (128 * (q.disp % q.size)) 128
      (∀ o o2, s.recordFault r = some (o, o2) →
        exec (.operatorHead qn) s = .next ((s.setQueue qn { q with st := .frozen, headBad := true }).report q.owner 0x0D 0 qn q.disp [q.disp, 14, o, o2])) ∧
      (s.recordFault r = none →
        ∃ u ts w, exec (.operatorHead qn) s = .next u ∧ u.tasks = s.tasks ++ ts ∧ u.works = s.works ++ [w] ∧ w.kind = .queue qn q.disp ∧
          w.head = true ∧ w.counter = recF r 4 2 ∧ w.prio = recF r 6 1 % 8 ∧ ts.length = instances w.launch ∧ u.queues = s.queues ∧
          ∀ t ∈ ts, t.work = w.id ∧ t.status = (if recF r 4 2 = 0 then .holding else .waiting)))) ∧
  (∀ (s : State) (die n : Nat) (cores : List Nat), (∀ d, s.gangs d = []) →
    (s.env.devices ≤ 1 → exec (.gangHoldRequest die cores) s = .next s) ∧
    (1 < s.env.devices → n < 48 → n / 12 = die → (0, 0) ∉ (s.coreOf n).wanted →
      exec (.gangHoldRequest die [n]) s = .next (s.setCore n { s.coreOf n with wanted := (s.coreOf n).wanted ++ [(0, 0)] }))) ∧
  (∀ (s : State) (die : Nat) (w : Work) (g : Nat) (rest : List (Work × Nat)) (h : Home) (n : Nat),
    s.gangs 0 = (w, g) :: rest → w.homeOf g = some h → n ∈ h.cores → n < 48 → n / 12 = die → die ≠ w.die → (w.id, g) ∉ (s.coreOf n).wanted →
    exec (.gangHoldRequest die [n]) s = .next (s.setCore n { s.coreOf n with wanted := (s.coreOf n).wanted ++ [(w.id, g)] })) ∧
  (∀ (s : State) (w : Work) (g n : Nat) (gang : Option (Nat × Nat)), s.workOf w.id = some w → s.wholeGang w g = true →
    (s.coreOf n).heldFor = none → (s.coreOf n).wanted = [(w.id, g)] →
    (s.isFree gang n = true ↔ (s.coreOf n).task = 0 ∧ (s.coreOf n).frozen = false ∧ gang = some (w.id, g))) ∧
  (∀ (s : State) (id : Nat) (t : Tensor), s.tensor id = some t → t.id = id →
    (t.st ≠ .moving → exec (.moveComplete id) s = .next s) ∧
    (t.st = .moving → t.after = .stay → ∃ u v, exec (.moveComplete id) s = .next u ∧ u.tensor id = some v ∧ v.st ≠ .moving ∧
      v.pages = t.pages ∧ u.mem = s.mem ∧ v.holds = t.holds ∧ v.epoch = t.epoch)) ∧
  ∀ (s : State) (parent child : Nat) (c p : SeqRec), Store.look s.seqs child = some c → Store.look s.seqs parent = some p → c.parent = parent →
    (c.st ≠ .released → exec (.seqfRelease parent child) s = .next s) ∧
    (c.st = .released → p.st ≠ .live → exec (.seqfRelease parent child) s =
      .next { s.setKey c.slot { s.keyOf c.slot with pair := 0 } with seqs := Store.del child s.seqs }) ∧
    (c.st = .released → p.st = .live → s.seqWritten parent = true → exec (.seqfRelease parent child) s = .next s) ∧
    (c.st = .released → p.st = .live → s.seqWritten parent = false → ∃ u r, exec (.seqfRelease parent child) s = .next u ∧
      Store.look u.seqs child = some r ∧ r.st = .live ∧ r.readers = c.slot :: p.readers ∧ r.slot = c.slot ∧
      ∀ t n e pg, s.pagedOf parent = [t] → s.homed (homeOf t.id) < 2 ^ 18 → t.st = .resident → t.pages = [(n, e)] → s.page e = some pg → pg.ref < 65535 →
        u.mem = s.mem ∧ u.page e = some { pg with ref := pg.ref + 1 } ∧ ∃ v, u.tensor (pagedId (homeOf t.id) (fld t.id 24 4) child) = some v ∧
          v.seq = child ∧ v.keyslot = c.slot ∧ v.pages = t.pages ∧ v.size = t.size ∧ v.epoch = t.epoch ∧ v.holds = 0)

/-- R207, R216, R326, R343, R346, R356, R365, R369, R370, R372, R378, R381: errors and what they cost. A copy that meets an error at an access
faults its task with the cause and words of the error, and costs the tile its data, but where the data is an exporter's; an access through a
proxy ends in link timeout after TLTO without reply, not before. A violation freezes the engine or the core that made it, with a
notice, and faults the task; a soft error in an on-core store faults the task, and one in a carry image does so with DISPATCH clear; a link
error that is retried, or a bus error that is corrected, costs no data; a link goes down after 64 retries, or where traffic has waited 10,000
ticks, which ends in link timeout; no route leads over one that is down.
The words of a violation that the manual leaves open, what a failed link takes with it, and which errors occur are the model's choice (log entries 14, 44 and 71). -/
def Obligations.DeviceErrors : Prop :=  (∀ (s : State) (id : Nat) (c : Copy) (e : CopyErr), s.copyOf id = some c →
    (c.st ≠ .active → exec (.copyError id e) s = .next s) ∧
    (c.st = .active → ∀ off, (Store.look c.todo e.ordinal).bind (·.tens) = some off →
      let elem := off / c.esz - c.hold.first
      (∀ t pg, s.tensor c.hold.id = some t → t.id = c.hold.id → isProxy t.id = false → s.page (t.entry (off / t.pageBytes)) = some pg →
        c.kind.reads = true →
        let page := off / t.pageBytes
        let tile := tileOf (off % t.pageBytes)
        (e.err = .data → exec (.copyError id e) s =
          .next ((s.poisonTile c.hold.id page tile).taskFault c.task 0x0F c.slot [c.hold.id, page, tile, 1] c.pos)) ∧
        (∀ n, e.err = .decode n → pg.pk = true → exec (.copyError id e) s =
          .next ((s.poisonTile c.hold.id page tile).taskFault c.task 0x0E c.slot [c.hold.id, page, tile, n] c.pos)) ∧
        (e.err = .metadata → exec (.copyError id e) s = .next (((s.wordTiles c.hold.id tile).foldl (fun s i => s.poisonTile c.hold.id page i) s).taskFault
          c.task 0x0F c.slot [c.hold.id, page, tile, 2] c.pos))) ∧
      (s.tensor c.hold.id = none →
        (∀ why, e.err = .stale why → 1 ≤ why → why ≤ 3 →
          exec (.copyError id e) s = .next (s.taskFault c.task 0x10 c.slot [c.hold.id, elem, why, 0xFF] c.pos)) ∧
        (∀ link sent, e.err = .timeout link → link < 18 → Store.look c.sent e.ordinal = some sent →
          (sent + s.tlto ≤ s.time → exec (.copyError id e) s = .next (s.taskFault c.task 0x11 c.slot [c.hold.id, elem, link, 0xFF] c.pos)) ∧
          (s.time < sent + s.tlto → exec (.copyError id e) s = .next s)) ∧
        (∀ cause ws, e.err = .exporter cause ws → isProxy c.hold.id = true → cause = 0x0E ∨ cause = 0x0F ∨ cause = 0x17 →
          exec (.copyError id e) s = .next (s.taskFault c.task cause c.slot ws c.pos)) ∧
        (e.err = .key → exec (.copyError id e) s = .next (s.freezeWalk c 1 [c.hold.id, elem, 4, 0xFF])) ∧
        (e.err = .bounds → exec (.copyError id e) s = .next (s.freezeWalk c 2 [c.hold.id, elem, 5, 0xFF]))))) ∧
  (∀ (s : State) (t : Task), t.status = .running → s.works = [] → s.pool = [] → t.stores = [] → t.heldq = [] → t.held0 = false → t.wrote = [] →
    t.owned = [] → Store.sorted s.cores = true → (s.allTasks.map (·.id)).Nodup → t.id ≠ 0 →
    (∀ (c : Copy) (why : Nat) (ws : List Nat), s.copies = [c] → s.taskOf c.task = some t →
      let frozen := (s.setCore c.core { s.coreOf c.core with walkFrozen := true }).masterNotice 2 c.core why (ws.getD 0 0)
      let u := s.freezeWalk c why ws
      u = frozen.faultWith 16 c.task 0x10 c.slot ws c.pos ∧ (u.coreOf c.core).walkFrozen = true ∧ u.copies = [] ∧ u.mem = s.mem ∧
        ∃ v ∈ u.tasks, v.id = t.id ∧ v.status = .faulted) ∧
    (∀ (pos : Option Nat) (slot id elem why : Nat), s.cur = t → why = 4 ∨ why = 5 →
      let r : Raise := ⟨0x10, slot, [id, elem, why, slot], pos⟩
      let s1 : State := { s with ctx := { s.ctx with out := .raised r }, cur := { t with began := true } }
      let frozen := (s1.setCore s.core { s.coreOf s.core with frozen := true }).masterNotice 1 s.core (why - 3) id
      let u := s.takeRaise r
      u = frozen.faultWith 16 t.id 0x10 slot [id, elem, why, slot] (pos.getD s.ctx.pos) ∧ (u.coreOf s.core).frozen = true ∧ u.mem = s.mem ∧
        (∀ gang, u.isFree gang s.core = false) ∧ ∃ v ∈ u.tasks, v.id = t.id ∧ v.status = .faulted)) ∧
  (∀ (s : State) (core : Nat),
    ((∀ c ∈ s.copies, c.core = core → c.st = .active → c.kind ≠ .cpxf) → exec (.transformViolation core) s = .next s) ∧
    (∀ c, s.copies = [c] → c.core = core → c.st = .active → c.kind = .cpxf → ∃ x, exec (.transformViolation core) s =
      .next { ((s.setCore core { s.coreOf core with xfFrozen := true }).masterNotice 3 core 3 c.hold.id).faultWith 16 c.task 0x0D c.slot
        [16 + c.num, 10, x, c.slot] c.pos with free := s.free + 1 })) ∧
  (∀ (s : State) (task store place : Nat) (t : Task), s.taskOf task = some t →
    (t.status = .running ∨ t.status = .parked → 1 ≤ store → store ≤ 3 →
      exec (.softError task store place) s = .next (s.taskFault task 0x0F 0xFF [store, place, 0, 5] (t.pc % 2 ^ 32).toNat)) ∧
    (t.status = .saved → store = 4 →
      exec (.softError task store place) s =
        .next ((s.putTask { t with began := true }).taskFault task 0x0F 0xFF [store, place, 0, 5] (t.pc % 2 ^ 32).toNat)) ∧
    (t.status = .saved → store ≠ 4 → exec (.softError task store place) s = .next s)) ∧
  (∀ (s : State) (link : Nat),
    (link < 18 → exec (.flitCrcRetry link) s =
      .next { s with links := Store.set LinkSt.init s.links link { s.linkOf link with retries := (s.linkOf link).retries + 1 } }) ∧
    (18 ≤ link → exec (.flitCrcRetry link) s = .next s)) ∧
  (∀ (s : State) (link member : Nat),
    let old := fun (sent : Nat) => max sent (s.linkOf link).last + 10000 ≤ s.time
    let dead := link < 18 ∧ (64 ≤ (s.linkOf link).retries ∨
      (∃ c ∈ s.copies, c.st = .active ∧ s.onLink c.hold.id link = true ∧ ∃ x ∈ c.sent, old x.2) ∨
      (∃ n sent h, n < 48 ∧ (s.coreOf n).sentAt = some sent ∧ s.remoteHead n = some h ∧ s.onLink h.2.2.1 link = true ∧ old sent))
    let down : State := { s with linksDown := s.linksDown ++ [(link, member)], free := s.free + 1 }
    (¬dead → exec (.linkDown link member) s = .next s) ∧
    (dead → s.imports = [] → (link, member) ∉ s.linksDown → exec (.linkDown link member) s = .next (down.notice 0 5 [link, member, 0, 0])) ∧
    (∀ c o sent rest x off, dead → (link, member) ∉ s.linksDown → (∀ n, (s.coreOf n).sentAt = none) → s.copies = [c] → c.st = .active →
      s.onLink c.hold.id link = true → c.sent = (o, sent) :: rest → Store.look c.todo o = some x → x.tens = some off →
      exec (.linkDown link member) s = .next ((down.notice 0 5 [link, member, 0, 0]).taskFault c.task 0x11 c.slot
        [c.hold.id, off / c.esz - c.hold.first, link, 0xFF] c.pos)) ∧
    (∀ l, s.routeTo member = some l → ∀ x ∈ s.linksDown, x.1 ≠ l)) ∧
  (∀ (s : State) (core link : Nat), (∀ sent, (s.coreOf core).sentAt = some sent → s.time < sent + s.tlto) →
    ((∀ c ∈ s.copies, c.core = core → c.st = .active → ∀ x ∈ c.sent, s.time < x.2 + s.tlto) → exec (.linkTimeout core link) s = .next s) ∧
    (∀ c o sent rest x off, link < 18 → s.copies = [c] → c.core = core → c.st = .active → c.sent = (o, sent) :: rest → sent + s.tlto ≤ s.time →
      Store.look c.todo o = some x → x.tens = some off →
      exec (.linkTimeout core link) s = .next (s.taskFault c.task 0x11 c.slot [c.hold.id, off / c.esz - c.hold.first, link, 0xFF] c.pos))) ∧
  (∀ (s : State) (core link sent : Nat) (f : Fetched) (x : Slot) (id elem : Nat), let r := (s.focus core).settled_
    link < 18 → (s.coreOf core).sentAt = some sent → sent + s.tlto ≤ s.time →
    r.cur.id ≠ 0 → r.fetched = .inr f → r.remoteOp f = some (x, id, elem) →
    exec (.linkTimeout core link) s = .next ((r.enterBundle f false).takeRaise ⟨0x11, x.number, [id, elem, link, x.number], none⟩)) ∧
  (∀ (s : State) (stack : Nat) (e : VbusErr), e.harm = .corrected ∨ e.harm = .clean ∨ (s.stackOf stack).cellstat ≠ 1 ∨
      (s.stackOf stack).vbretire.testBit (e.boundary * 16 + e.bus) = true →
    exec (.vbusEccError stack e) s = .next s) ∧
  (∀ (s : State) (stack id page tile : Nat) (e : VbusErr) (t : Tensor) (p : PageEnt), s.tensor id = some t → t.id = id → t.entry page ≠ 0 →
    s.page (t.entry page) = some p → tile ∉ p.bad → t.poison < 65535 → e.harm = .dirty id page tile → (s.stackOf stack).cellstat = 1 →
    e.boundary < 2 → e.bus < 16 → e.group < 32 → e.line < 32 → (s.stackOf stack).vbretire.testBit (e.boundary * 16 + e.bus) = false →
    ∃ u v, exec (.vbusEccError stack e) s = .next u ∧ u.page (t.entry page) = some { p with bad := p.bad ++ [tile] } ∧
      u.tensor id = some v ∧ v.poison = t.poison + 1 ∧ u.mem = s.mem ∧
      (t.st = .resident ∨ t.st = .packed ∨ t.st = .spilled → v.st = .poisoned)) ∧
  (∀ (s : State) (stack : Nat) (dirty : List (Nat × Nat × Nat)), exec (.remapTableError stack false dirty) s = .next s ∧
    (s.dirtyTiles stack = [] → exec (.remapTableError stack true []) s =
      .next ((s.setStack stack { s.stackOf stack with cellstat := 2, lines := [], racking := [] }).notice 0 4 [stack, 0, 0, 0]))) ∧
  ∀ (s : State) (test : Nat), exec (.rbgHealthFail test) s = .next (({ s with rbgOk := false } : State).notice 0 3 [test, 0, 0, 0])

/-- R286, R304, R347 to R349, R368, R370: the commands that control tasks, queues, frozen masters and contexts. A command to a
bridge that does not serve its function changes nothing; one that names a context of another function ends with status 3; each of them
ends with the status of the first check that fails, or with status 0 and its effect. The command in CMDBUF runs while the function is busy:
its code at +0, its context at +4, its operands from +8.
What becomes of the members of a broken gang is the model's reading (log entry 25); which function serves a context at reset, which tasks are a queue's, and the layout of operands in CMDBUF are its choice (log entries 45, 77 and 69). -/
def Obligations.Commands : Prop :=  ∀ (s : State) (c : Cmd) (task bgi bgt queue kind number context grant : Nat),
    (∀ i ∈ [Instr.refill c task bgi bgt, .kill c task, .freeze c queue, .thaw c queue, .unfreeze c kind number, .ctxsys c context grant],
      (¬ s.Serves c.fn → exec i s = .next s) ∧
      (s.Serves c.fn → s.fnOfCtx c.ctx ≠ c.fn → c.fn ≠ 0 → s.Answers i c s 3 0)) ∧
    (∀ status result, let u := s.reply c status result
      u = { s with fns := u.fns } ∧ (Store.sorted s.fns = true → (u.fnOf c.fn) = { s.fnOf c.fn with status := status, result := result, busy := false }) ∧
      ∀ n, n ≠ c.fn → u.fnOf n = s.fnOf n) ∧
    (s.Takes c →
      (s.taskOf task = none → s.Answers (.refill c task bgi bgt) c s 1 0 ∧ s.Answers (.kill c task) c s 1 0) ∧
      (∀ t, s.taskOf task = some t →
        (s.controls c t.owner = false → s.Answers (.refill c task bgi bgt) c s 3 0 ∧ s.Answers (.kill c task) c s 3 0) ∧
        (s.controls c t.owner = true →
          (t.status ≠ .parked → t.status ≠ .saved → s.Answers (.refill c task bgi bgt) c s 1 0) ∧
          (t.status = .parked ∨ t.status = .saved →
            let i := min (t.arch.bgi + bgi) (2 ^ 47 - 1)
            let g := min (t.arch.bgt + bgt) (2 ^ 47 - 1)
            let a := { t.arch with bgi := i, bgt := g, exhausted := t.arch.exhausted && !(decide (0 < i) && decide (0 < g)) }
            s.Answers (.refill c task bgi bgt) c (s.putTask { t with arch := a }) 0 0) ∧
          (t.status = .ended ∨ t.status = .faulted ∨ t.status = .killed → s.Answers (.kill c task) c s 1 0) ∧
          (t.status ≠ .ended → t.status ≠ .faulted → t.status ≠ .killed →
            (t.hdr.restart = false → s.Answers (.kill c task) c s 2 0) ∧
            (t.hdr.restart = true → s.Answers (.kill c task) c (s.killTask t) 0 0)))) ∧
      (256 ≤ queue → s.Answers (.freeze c queue) c s 1 0 ∧ s.Answers (.thaw c queue) c s 1 0) ∧
      (queue < 256 → let q := s.queueOf queue
        (s.controls c q.owner = false → s.Answers (.freeze c queue) c s 3 0 ∧ s.Answers (.thaw c queue) c s 3 0) ∧
        (s.controls c q.owner = true →
          (q.st = .disabled → s.Answers (.freeze c queue) c s 1 0) ∧
          (q.st = .opened → s.Answers (.freeze c queue) c (s.setQueue queue { q with st := .frozen }) 0 0) ∧
          (q.st = .frozen → s.Answers (.freeze c queue) c s 0 0) ∧
          (q.st ≠ .frozen → s.Answers (.thaw c queue) c s 1 0) ∧
          (q.st = .frozen → s.Answers (.thaw c queue) c (s.thawQueue queue) 0 0 ∧
            (s.works = [] → (s.thawQueue queue) = s.setQueue queue { q with st := .opened, headBad := false })))) ∧
      (c.fn ≠ 0 → s.Answers (.unfreeze c kind number) c s 3 0 ∧ s.Answers (.ctxsys c context grant) c s 3 0) ∧
      (c.fn = 0 → let k := s.coreOf number
        (number < 48 →
          (k.frozen = true → s.Answers (.unfreeze c 1 number) c (s.setCore number { k with frozen := false }) 0 0) ∧
          (k.walkFrozen = true → s.Answers (.unfreeze c 2 number) c (s.setCore number { k with walkFrozen := false }) 0 0) ∧
          (k.xfFrozen = true → s.Answers (.unfreeze c 3 number) c (s.setCore number { k with xfFrozen := false }) 0 0)) ∧
        (48 ≤ number ∨ k.frozen = false → s.Answers (.unfreeze c 1 number) c s 1 0) ∧
        (48 ≤ number ∨ k.walkFrozen = false → s.Answers (.unfreeze c 2 number) c s 1 0) ∧
        (48 ≤ number ∨ k.xfFrozen = false → s.Answers (.unfreeze c 3 number) c s 1 0) ∧
        (number ∉ s.decFrozen → s.Answers (.unfreeze c 4 number) c s 1 0) ∧
        (number ∈ s.decFrozen → ∃ u, s.Answers (.unfreeze c 4 number) c u 0 0 ∧ u = { s with decFrozen := u.decFrozen } ∧
          ∀ d, d ∈ u.decFrozen ↔ d ∈ s.decFrozen ∧ d ≠ number) ∧
        ((s.fnOf number).frozen = false → s.Answers (.unfreeze c 5 number) c s 1 0) ∧
        ((s.fnOf number).frozen = true → s.Answers (.unfreeze c 5 number) c (s.setFn number { s.fnOf number with frozen := false }) 0 0) ∧
        (kind = 0 ∨ 5 < kind → s.Answers (.unfreeze c kind number) c s 1 0) ∧
        (4096 ≤ context ∨ 2 ≤ grant → s.Answers (.ctxsys c context grant) c s 5 0) ∧
        (context < 4096 → grant < 2 → ∃ u, s.Answers (.ctxsys c context grant) c u 0 0 ∧ u = { s with ctxSys := u.ctxSys } ∧
          ∀ x, x ∈ u.ctxSys ↔ (x = context ∧ grant = 1) ∨ (x ≠ context ∧ x ∈ s.ctxSys)))) ∧
    (∀ fn, (s.fnOf fn).busy = false → State.runTurn s (.command fn) = .next s) ∧
    (∀ fn, (s.fnOf fn).busy = true → let b := (s.fnOf fn).cmdbuf
      let d : Cmd := ⟨fn, fld b 32 32⟩
      (fld b 0 16 = 1 → State.runTurn s (.command fn) = exec (.refill d (fld b 64 64) (fld b 128 64) (fld b 192 64)) s) ∧
      (fld b 0 16 = 2 → State.runTurn s (.command fn) = exec (.kill d (fld b 64 64)) s) ∧
      (fld b 0 16 = 3 → State.runTurn s (.command fn) = exec (.freeze d (fld b 64 64)) s) ∧
      (fld b 0 16 = 4 → State.runTurn s (.command fn) = exec (.thaw d (fld b 64 64)) s) ∧
      (fld b 0 16 = 5 → State.runTurn s (.command fn) = exec (.unfreeze d (fld b 64 32) (fld b 96 32)) s) ∧
      (fld b 0 16 = 6 → State.runTurn s (.command fn) = exec (.ctxsys d (fld b 64 32) (fld b 96 32)) s) ∧
      (s.Takes d → fld b 0 16 ∉ [1, 2, 3, 4, 5, 6, 0x10, 0x11, 0x12, 0x13, 0x14, 0x20, 0x21, 0x22, 0x23, 0x30, 0x31, 0x40, 0x41] →
        State.runTurn s (.command fn) = .next (s.reply d 5 0))) ∧
    (∀ (w : Work) (t : Task) (more : List Task), let q := s.queueOf queue
      let u := s.thawQueue queue
      q.st = .frozen → Store.sorted s.queues = true → s.cur.id = 0 → s.works = [w] → w.kind = .queue queue w.entry →
      (u.queueOf queue).st = .opened ∧ (u.queueOf queue).headBad = false ∧
      ((∀ x ∈ s.tasks, x.status ≠ .faulted) → w.broken = [] → u.tasks = s.tasks ∧ u.nextTask = s.nextTask) ∧
      (s.tasks = t :: more → t.work = w.id → t.status = .faulted → t.reissued = false → w.broken = [] →
        (∀ x ∈ more, x.status ≠ .faulted ∧ x.inst ≠ t.inst) → ∃ n, u.tasks = more ++ [n] ∧ u.nextTask = s.nextTask + 1 ∧
          n.id = s.nextTask ∧ n.work = w.id ∧ n.inst = t.inst ∧ n.status = .holding ∧ n.reissued = false ∧ n.held0 = false ∧ n.prepared = false ∧
          n.hdr = readHeader (u.idBytes (recHeader w.launch) 0 256) ∧ n.ckpt = n.hdr.entry ∧ n.arch.bgi = n.hdr.bgi ∧ n.arch.bgt = n.hdr.bgt ∧
          n.win.bytes = [] ∧ n.arch.v = [] ∧ n.arch.tiles = []) ∧
      (∀ g, w.broken = [(0, g)] → s.tasks ≠ [] → (∀ x ∈ s.tasks, x.work = w.id ∧ x.reissued = false ∧ groupNo w.launch x.inst 0 = g ∧
          (x.status = .faulted ∨ x.status = .ended)) →
        u.tasks.map (·.inst) = s.tasks.map (·.inst) ∧ (∀ x ∈ u.tasks, x.work = w.id ∧ x.status = .holding ∧ x.held0 = false) ∧
        u.tasks.map (·.id) = (List.range s.tasks.length).map (s.nextTask + ·)) ∧
      u.works = [{ w with broken := [] }]) ∧
    (let q := s.queueOf queue
      let u := s.thawQueue queue
      q.headBad = true → q.st = .frozen → Store.sorted s.queues = true → s.works = [] → q.disp ≠ q.tail →
      exec (.operatorHead queue) s = .next s ∧ ∀ r, r = u.idBytes q.base (128 * (q.disp % q.size)) 128 →
        (u.recordFault r ≠ none → ∃ v, exec (.operatorHead queue) u = .next v ∧ (v.queueOf queue).st = .frozen ∧ (v.queueOf queue).headBad = true) ∧
        (u.recordFault r = none → ∃ v w, exec (.operatorHead queue) u = .next v ∧ v.works = [w] ∧ w.kind = .queue queue q.disp ∧ w.head = true ∧
          w.record = r ∧ (v.queueOf queue).st = .opened)) ∧
    (∀ t w, s.taskOf task = some t → s.cur.id = 0 → s.tasks = [t] → s.works = [w] → t.work = w.id → t.status = .saved → t.reissued = false →
      s.pool = [] → t.heldq = [] → t.stores = [] → t.created = [] → t.wrote = [] →
      ∃ n, (s.killTask t).tasks = [n] ∧ n.id = s.nextTask ∧ n.work = t.work ∧ n.inst = t.inst ∧
        n.status = (if w.counter = 0 then .holding else .waiting) ∧ n.holds = t.holds ∧ n.prepared = t.held0 ∧ (s.killTask t).works = [w])

/-- R216, R309, R330 to R335, R341, R344, R345, R349, R352 to R355, R384: the commands that make, read and end sequences, paged
tensors, exports, proxies, intakes and decodes, that load a transform image and that attest. Which key slot, table entry or root the
device takes, and the signature of an attestation, is free (log entry 1); its digests are the device's (log entry 47).
What PTCREATE and IMPORT take, and what a decoder supports, are the model's reading (log entries 46, 51 and 81); that the result of INTAKE and DECODE is the job's number is its choice (log entry 89); allocations by the device are log entry 53; images and streams come from outside (log entry 61); SHA3-256 is FIPS 202's, and the firmware digest is that of the body (log entry 83). -/
def Obligations.Objects : Prop :=  (∀ (s : State) (c : Cmd) (seq addr tensor first count perms index proxy nonce : Nat) (pt : PtSpec) (im : ImportSpec) (ik : IntakeRec)
      (dr : DecodeRec) (xf : XfImage),
    let mine := fun (ctx ref : Nat) => c.fn = 0 ∨ (s.fnOfCtx ctx = c.fn ∧
      (ref = 0 ∨ 256 ≤ fld ref 32 16 ∨ s.fnOfCtx (s.queueOf (fld ref 32 16)).owner = c.fn));
    (∀ i ∈ [Instr.seqnew c, .seqend c seq, .seqread c seq addr, .ptcreate c pt, .recread c tensor addr, .exportWindow c tensor first count perms,
        .unexport c index, .importWindow c im, .unimport c proxy, .intake c ik, .decodeMedia c dr, .attest c addr nonce, .xfload c xf],
      (¬ s.Serves c.fn → exec i s = .next s) ∧
      (s.Serves c.fn → s.fnOfCtx c.ctx ≠ c.fn → c.fn ≠ 0 → s.Answers i c s 3 0)) ∧
    (s.Takes c →
      (s.rbgOk = false → s.Answers (.seqnew c) c s 4 0) ∧
      (∀ id u, s.seqReserve .reserved c.ctx 0 = some (id, u) → ∃ r, Store.look u.seqs id = some r ∧ r.owner = c.ctx ∧ r.parent = 0 ∧
        s.Answers (.seqnew c) c (u.seqLive id r []) 0 id ∧ 0 < id ∧ id < 2 ^ 24 ∧ Store.look s.seqs id = none ∧
        (s.keyOf r.slot).st = .free ∧ (∃ pair, u = { s.setKey r.slot { s.keyOf r.slot with pair := pair } with seqs := u.seqs, lastSeq := id, free := u.free })) ∧
      (Store.look s.seqs seq = none → s.Answers (.seqend c seq) c s 1 0 ∧ s.Answers (.seqread c seq addr) c s 1 0) ∧
      (∀ r, Store.look s.seqs seq = some r →
        (c.fn ≠ 0 → s.fnOfCtx r.owner ≠ c.fn → s.Answers (.seqend c seq) c s 3 0 ∧ s.Answers (.seqread c seq addr) c s 3 0) ∧
        (c.fn = 0 ∨ s.fnOfCtx r.owner = c.fn →
          (r.st ≠ .live → s.Answers (.seqend c seq) c s 1 0) ∧
          (r.st = .live → s.Answers (.seqend c seq) c (s.endSeq seq) 0 0) ∧
          (r.st ≠ .live → r.st ≠ .ended → s.Answers (.seqread c seq addr) c s 1 0) ∧
          (r.st = .live ∨ r.st = .ended →
            s.Answers (.seqread c seq addr) c { s with hostMem := Memory.setBytes s.hostMem addr (s.seqBytes seq r) } 0 0))) ∧
      (∀ r, Store.look s.seqs pt.seq = some r → c.fn = 0 ∨ s.fnOfCtx r.owner = c.fn →
        (ptOk pt = false → s.Answers (.ptcreate c pt) c s 5 0) ∧
        (ptOk pt = true →
          (r.st ≠ .live → s.Answers (.ptcreate c pt) c s 1 0) ∧
          (r.st = .live → (∀ t ∈ s.pagedOf pt.seq, fld t.id 24 4 ≠ pt.index) → s.homed pt.stack < 2 ^ 18 →
            ∃ t u, s.Answers (.ptcreate c pt) c u 0 (pt.stack * 2 ^ 30 + 2 ^ 29 + pt.index * 2 ^ 24 + pt.seq) ∧ u = { s with tensors := u.tensors } ∧
              u.tensor (pt.stack * 2 ^ 30 + 2 ^ 29 + pt.index * 2 ^ 24 + pt.seq) = some t ∧ t.st = .resident ∧ t.paged = true ∧ t.nodrop = true ∧
              t.fmt = pt.fmt ∧ t.e0 = pt.extents.headD 0 ∧ t.pgsz = pt.pgsz ∧ t.coh = pt.coh ∧ t.seq = pt.seq ∧ t.keyslot = r.slot ∧
              t.pages = [] ∧ t.epoch = 0 ∧ t.holds = 0))) ∧
      (Store.look s.seqs pt.seq = none → s.Answers (.ptcreate c pt) c s 1 0) ∧
      (s.tensor tensor = none → s.Answers (.recread c tensor addr) c s 1 0 ∧ s.Answers (.exportWindow c tensor first count perms) c s 1 0) ∧
      (∀ t o, s.tensor tensor = some t → s.ownerOf t = some o → c.fn ≠ 0 → s.fnOfCtx o ≠ c.fn →
        s.Answers (.recread c tensor addr) c s 3 0 ∧ (t.cut = false → s.Answers (.exportWindow c tensor first count perms) c s 3 0)) ∧
      (∀ t, s.tensor tensor = some t → (∀ o, s.ownerOf t = some o → c.fn = 0 ∨ s.fnOfCtx o = c.fn) →
        s.Answers (.recread c tensor addr) c { s with hostMem := Memory.setBytes s.hostMem addr t.recBytes } 0 0 ∧
        (t.cut = false →
          (count = 0 ∨ t.units < first + count ∨ 8 ≤ perms → s.Answers (.exportWindow c tensor first count perms) c s 5 0) ∧
          (0 < count → first + count ≤ t.units → perms < 8 → (Store.look s.exports 0 = none) → ∃ i u e,
            s.Answers (.exportWindow c tensor first count perms) c u 0 i ∧ i < 65536 ∧ Store.look u.exports i = some e ∧
            (∀ x, Store.look s.exports i = some x → x.live = false ∧ e.gen = x.gen) ∧ e.live = true ∧ e.tensor = tensor ∧ e.first = first ∧
            e.count = count ∧ e.perms = perms ∧ e.owner = c.ctx ∧ u.mem = s.mem ∧ u.tensors = s.tensors ∧
            (Store.sorted s.fns = true → fld (u.fnOf c.fn).cmdbuf 64 64 = e.key)))) ∧
      (∀ e, Store.look s.exports index = some e →
        (e.live = false → s.Answers (.unexport c index) c s 1 0) ∧
        (e.live = true → c.fn ≠ 0 → s.fnOfCtx e.owner ≠ c.fn → s.Answers (.unexport c index) c s 3 0) ∧
        (e.live = true → c.fn = 0 ∨ s.fnOfCtx e.owner = c.fn → s.Answers (.unexport c index) c
          { s with exports := Store.put index { e with live := false, gen := (e.gen + 1) % 2 ^ 32 } s.exports } 0 0)) ∧
      (Store.look s.exports index = none → s.Answers (.unexport c index) c s 1 0) ∧
      (16 ≤ im.member ∨ 65536 ≤ im.index ∨ 4 ≤ im.stack ∨ 8 ≤ im.perms ∨ fmtOk im.fmt = false → s.Answers (.importWindow c im) c s 5 0) ∧
      (im.member < 16 → im.index < 65536 → im.stack < 4 → im.perms < 8 → fmtOk im.fmt = true → 0 < im.count → s.imports = [] →
        ∃ i u, s.Answers (.importWindow c im) c u 0 (im.stack * 2 ^ 30 + 3 * 2 ^ 28 + i) ∧ i < 4096 ∧
          u = { s with imports := u.imports, free := u.free } ∧
          Store.look u.imports (im.stack * 4096 + i) = some ⟨im.member, im.index, im.key, im.count, im.fmt, im.perms, c.ctx, im.epoch, im.gen⟩) ∧
      (∀ e, isProxy proxy = true → fld proxy 12 16 = 0 → Store.look s.imports (importKey proxy) = some e →
        (c.fn ≠ 0 → s.fnOfCtx e.owner ≠ c.fn → s.Answers (.unimport c proxy) c s 3 0) ∧
        (c.fn = 0 ∨ s.fnOfCtx e.owner = c.fn → s.Answers (.unimport c proxy) c { s with imports := Store.del (importKey proxy) s.imports } 0 0)) ∧
      (isProxy proxy = false ∨ Store.look s.imports (importKey proxy) = none → s.Answers (.unimport c proxy) c s 1 0) ∧
      (¬ mine ik.ctx ik.ref → s.Answers (.intake c ik) c s 3 0) ∧
      (¬ mine dr.ctx dr.ref → s.Answers (.decodeMedia c dr) c s 3 0) ∧
      (mine ik.ctx ik.ref → 8 ≤ ik.drive ∨ ik.blocks = 0 ∨ 65536 < ik.blocks ∨ (ik.bsize ≠ 512 ∧ ik.bsize ≠ 4096) ∨ ik.offset % ik.bsize ≠ 0 →
        s.Answers (.intake c ik) c s 5 0) ∧
      (mine ik.ctx ik.ref → ik.drive < 8 → 0 < ik.blocks → ik.blocks ≤ 65536 → ik.bsize = 512 ∨ ik.bsize = 4096 → ik.offset % ik.bsize = 0 →
        (Store.look s.drives ik.drive ≠ some ik.bsize ∨ s.tensor ik.tensor = none → s.Answers (.intake c ik) c s 1 0) ∧
        (∀ t, Store.look s.drives ik.drive = some ik.bsize → s.tensor ik.tensor = some t →
          (t.cut = true ∨ t.ro = true ∨ t.seq ≠ 0 ∨ t.size < ik.offset + ik.blocks * ik.bsize → s.Answers (.intake c ik) c s 2 0) ∧
          (∀ h, s.jobRange ik.tensor ik.offset (ik.blocks * ik.bsize) = some h →
            s.Answers (.intake c ik) c (s.startJob (.intake ik) h) 0 s.nextJob ∧ h.id = ik.tensor ∧ h.mode = 2))) ∧
      (mine dr.ctx dr.ref → 8 ≤ dr.decoder ∧ dr.decoder ≠ 0xFF ∨ 2 ≤ dr.codec ∨ dr.frames = 0 → s.Answers (.decodeMedia c dr) c s 5 0) ∧
      (∀ b o, mine dr.ctx dr.ref → dr.decoder < 8 ∨ dr.decoder = 0xFF → dr.codec < 2 → 0 < dr.frames → s.tensor dr.stream = some b → s.tensor dr.output = some o →
        (s.decoderFor dr.decoder = none → s.Answers (.decodeMedia c dr) c s 4 0) ∧
        (∀ d, s.decoderFor dr.decoder = some d → d < 8 ∧ d ∉ s.decFrozen ∧ (dr.decoder < 8 → d = dr.decoder) ∧
          (b.size < dr.offset + dr.length ∨ o.fmt ≠ 5 → s.Answers (.decodeMedia c dr) c s 5 0) ∧
          (dr.offset + dr.length ≤ b.size → o.fmt = 5 →
            (∀ h, s.jobRange dr.output 0 o.size = some h → s.Answers (.decodeMedia c dr) c (s.startJob (.decode dr d) h) 0 s.nextJob) ∧
            (s.jobRange dr.output 0 o.size = none → s.Answers (.decodeMedia c dr) c
              (({ s with decFrozen := s.decFrozen ++ [d] } : State).masterNotice 4 d 5 dr.output) 0 0)))) ∧
      (∃ u, s.Answers (.attest c addr nonce) c u 0 0 ∧ u = { s with hostMem := u.hostMem, free := u.free } ∧
        u.hostMem = Memory.setBytes s.hostMem addr (s.report384 c nonce)) ∧
      (let r := s.report384 c nonce;
        r.length = 2676 ∧ recF r 0 4 = 1 ∧ recF r 4 4 = 256 ∧ recF r 8 8 = s.identity.serial.toNat ∧ recF r 16 32 = nonce % 2 ^ 256 ∧
        recF r 48 32 = (sha3 s.env.image.body).toNat ∧ recF r 80 32 = (sha3 ((s.xfImages.map fun d => leBytes d.toNat 32).flatten)).toNat ∧
        recF r 112 32 = (sha3 s.identity.publicKey).toNat ∧ recF r 144 4 = s.env.image.version % 2 ^ 32 ∧
        recF r 148 2 = s.env.member % 2 ^ 16 ∧ recF r 150 2 = c.fn % 2 ^ 16 ∧ recF r 152 8 = s.time % 2 ^ 64 ∧
        (∀ k, (recF r 160 8).testBit k = true ↔ k < 4 ∧ (s.stackOf k).cellstat = 1) ∧ recF r 168 88 = 0 ∧
        (let sig := (s.identity.key.sign (r.take 256) ((List.range 32).map (Config.freeBits 8 s.free))).getD [];
          ∀ i, i < 2420 → r.getD (256 + i) 0 = sig.getD i (Config.freeBits 8 s.free (32 + i))) ∧
        ∀ v : State, v.env = s.env → v.identity = s.identity → v.xfImages = s.xfImages →
            (∀ k, (v.stackOf k).cellstat = (s.stackOf k).cellstat) →
          (v.report384 c nonce).take 152 = r.take 152 ∧ ((v.report384 c nonce).drop 160).take 96 = (r.drop 160).take 96) ∧
      (c.fn ≠ 0 → s.Answers (.xfload c xf) c s 3 0) ∧
      (c.fn = 0 →
        let good := dsaVerify xf.image.key (leBytes (sha3 xf.image.body).toNat 32) xf.image.signature = true ∧
          sha3 xf.image.key = s.fuses.keyDigest ∧ s.fuses.minVersion ≤ xf.image.version;
        (2 ^ 20 < xf.size → s.Answers (.xfload c xf) c s 5 0) ∧
        (xf.size ≤ 2 ^ 20 → ¬ good ∨ (∃ r ∈ xf.routines, r ∈ s.routines) → s.Answers (.xfload c xf) c s 2 0) ∧
        (xf.size ≤ 2 ^ 20 → good → (∀ r ∈ xf.routines, r ∉ s.routines) →
          ((∃ r ∈ xf.routines, r < 0x0100 ∨ 0xFFFF ≤ r) → s.Answers (.xfload c xf) c s 5 0) ∧
          ((∀ r ∈ xf.routines, 0x0100 ≤ r ∧ r < 0xFFFF) →
            (65536 < s.xfBytes + xf.size → s.Answers (.xfload c xf) c s 4 0) ∧
            (s.xfBytes + xf.size ≤ 65536 →
              s.Answers (.xfload c xf) c
                { s with routines := s.routines ++ xf.routines, xfBytes := s.xfBytes + xf.size, xfMem := s.xfMem ++ xf.image.body.take xf.size
                         xfImages := s.xfImages ++ [sha3 xf.image.body] } 0 0)))))) ∧
  (∀ (s : State) (job : Nat) (j : Job), Store.look s.jobs job = some j →
      let ended := fun (e : JobEnd) => ({ s with jobs := Store.put job { j with result := some e } s.jobs } : State)
      (∀ r, j.kind = .intake r →
        (∀ e, exec (.decodeComplete job e) s = .next s) ∧
        (j.result.isSome = true → ∀ e, exec (.intakeComplete job e) s = .next s) ∧
        (j.result = none → j.held = true →
          (∀ bs, exec (.intakeComplete job (.data bs)) s = .next ((ended (.intake (.data bs))).jobDone job
            { j with result := some (.intake (.data bs)) } r.offset r.ctx r.ref (bs.take (r.blocks * r.bsize)))) ∧
          ∀ b st, exec (.intakeComplete job (.failed b st)) s = .next ((((ended (.intake (.failed b st))).endJob job j.hold).voidTensor j.hold.id).report
            r.ctx 0x0F 0 0 0xFFFFFFFF [r.tensor, b, st, 6]))) ∧
      (∀ r d, j.kind = .decode r d →
        (∀ e, exec (.intakeComplete job e) s = .next s) ∧
        (j.result.isSome = true → ∀ e, exec (.decodeComplete job e) s = .next s) ∧
        (j.result = none → j.held = true → ∀ e, let room := match s.tensor r.output with | some t => t.size / 2 | none => 0
          (∀ out, decoded r.codec r.frames room e = .inl out →
            exec (.decodeComplete job e) s = .next ((ended (.decode e)).jobDone job { j with result := some (.decode e) } 0 r.ctx r.ref (bytesOf 2 out))) ∧
          ∀ f why, decoded r.codec r.frames room e = .inr (f, why) →
            exec (.decodeComplete job e) s = .next ((((ended (.decode e)).endJob job j.hold).voidTensor j.hold.id).report
              r.ctx 0x0E 0 0 0xFFFFFFFF [r.output, f, why, 0])))) ∧
  (∀ (codec n room : Nat) (e : DecodeEnd), let shown := e.pictures.take n
    let total := (shown.map fun p => (frameElems e.info.depth p).length).sum
    (streamOk codec e.info = false → decoded codec n room e = .inr (0, 1)) ∧
    (streamOk codec e.info = true → (∀ p ∈ shown, pictureOk codec p = true) →
      (total ≤ room → e.corrupt = false ∨ n ≤ e.pictures.length →
        decoded codec n room e = .inl ((shown.map (frameElems e.info.depth)).flatten)) ∧
      (total ≤ room → e.corrupt = true → e.pictures.length < n → decoded codec n room e = .inr (e.pictures.length, 2)) ∧
      (room < total → ∃ f, f < shown.length ∧ decoded codec n room e = .inr (f, 3)))) ∧
  ∀ (depth : Nat) (p : Picture), let w := p.width / 2
    let h := p.height / 2
    let sample := fun (l : List Nat) (i : Nat) => if depth = 8 then l.getD i 0 * 4 % 1024 else l.getD i 0 % 1024
    (frameElems depth p).length = p.width * p.height + 2 * (w * h) ∧
    (∀ i, i < p.width * p.height → (frameElems depth p)[i]? = some (sample p.y i)) ∧
    ∀ i, i < w * h → (frameElems depth p)[p.width * p.height + i]? = some (sample p.cb i) ∧
      (frameElems depth p)[p.width * p.height + w * h + i]? = some (sample p.cr i)

/-- R284 to R286, R347, R348, R350, R374, R378: writes of the registers of queues, functions and stacks. A function reaches the
queues of its own contexts, the management function every one; it reaches its own command block and fault area; the stack block is the
management function's. A value that the register does not take leaves it as it is. CMDGO makes a function busy with the command in its
CMDBUF. A register that a function does not reach reads as zero to it, and so does CMDGO.
Which function serves a context at reset and which tasks are a queue's are the model's choice (log entries 45 and 77), that a clock falls with its cap is its reading (log entry 48), that the low bits of FABASE are dropped too (log entry 86), and some reads of the aperture are its reading (log entry 82). -/
def Obligations.Registers : Prop :=  ∀ (s : State) (fn n value : Nat),
    (¬ s.Serves fn → ∀ i ∈ [Instr.qtailWrite fn n value, .qsizeWrite fn n value, .qctlOpen fn n, .qctlDisable fn n, .lfcapWrite fn n value,
        .rackHiWrite fn n value, .rackLoWrite fn n value, .vbshiftWrite fn n value, .vbretireWrite fn n value, .registerWrite fn (.qbase n) value,
        .registerWrite fn (.qctl n) value, .registerWrite fn (.cmdbuf n) value, .registerWrite fn (.fabase n) value, .registerWrite fn .tlto value,
        .registerWrite fn (.vbidx n) value, .registerWrite fn (.cmdgo n) value], exec i s = .next s) ∧
    (let q := s.queueOf n;
      (256 ≤ n ∨ (fn ≠ 0 ∧ s.fnOfCtx q.owner ≠ fn) → ∀ i ∈ [Instr.qtailWrite fn n value, .qsizeWrite fn n value, .qctlOpen fn n,
        .qctlDisable fn n, .registerWrite fn (.qbase n) value, .registerWrite fn (.qctl n) value], exec i s = .next s) ∧
      (s.Serves fn → n < 256 → fn = 0 ∨ s.fnOfCtx q.owner = fn → value < 2 ^ 32 →
        (q.size < (value + 2 ^ 32 - q.ret) % 2 ^ 32 + q.resv ∨ (value + 2 ^ 32 - q.ret) % 2 ^ 32 < (q.disp + 2 ^ 32 - q.ret) % 2 ^ 32 →
          exec (.qtailWrite fn n value) s = .next (s.setQueue n q)) ∧
        ((value + 2 ^ 32 - q.ret) % 2 ^ 32 + q.resv ≤ q.size → (q.disp + 2 ^ 32 - q.ret) % 2 ^ 32 ≤ (value + 2 ^ 32 - q.ret) % 2 ^ 32 →
          exec (.qtailWrite fn n value) s = .next (s.setQueue n { q with tail := value })) ∧
        (q.st = .disabled →
          (∀ k, k ≤ 12 → value = 16 * 2 ^ k → exec (.qsizeWrite fn n value) s = .next (s.setQueue n { q with size := value })) ∧
          ((∀ k, k ≤ 12 → value ≠ 16 * 2 ^ k) → exec (.qsizeWrite fn n value) s = .next (s.setQueue n q)) ∧
          exec (.registerWrite fn (.qbase n) value) s = .next (s.setQueue n { q with base := value }) ∧
          (∀ t, q.size ≠ 0 → s.tensor q.base = some t → q.size * 128 ≤ t.size →
            exec (.qctlOpen fn n) s = .next (s.setQueue n { q with st := .opened, headBad := false })) ∧
          (q.size = 0 ∨ s.tensor q.base = none → exec (.qctlOpen fn n) s = .next (s.setQueue n q)) ∧
          (∀ owner permit, owner < 4096 → permit < 8 →
            exec (.registerWrite fn (.qctl n) (owner * 2 ^ 36 + permit * 2 ^ 32 + 2)) s =
              .next (s.setQueue n { q with owner := owner, permit := permit }))) ∧
        (q.st ≠ .disabled →
          exec (.qsizeWrite fn n value) s = .next (s.setQueue n q) ∧ exec (.registerWrite fn (.qbase n) value) s = .next (s.setQueue n q)) ∧
        (q.st = .opened → exec (.qctlOpen fn n) s = .next s) ∧
        (q.st = .frozen → exec (.qctlOpen fn n) s = .next (s.thawQueue n)) ∧
        (q.ret = q.disp → q.resv = 0 → s.works = [] → (∀ t ∈ s.allTasks, t.reissued = false) → exec (.qctlDisable fn n) s = .next (s.setQueue n { q with st := .disabled })) ∧
        (q.ret ≠ q.disp ∨ q.resv ≠ 0 → exec (.qctlDisable fn n) s = .next (s.setQueue n q)))) ∧
    (s.Serves fn → let f := s.fnOf fn
      exec (.registerWrite fn (.cmdbuf fn) value) s = .next (s.setFn fn { f with cmdbuf := value % 2 ^ 512 }) ∧
      exec (.registerWrite fn (.fabase fn) value) s = .next (s.setFn fn { f with fabase := value % 2 ^ 64 / 64 * 64 }) ∧
      (f.heldRecs = [] → Store.sorted s.fns = true →
        (∀ k, k ≤ 12 → value = 16 * 2 ^ k → exec (.fasizeWrite fn value) s = .next (s.setFn fn { f with fasize := value })) ∧
        exec (.fasizeWrite fn 0) s = .next (s.setFn fn { f with fasize := 0, lastAt := none, lost := if f.lastAt.isSome then 0 else f.lost }) ∧
        exec (.registerWrite fn (.fatail fn) value) s = .next (s.setFn fn { f with fatail := value % 2 ^ 32 })) ∧
      (∀ r, f.heldRecs = [r] → f.fasize = 0 → f.fahead = f.fatail → f.fahead < 2 ^ 32 → Store.sorted s.fns = true → ∃ u,
        exec (.fasizeWrite fn 16) s = .next u ∧ (u.fnOf fn).heldRecs = [] ∧ (u.fnOf fn).fahead = (f.fahead + 1) % 2 ^ 32 ∧
        (u.fnOf fn).msix = f.msix + 1 ∧
        (f.lost = 0 → u.hostMem = Memory.setBytes s.hostMem (f.fabase + 64 * (f.fahead % 16)) r) ∧
        (f.lastAt = none → f.lost ≠ 0 → u.hostMem =
          Memory.setByte (Memory.setBytes s.hostMem (f.fabase + 64 * (f.fahead % 16)) r) (f.fabase + 64 * (f.fahead % 16) + 3) (BitVec.ofNat 8 f.lost))) ∧
      exec (.registerWrite fn (.cmdgo fn) 1) s = .next (s.setFn fn { f with busy := true }) ∧
      (value % 2 ^ 64 ≠ 1 → exec (.registerWrite fn (.cmdgo fn) value) s = .next s) ∧
      (n ≠ fn → ∀ i ∈ [Instr.registerWrite fn (.cmdbuf n) value, .registerWrite fn (.fabase n) value, .registerWrite fn (.fatail n) value,
        .registerWrite fn (.cmdgo n) value], exec i s = .next s)) ∧
    (fn ≠ 0 ∨ 4 ≤ n → ∀ i ∈ [Instr.lfcapWrite fn n value, .rackHiWrite fn n value, .rackLoWrite fn n value, .vbshiftWrite fn n value,
        .vbretireWrite fn n value, .registerWrite fn (.vbidx n) value], exec i s = .next s) ∧
    (fn ≠ 0 → exec (.registerWrite fn .tlto value) s = .next s) ∧
    (s.Serves 0 → exec (.registerWrite 0 .tlto value) s = .next { s with tlto := value % 2 ^ 32 }) ∧
    (s.Serves 0 → n < 4 → let k := s.stackOf n
      exec (.registerWrite 0 (.vbidx n) value) s = .next (s.setStack n { k with vbidx := value % 2 ^ 10 }) ∧
      (∃ u, exec (.lfcapWrite 0 n value) s = .next (s.setStack n u) ∧ u = { k with m := u.m, c := u.c, k0 := u.k0, k1 := u.k1 } ∧
        (∀ x, x = (u.m, k.m, fld value 48 16) ∨ x = (u.c, k.c, fld value 32 16) ∨ x = (u.k1, k.k1, fld value 16 16) ∨ x = (u.k0, k.k0, fld value 0 16) →
          (300 ≤ x.2.2 → x.2.2 ≤ 750 → x.1 = { x.2.1 with cap := x.2.2 / 25 * 25, freq := min x.2.1.freq (x.2.2 / 25) }) ∧
          (x.2.2 < 300 ∨ 750 < x.2.2 → x.1 = x.2.1))) ∧
      (k.rackLo < value % 65536 → exec (.rackHiWrite 0 n value) s = .next (s.setStack n { k with rackHi := value % 65536 })) ∧
      (value % 65536 ≤ k.rackLo → exec (.rackHiWrite 0 n value) s = .next (s.setStack n k)) ∧
      (value % 65536 < k.rackHi → let again := fun (l : LayerSt) => { l with sensors := l.sensors.map fun x =>
          (x.1, { x.2 with since := if x.2.temp ≤ value % 65536 ∧ x.2.temp ≤ k.rackLo then x.2.since else s.time }) }
        exec (.rackLoWrite 0 n value) s = .next (s.setStack n { k with rackLo := value % 65536, k0 := again k.k0, k1 := again k.k1 })) ∧
      (k.rackHi ≤ value % 65536 → exec (.rackLoWrite 0 n value) s = .next (s.setStack n k)) ∧
      (k.cellstat = 0 →
        (value % 256 ≤ 32 ∨ value % 256 = 63 →
          exec (.vbshiftWrite 0 n value) s = .next (s.setStack n { k with vbshift := Store.set 63 k.vbshift k.vbidx (value % 256) })) ∧
        (32 < value % 256 → value % 256 ≠ 63 → exec (.vbshiftWrite 0 n value) s = .next (s.setStack n k)) ∧
        exec (.vbretireWrite 0 n value) s = .next (s.setStack n { k with vbretire := value % 2 ^ 32 })) ∧
      (k.cellstat ≠ 0 →
        exec (.vbshiftWrite 0 n value) s = .next (s.setStack n k) ∧ exec (.vbretireWrite 0 n value) s = .next (s.setStack n k))) ∧
    (∀ m, (s.run = none ∧ m = 0) ∨ (∃ b, s.run = some b ∧ m = b.member) → m < 16 →
      (s.bootstat ≠ 0 → s.regRead 0 (0x1000A8 + m * 0x1000) = some s.bootstat ∧ ∀ o, o ≠ 0x1000A8 + m * 0x1000 → s.regRead fn o = none) ∧
      (s.Serves fn → let f := s.fnOf fn
      let own := 0x100000 + m * 0x1000
      let block := 0x180000 + m * 0x1000
      s.regRead fn (own + 0x40) = some 0 ∧
      s.regRead fn (own + 0x48) = some ((if f.busy = true then 2 ^ 63 else 0) + f.result % 2 ^ 40 * 2 ^ 8 + f.status % 2 ^ 8) ∧
      s.regRead fn (own + 0x90) = some f.fahead ∧ s.regRead fn (own + 0x98) = some f.fatail ∧
      (n < 8 → s.regRead fn (own + 8 * n) = some (fld f.cmdbuf (64 * n) 64)) ∧
      s.regRead fn (own + 0xA8) = some 0 ∧
      (fn ≠ 0 → s.regRead fn (own + 0xA0) = some 0 ∧ ∀ o, o < 0x1000 → s.regRead fn (block + o) = some 0) ∧
      (n < 256 → let q := s.queueOf n
        let at_ := m * 0x10000 + n / 64 * 0x4000 + n % 64 * 0x100
        (fn ≠ 0 → s.fnOfCtx q.owner ≠ fn → ∀ o, o < 0x100 → s.regRead fn (at_ + o) = some 0) ∧
        (fn = 0 ∨ s.fnOfCtx q.owner = fn → s.regRead fn (at_ + 0x10) = some q.tail ∧ s.regRead fn (at_ + 0x18) = some q.disp ∧
          s.regRead fn (at_ + 0x20) = some q.ret)) ∧
      (fn = 0 → n < 4 → let k := s.stackOf n
        s.regRead fn (block + n * 0x400 + 0x28) = some k.k0.racked.toNat ∧ s.regRead fn (block + n * 0x400 + 0x30) = some k.k1.racked.toNat ∧
        s.regRead fn (block + n * 0x400 + 0x40) = some (Store.get 63 k.vbshift k.vbidx % 2 ^ 8) ∧
        s.regRead fn (block + n * 0x400 + 0x50) = some (k.cellstat % 2 ^ 8))))

/-- R262, R346, R347, R351, R370, R386: accesses from outside. A remote access whose epoch, generation, key, bounds or permission is wrong
changes nothing at the exporter, and a read changes nothing; a write or an atomic within them changes the bytes that it names and nothing
else but the summaries of the records that share the page. A host access outside its function's exports freezes the function, unless it
names a tensor that is gone with its sequence; behind a request of its function that waits, it waits. A read within them returns the bytes,
where it meets no revoked key and no poisoned tile. A write of several 8-byte parts is that many accesses. The owner context reads the
continuation record of a task that is PARKED or SAVED.
Values that leave the device are no part of the state (log entry 52); that an access to a DROPPED tensor asks for its recompute and waits is the model's choice (log entry 89). -/
def Obligations.OutsideAccesses : Prop :=  ∀ (s : State),
    let stored := fun (o : Host.Outcome State Fault Refusal) (id e addr : Nat) (d : List Byte) => ∃ u, o = .next u ∧
      u = { s with mem := Memory.setBytes s.mem addr d, tensors := u.tensors } ∧ (u.tensor id).isSome = true ∧
      ∀ i, u.tensor i = s.tensor i ∨ ∃ x, s.tensor i = some x ∧ (∃ p ∈ x.pages, p.2 = e) ∧ u.tensor i = some { x with st := s.summary x };
    (∀ (r : RemoteReq), (Store.look s.exports r.index = none → exec (.ingressAccess r) s = .next s) ∧
      (∀ e, Store.look s.exports r.index = some e →
        s.bootstat ≠ 0 ∨ r.epoch ≠ s.env.epoch ∨ e.live = false ∨ r.gen ≠ e.gen ∨ r.key ≠ e.key → exec (.ingressAccess r) s = .next s) ∧
      (∀ k e t, r.kind = .read k → Store.look s.exports r.index = some e → s.tensor e.tensor = some t → t.st ≠ .dropped →
        exec (.ingressAccess r) s = .next s) ∧
      (∀ d e t, r.kind = .write d → Store.look s.exports r.index = some e → s.tensor e.tensor = some t →
        e.perms.testBit 1 = false ∨ e.count * elemBytes t.fmt < r.elem * elemBytes t.fmt + d.length → exec (.ingressAccess r) s = .next s) ∧
      (∀ k op e t, r.kind = .atomic k op → Store.look s.exports r.index = some e → s.tensor e.tensor = some t →
        e.perms.testBit 2 = false ∨ e.count * elemBytes t.fmt < r.elem * elemBytes t.fmt + k → exec (.ingressAccess r) s = .next s) ∧
      ∀ e t, s.bootstat = 0 → r.epoch = s.env.epoch → Store.look s.exports r.index = some e → e.live = true → r.gen = e.gen → r.key = e.key →
        s.tensor e.tensor = some t →
        let off := (e.first + r.elem) * elemBytes t.fmt
        let inside := fun (n : Nat) => r.elem * elemBytes t.fmt + n ≤ e.count * elemBytes t.fmt
        (t.st = .dropped → let u := s.askFor e.owner t.id
          (∀ k, r.kind = .read k → e.perms.testBit 0 = true → inside k → exec (.ingressAccess r) s = .next { u with ingress := u.ingress ++ [r] }) ∧
          (∀ d, r.kind = .write d → e.perms.testBit 1 = true → inside d.length → s.meet t off d.length = none → t.id = e.tensor →
            exec (.ingressAccess r) s = .next { u with ingress := u.ingress ++ [r] })) ∧
        ∀ p, t.id = e.tensor → t.paged = false → t.st ≠ .dropped →
        t.entry (off / t.pageBytes) ≠ 0 → s.page (t.entry (off / t.pageBytes)) = some p → p.ref = 1 → p.coh ≠ 0 ∨ s.nc = [] → p.pk = false →
        let addr := pageAddr (t.entry (off / t.pageBytes)) (off % t.pageBytes)
        (∀ d, r.kind = .write d → e.perms.testBit 1 = true → inside d.length →
          off % t.pageBytes + d.length ≤ t.pageBytes → s.meet t off d.length = none →
          stored (exec (.ingressAccess r) s) t.id (t.entry (off / t.pageBytes)) addr d) ∧
        (∀ k op, r.kind = .atomic k op → e.perms.testBit 2 = true → inside k → off % t.pageBytes + k ≤ t.pageBytes → s.meet t off k = none →
          let wide := (∃ x, op = .fetch .add x ∨ op = .fetch .xchg x) ∨ ∃ c x, op = .cas c x
          let allowed := r.scope = .core ∨ r.scope = .stack ∨ p.coh ≠ 0 ∧ (r.scope = .quad ∨ r.scope = .package) ∨ p.coh = 2 ∧ wide
          let old := leNat (s.tensorBytes Agent.group t off k)
          let becomes := fun (v : Nat) => stored (exec (.ingressAccess r) s) t.id (t.entry (off / t.pageBytes)) addr (leBytes v k)
          (¬allowed → exec (.ingressAccess r) s = .next s) ∧
          (allowed → (∀ f x, op = .fetch f x → becomes (amoNew f (8 * k) old (x % 2 ^ (8 * k)))) ∧
            ∀ c x, op = .cas c x → becomes (if old = c % 2 ^ (8 * k) then x % 2 ^ (8 * k) else old)))) ∧
    (∀ (fn index offset : Nat),
      let hit := fun (t : Tensor) (e : ExportEnt) (bit n : Nat) =>
        Store.look s.exports index = some e ∧ s.tensor e.tensor = some t ∧ e.live = true ∧ s.fnOfCtx e.owner = fn ∧ e.perms.testBit bit = true ∧
          offset + n ≤ e.count * elemBytes t.fmt
      let gone := fun (bit : Nat) => ∃ e, Store.look s.exports index = some e ∧ s.tensor e.tensor = none ∧ e.live = true ∧ s.fnOfCtx e.owner = fn ∧
        e.perms.testBit bit = true
      let f := s.fnOf fn;
      (¬ s.Serves fn → ∀ n d op, ∀ i ∈ [Instr.hostApertureRead fn index offset n, .hostApertureWrite fn index offset d, .hostAtomicOp fn index offset n op],
        exec i s = .next s) ∧
      (∀ n op, (n ≠ 4 ∧ n ≠ 8) ∨ rmwWide op = false → exec (.hostAtomicOp fn index offset n op) s = .next s) ∧
      (s.Serves fn →
        (f.posted ≠ [] →
          (∀ n, exec (.hostApertureRead fn index offset n) s = .next (s.setFn fn { f with posted := f.posted ++ [.read index offset n] })) ∧
          (∀ d, offset % 8 + d.length ≤ 8 →
            exec (.hostApertureWrite fn index offset d) s = .next (s.setFn fn { f with posted := f.posted ++ [.write index offset d] })) ∧
          ∀ n op, n = 4 ∨ n = 8 → rmwWide op = true →
            exec (.hostAtomicOp fn index offset n op) s = .next (s.setFn fn { f with posted := f.posted ++ [.atomic index offset n op] })) ∧
        (∀ d t e, hit t e 1 d.length → 8 < offset % 8 + d.length → ∃ parts,
          exec (.hostApertureWrite fn index offset d) s = .next { (s.setFn fn { f with posted := f.posted ++ parts }) with free := s.free + 1 } ∧
          ∀ x, x ∈ parts ↔ ∃ o, o < d.length ∧ (o = 0 ∨ (offset + o) % 8 = 0) ∧ x = .write index (offset + o) ((d.drop o).take (8 - (offset + o) % 8))) ∧
        (f.posted = [] →
          (∀ n t e, hit t e 0 n → t.st ≠ .dropped → exec (.hostApertureRead fn index offset n) s = .next s) ∧
          (∀ n t e, hit t e 0 n → t.st ≠ .dropped → let off := e.first * elemBytes t.fmt + offset
            (s.meet t off n = none → s.hostRead fn index offset n = some (s.tensorBytes Agent.host t off n)) ∧
            ((s.meet t off n).isSome = true → s.hostRead fn index offset n = none)) ∧
          (∀ n, (∀ t e, ¬ hit t e 0 n) → s.hostRead fn index offset n = none) ∧
          (∀ n, (∀ t e, ¬ hit t e 0 n) → ¬ gone 0 → exec (.hostApertureRead fn index offset n) s = .next (s.hostViolation fn index)) ∧
          (∀ d, (∀ t e, ¬ hit t e 1 d.length) → ¬ gone 1 → exec (.hostApertureWrite fn index offset d) s = .next (s.hostViolation fn index)) ∧
          (∀ d, gone 1 → offset % 8 + d.length ≤ 8 → exec (.hostApertureWrite fn index offset d) s = .next s) ∧
          (∀ n op, n = 4 ∨ n = 8 → rmwWide op = true → (∀ t e, ¬ hit t e 2 n) → ¬ gone 2 →
            exec (.hostAtomicOp fn index offset n op) s = .next (s.hostViolation fn index)) ∧
          (∀ t e p, t.id = e.tensor → t.paged = false → t.st ≠ .dropped →
            let off := e.first * elemBytes t.fmt + offset
            t.entry (off / t.pageBytes) ≠ 0 → s.page (t.entry (off / t.pageBytes)) = some p → p.ref = 1 → p.coh ≠ 0 → p.pk = false →
            let addr := pageAddr (t.entry (off / t.pageBytes)) (off % t.pageBytes)
            (∀ d, hit t e 1 d.length → offset % 8 + d.length ≤ 8 → off % t.pageBytes + d.length ≤ t.pageBytes → s.meet t off d.length = none →
              stored (exec (.hostApertureWrite fn index offset d) s) t.id (t.entry (off / t.pageBytes)) addr d) ∧
            (∀ n, n = 4 ∨ n = 8 → hit t e 2 n → off % t.pageBytes + n ≤ t.pageBytes → s.meet t off n = none →
              let old := leNat (s.tensorBytes Agent.host t off n)
              (p.coh = 1 → ∀ op, exec (.hostAtomicOp fn index offset n op) s = .next s) ∧
              (p.coh = 2 → ∀ c w, stored (exec (.hostAtomicOp fn index offset n (.cas c w)) s) t.id (t.entry (off / t.pageBytes)) addr
                (leBytes (if old = c % 2 ^ (8 * n) then w % 2 ^ (8 * n) else old) n))))))) ∧
    (∀ fn index, let u := s.hostViolation fn index
      u.mem = s.mem ∧ u.tensors = s.tensors ∧ (Store.sorted s.fns = true → (u.fnOf fn).frozen = true)) ∧
    (∀ (c : Cmd) (task : Nat) (t : Task), s.taskOf task = some t →
      (t.status = .parked ∨ t.status = .saved → c.fn = 0 ∨ c.ctx = t.owner → s.contRead c task = some t.cont) ∧
      ((t.status ≠ .parked ∧ t.status ≠ .saved) ∨ (c.fn ≠ 0 ∧ c.ctx ≠ t.owner) → s.contRead c task = none))

/-- R374 to R383: the layers, their banks, clocks and power, the lines of a vertical bus, and the device reset. A bank is racked when its
sensor reads at or above RACK_HI, at most 48 of a stack: beyond that the layer's clock falls by 25 MHz, not below 300 MHz. Its lines leave it
one by one, for a bank of the other layer that reads at or below RACK_LO where one has room; then it sleeps, until its sensor has read at or
below RACK_LO for 1 ms. A layer's clock changes in steps of 25 MHz up to its cap. A cellar layer loses what it holds when its power goes off.
A logical line of a spare group takes the position that VBSHIFT gives it; a line fails the test of start-up as its loop says, and a bus one of
whose groups has two failed positions is retired; more than four retired of one boundary leave that stack's cellar disabled. A reset leaves every queue DISABLED and no task, tensor or sequence,
with BOOTSTAT 0xFF; start-up comes next, which ends with a code where the image is not signed under the fused key, is too old, or a test fails, and
else numbers the device and then sets BOOTSTAT to 0. A line that has failed stays failed.
R311, R385, R388: the deletion of a tensor by the host, and the loading of an image. The management function, or the function of the
owner, deletes; a tensor that is held is deleted later, and keeps its record until then. An image whose stated id is in use is not
loaded, nor one with more tensors than a stack has records; else each of its tensors has a record under the id stated or the lowest id not in use, with its contents.
What clock a layer can be given, the ingress epoch at a reset, what start-up meets, the size of a cellar line and the sensors at reset are the model's choice (log entries 48, 49, 55 and 78); that a deletion of a held tensor waits, and that start-up is two steps, is its reading (log entries 17 and 82); SHA3-256 is FIPS 202's (log entry 83). -/
def Obligations.Plant : Prop :=
   ((∀ (s : State) (stack bank mhz : Nat) (layer : Layer), let k := s.stackOf stack
      let l := k.layer layer
      let cellar := layer = .k0 ∨ layer = .k1
      let set := fun (x : LayerSt) => s.setStack stack (k.setLayer layer x)
      let x := Store.get Sensor.init l.sensors bank
      let b := (decide (layer = .k1), bank)
      (¬ cellar → exec (.rackBank stack layer bank) s = .next s ∧ exec (.bankWake stack layer bank) s = .next s ∧
        exec (.cellarLayerPowerOff stack layer) s = .next s ∧ exec (.cellarLayerPowerOn stack layer) s = .next s) ∧
      (cellar →
        (k.cellstat ≠ 1 ∨ l.on = false ∨ 64 ≤ bank ∨ l.racked.getLsbD bank = true ∨ b ∈ k.racking ∨ x.temp < k.rackHi →
          exec (.rackBank stack layer bank) s = .next s) ∧
        (k.cellstat = 1 → l.on = true → bank < 64 → l.racked.getLsbD bank = false → b ∉ k.racking → k.rackHi ≤ x.temp →
          (k.rackedCount < 48 → exec (.rackBank stack layer bank) s = .next (s.setStack stack { k with racking := k.racking ++ [b] })) ∧
          (48 ≤ k.rackedCount → exec (.rackBank stack layer bank) s = .next (set { l with freq := max 12 (l.freq - 1) }))) ∧
        (bank < 64 → l.racked.getLsbD bank = true → x.temp ≤ k.rackLo → x.since + 1000000 ≤ s.time →
          ∃ y, exec (.bankWake stack layer bank) s = .next (set y) ∧ y = { l with racked := y.racked } ∧
          ∀ i, y.racked.getLsbD i = (l.racked.getLsbD i && decide (i ≠ bank))) ∧
        (64 ≤ bank ∨ l.racked.getLsbD bank = false ∨ k.rackLo < x.temp ∨ s.time < x.since + 1000000 →
          exec (.bankWake stack layer bank) s = .next s) ∧
        (∃ u, exec (.cellarLayerPowerOff stack layer) s = .next (s.setStack stack u) ∧
          u = { (k.setLayer layer { l with on := false, racked := 0 }) with lines := u.lines, racking := u.racking } ∧
          (∀ c, c ∈ u.lines ↔ c ∈ k.lines ∧ c.upper = decide (layer ≠ .k1)) ∧ ∀ c, c ∈ u.racking ↔ c ∈ k.racking ∧ c.1 = decide (layer ≠ .k1)) ∧
        (l.on = true → exec (.cellarLayerPowerOn stack layer) s = .next s) ∧
        (l.on = false → ∃ x, exec (.cellarLayerPowerOn stack layer) s = .next (set x) ∧ x = { l with on := true, edge := x.edge } ∧ s.now ≤ x.edge)) ∧
      (mhz % 25 = 0 → 300 ≤ mhz → mhz ≤ l.cap → exec (.layerClockChange stack layer mhz) s = .next (set { l with freq := mhz / 25 })) ∧
      (mhz % 25 ≠ 0 ∨ mhz < 300 ∨ l.cap < mhz → exec (.layerClockChange stack layer mhz) s = .next s)) ∧
    (∀ (s : State) (stack : Nat) (b : Bool × Nat) (more : List (Bool × Nat)), let k := s.stackOf stack
      let cool := fun (n : Nat) => n < 64 ∧ k.bankOpen (!b.1, n) = true ∧ (k.bankTemp (!b.1, n)).temp ≤ k.rackLo
      stack < 4 → k.racking = b :: more →
        ((∀ l ∈ k.lines, ¬ (l.upper = b.1 ∧ l.bank = b.2)) →
          State.runTurn s (.rack stack) = .next (s.setStack stack ({ k with racking := k.racking.filter (· != b) }.setRacked b true))) ∧
        ∀ l, k.lines.find? (fun l => l.upper == b.1 && l.bank == b.2) = some l →
          ((∀ n, ¬ cool n) → State.runTurn s (.rack stack) = .next (s.setStack stack { k with lines := k.lines.filter (· != l) })) ∧
          ((∃ n, cool n) → Store.sorted s.dies = true → ∃ n u, cool n ∧ State.runTurn s (.rack stack) = .next u ∧ u = { s with free := u.free, dies := u.dies } ∧
            u.stackOf stack = { k with lines := k.lines.map fun x => if x = l then { x with upper := !b.1, bank := n } else x })) ∧
    (∀ (k : Stack) (boundary bus group i : Nat), i < 32 → let shift := Store.get 63 k.vbshift ((boundary * 16 + bus) * 32 + group)
      (k.vbretire.testBit (boundary * 16 + bus) = true → k.lineOf boundary bus group i = none) ∧
      (k.vbretire.testBit (boundary * 16 + bus) = false →
        (shift < 32 → shift ≤ i → k.lineOf boundary bus group i = some (33 * group + i + 1)) ∧
        (32 ≤ shift ∨ i < shift → k.lineOf boundary bus group i = some (33 * group + i)) ∧
        (shift ≤ 32 → k.lineOf boundary bus group i ≠ some (33 * group + shift)))) ∧
    (∀ shift, spareLeft shift = true ↔ shift = 63) ∧
    (∀ (fs : List LineFault) (m : Nat), lineFails fs m = true ↔ sampled fs m m = false ∨ ∃ l, l < 1056 ∧ l ≠ m ∧ sampled fs l m = true) ∧
    (∀ (s : State) (stack boundary bus : Nat), Store.sorted s.dies = true → Store.sorted (s.stackOf stack).vbshift = true →
      let k := s.stackOf stack
      let u := s.repairBus stack boundary bus
      let failed := fun (g : Nat) => s.badLines stack boundary bus g
      ((∀ g, g < 32 → (failed g).length < 2) → (u.stackOf stack).vbretire = k.vbretire ∧ u.fns = s.fns) ∧
      ((∃ g, g < 32 ∧ 2 ≤ (failed g).length) → (u.stackOf stack).vbretire = k.vbretire ||| 2 ^ (boundary * 16 + bus)) ∧
      ∀ g, g < 32 → let at_ := (boundary * 16 + bus) * 32 + g
        ((failed g).length = 1 → failed g = [Store.get 63 (u.stackOf stack).vbshift at_]) ∧
        ((failed g).length ≠ 1 → Store.get 63 (u.stackOf stack).vbshift at_ = Store.get 63 k.vbshift at_)) ∧
    ∀ (s : State), ∃ u, exec .deviceReset s = .next u ∧ u.tasks = [] ∧ u.works = [] ∧ u.tensors = [] ∧ u.seqs = [] ∧ u.queues = [] ∧ u.pool = [] ∧
      u.copies = [] ∧ u.exports = [] ∧ u.imports = [] ∧ u.cores = [] ∧ u.dies = [] ∧ u.keys = [(0, ⟨.live, 0, 1, 0⟩)] ∧ u.bootstat = 0xFF ∧
      u.boot = { s.boot with epoch := (s.boot.epoch + 1) % 2 ^ 32 } ∧ u.run = none ∧ u.fuses = s.fuses ∧ u.identity = s.identity ∧
      u.hostMem = s.hostMem ∧
      (s.agenda = [] → ∃ v, step u = .next v ∧ (let img := s.boot.image
      let signed := dsaVerify img.key (leBytes (sha3 img.body).toNat 32) img.signature = true ∧ sha3 img.key = s.fuses.keyDigest
      (¬ signed → v = { u with bootstat := 1 }) ∧
      (signed → img.version < s.fuses.minVersion → v = { u with bootstat := 2 }) ∧
      (signed → s.fuses.minVersion ≤ img.version →
        (s.boot.memory = false → v = { u with bootstat := 3 }) ∧
        (s.boot.memory = true → s.boot.rbg = false → v.bootstat = 4) ∧
        (s.boot.memory = true → s.boot.rbg = true → v.bootstat = 0xFF ∧ v.run = some u.boot ∧ v.linksDown = s.boot.linksDown ∧
          v.routes = s.boot.routes ∧ v.drives = [] ∧ v.routines = [] ∧ (∃ pair, v.keys = [(0, ⟨.live, 0, 1, pair⟩)]) ∧
          (s.boot.lines = [] → ∀ n, n < 4 → (v.stackOf n).cellstat = 1 ∧ (v.stackOf n).vbretire = 0) ∧
          (∀ n, n < 4 → let k := v.stackOf n
            let many := ∃ b, b < 2 ∧ 4 < (List.range 16).countP fun i => k.vbretire.testBit (16 * b + i)
            (many → k.cellstat = 2) ∧ (¬ many → k.cellstat = 1)) ∧
          ∃ w, step v = .next w ∧ w.bootstat = 0 ∧ w.now = 0 ∧ w.run = some u.boot ∧ w.routines = [1, 2, 0x10, 0x20, 0x30] ∧ w.drives = s.boot.drives ∧
            w.xfImages = Config.shippedImages.map sha3 ∧ w.xfMem = Config.shippedImages.flatten ∧ w.xfBytes = w.xfMem.length ∧ w.keys = v.keys ∧
            ∀ n, n < 4 → (w.stackOf n).cellstat = (v.stackOf n).cellstat ∧ (w.stackOf n).m.cyc = 0 ∧ (w.stackOf n).c.cyc = 0 ∧
              (w.stackOf n).k0.cyc = 0 ∧ (w.stackOf n).k1.cyc = 0)))) ∧
      ∀ b : BootEnv, ∃ v, State.runTurn s (.outside (.boot b)) = .next v ∧ v.run = s.run ∧ v.env = s.env ∧ v.boot.image = b.image ∧
        v.boot.epoch = s.boot.epoch ∧ ∀ l, l ∈ v.boot.lines ↔ l ∈ s.boot.lines ∨ l ∈ b.lines) ∧
   ((∀ (s : State) (fn id : Nat),
      (s.tensor id = none → exec (.hostDeletion fn id) s = .next s) ∧
      (∀ t, s.tensor id = some t →
        (¬ s.Serves fn → exec (.hostDeletion fn id) s = .next s) ∧
        (fn ≠ 0 → (∀ o, s.ownerOf t = some o → s.fnOfCtx o ≠ fn) → exec (.hostDeletion fn id) s = .next s) ∧
        (s.Serves fn → fn = 0 ∨ (∃ o, s.ownerOf t = some o ∧ s.fnOfCtx o = fn) →
          (t.st = .moving ∨ 0 < t.holds → exec (.hostDeletion fn id) s = .next (s.setTensor { t with after := .delete })) ∧
          (t.st ≠ .moving → t.st ≠ .dropped → t.holds = 0 → t.id = id → t.rcp = false → Store.sorted s.tensors = true → ∃ u,
            exec (.hostDeletion fn id) s = .next u ∧ u.tensor id = none ∧
            (∀ other, other ≠ id → u.tensor other = s.tensor other) ∧ u.cur = s.cur ∧ u.tasks = s.tasks)))) ∧
    ∀ (s : State) (stack : Nat) (x : ImageTensor), Store.sorted s.tensors = true →
      (∀ id, x.id = some id → (s.tensor id).isSome = true ∨ id = 0 ∨ 2 ^ 32 ≤ id ∨ id.testBit 29 = true → ∀ img : Image, x ∈ img.tensors →
        exec (.imageLoad img) s = .next s) ∧
      (∀ (img : Image), 2 ^ 18 < s.homed 0 + img.tensors.length → (∀ y ∈ img.tensors, ∃ id, y.id = some id ∧ id < 2 ^ 30) →
        exec (.imageLoad img) s = .next s) ∧
      ((∀ id, x.id = some id → Store.look s.tensors id = none ∧ 0 < id ∧ id < 2 ^ 32 ∧ id.testBit 29 = false) → stack < 4 → x.content = [] →
        (∀ n, s.homed n < 2 ^ 18) → ∃ u id t,
        exec (.imageLoad ⟨stack, [x], [], []⟩) s = .next u ∧ u = { s with tensors := u.tensors } ∧ u.tensor id = some t ∧
        Store.look s.tensors id = none ∧ (∀ i, x.id = some i → id = i) ∧
        (x.id = none → (∀ i, (if stack = 0 then 1 else stack * 2 ^ 30) ≤ i → i < id → (Store.look s.tensors i).isSome = true)) ∧
        t.st = .resident ∧ t.fmt = x.fmt ∧ t.ro = x.ro ∧ t.seq = 0 ∧ t.e0 = x.extents.headD 0 ∧ t.epoch = 0 ∧ t.holds = 0 ∧
        ∀ other, other ≠ id → u.tensor other = s.tensor other))
end

