-- ==== Sys2Proof/Laws/Advance.lean ====
section
/-! SUPPORT. Where issue goes after a bundle, case by case (R33, R129, R134). -/

namespace Sys2Proof.Machine

/-- A branch bundle outside every loop: its delay bundles are still to come. -/
theorem Task.advance_branch (t : Task) (pos next : Nat) (hd : t.delay ≠ 0) (hl : t.arch.loops = []) :
    t.advance pos next true = { t with pc := (next : Nat) } := by
  unfold Task.advance
  simp only [Bool.not_true, Bool.false_and, Bool.false_eq_true, if_false]
  rw [if_neg fun h => hd h.1, hl]
  rfl

/-- A delay bundle that is not the last one, outside every loop. -/
theorem Task.advance_first (t : Task) (pos next : Nat) (hd : t.delay = 2) (hl : t.arch.loops = []) :
    t.advance pos next false = { t with delay := 1, pc := (next : Nat) } := by
  unfold Task.advance
  have h2 : (!false && decide (t.delay > 0)) = true := by rw [hd]; rfl
  simp only [h2, if_true]
  rw [if_neg (by rw [hd]; exact fun h => absurd h.1 (by decide)), hd, hl]
  rfl

/-- The last delay bundle of a branch not taken, outside every loop. -/
theorem Task.advance_untaken (t : Task) (pos next : Nat) (hd : t.delay = 1) (hr : t.redirect = .none) (hl : t.arch.loops = []) :
    t.advance pos next false = { t with delay := 0, pc := (next : Nat) } := by
  unfold Task.advance
  have h2 : (!false && decide (t.delay > 0)) = true := by rw [hd]; rfl
  simp only [h2, if_true]
  rw [if_neg (by rw [hr]; exact fun h => h.2 rfl), hd, hl]
  rfl

/-- The last delay bundle of a taken branch. -/
theorem Task.advance_taken (t : Task) (pos next : Nat) (x : Int) (hd : t.delay = 1) (hr : t.redirect = .jump x) :
    t.advance pos next false = { t with delay := 0, redirect := .none, pc := x } := by
  unfold Task.advance
  have h2 : (!false && decide (t.delay > 0)) = true := by rw [hd]; rfl
  simp only [h2, if_true]
  rw [if_pos (by rw [hd, hr]; exact ⟨rfl, nofun⟩), hr, hd]

/-- The last delay bundle of LBRK. -/
theorem Task.advance_leave (t : Task) (pos next : Nat) (l : Loop) (hd : t.delay = 1) (hr : t.redirect = .leave)
    (hl : t.arch.loops.head? = some l) :
    t.advance pos next false = { t with delay := 0, redirect := .none, pc := (l.after : Nat), arch := { t.arch with loops := [] } } := by
  unfold Task.advance
  have h2 : (!false && decide (t.delay > 0)) = true := by rw [hd]; rfl
  simp only [h2, if_true]
  rw [if_pos (by rw [hd, hr]; exact ⟨rfl, nofun⟩), hr, hd]
  simp only [hl]

/-- The bundle of RETC. -/
theorem Task.advance_back (t : Task) (pos next : Nat) (hd : t.delay = 0) (hr : t.redirect = .back) :
    t.advance pos next false = { t with redirect := t.asideRedirect, delay := t.asideDelay, pc := (t.trapRet : Nat)
                                        arch := { t.arch with loops := t.aside }, aside := [], pins := t.asidePins, asidePins := [] } := by
  unfold Task.advance
  have h2 : (!false && decide (t.delay > 0)) = false := by rw [hd]; rfl
  simp only [h2, Bool.false_eq_true, if_false]
  rw [if_pos (by rw [hd, hr]; exact ⟨rfl, nofun⟩), hr]

/-- A bundle outside every loop and every delay. -/
theorem Task.advance_plain (t : Task) (pos next : Nat) (b : Bool) (hd : t.delay = 0) (hr : t.redirect = .none) (hl : t.arch.loops = []) :
    t.advance pos next b = { t with pc := (next : Nat) } := by
  unfold Task.advance
  have h2 : (!b && decide (t.delay > 0)) = false := by rw [hd]; cases b <;> rfl
  simp only [h2, Bool.false_eq_true, if_false]
  rw [if_neg (by rw [hr]; exact fun h => h.2 rfl), hl]
  rfl

/-- The last bundle of the innermost loop's body, outside every delay. -/
theorem Task.advance_body (t : Task) (pos next : Nat) (b : Bool) (l : Loop) (hd : t.delay = 0) (hr : t.redirect = .none)
    (hl : t.arch.loops.getLast? = some l) (hb : l.body.contains pos = true) :
    t.advance pos next b = t.passEnd pos t.arch.loops.length := by
  unfold Task.advance
  have h2 : (!b && decide (t.delay > 0)) = false := by rw [hd]; cases b <;> rfl
  simp only [h2, Bool.false_eq_true, if_false]
  rw [if_neg (by rw [hr]; exact fun h => h.2 rfl), hl]
  simp only [hb, if_true]

end Sys2Proof.Machine
end

