-- ==== Sys2Proof/Laws/Landing.lean ====
section
/-! SUPPORT. What a result set on its way does (R37, R38, R60): nothing but its own landing. -/

namespace Sys2Proof.Machine

/-- A result that overlaps none is one more entry of the results in flight. -/
theorem Task.emit_clear (t : Task) (u tag : Nat) (d : Dest) (bound : Nat) (fl : Flags)
    (h : ∀ p ∈ t.pend, d.key.isSome = true → p.dest.key = d.key → p.last ≤ u) :
    t.emit u tag d bound fl = { t with pend := t.pend ++ [⟨u, bound, d, fl, false, tag⟩] } := by
  unfold Task.emit
  have : (t.pend.filter fun p => d.key.isSome && p.dest.key == d.key && decide (u + 1 ≤ p.last)) = [] := by
    rw [List.filter_eq_nil_iff]
    intro p hp hc
    simp only [Bool.and_eq_true, beq_iff_eq, decide_eq_true_eq] at hc
    have := h p hp hc.1.1 hc.1.2
    omega
  rw [this]
  rfl

theorem tstatWrite_append (ps : List Pend) (p : Pend) (h : ∀ v, p.dest ≠ .tstat v) : tstatWrite (ps ++ [p]) = tstatWrite ps := by
  unfold tstatWrite
  rw [List.foldl_append]
  simp only [List.foldl_cons, List.foldl_nil]

theorem replaced_append (ps rest : List Pend) (p : Pend) (h : ∀ v, p.dest ≠ .tstat v) : replaced (ps ++ [p]) rest = replaced ps rest := by
  unfold replaced
  rw [tstatWrite_append ps p h]

theorem landFlags_append (old : Flags) (ps : List Pend) (p : Pend) (h : ∀ v, p.dest ≠ .tstat v)
    (hf : p.flags = 0 ∨ tstatWrite ps = none) : landFlags old (ps ++ [p]) = landFlags old ps ||| p.flags := by
  unfold landFlags
  rw [tstatWrite_append ps p h]
  split
  · simp [List.foldl_append]
  · rename_i w v hw
    rcases hf with hf | hf
    · rw [List.foldl_append]
      simp [hf]
    · rw [hf] at hw
      cases hw

theorem tstatWrite_none (ps : List Pend) (h : ∀ p ∈ ps, ∀ v, p.dest ≠ .tstat v) : tstatWrite ps = none := by
  unfold tstatWrite
  induction ps with
  | nil => rfl
  | cons p ps ih =>
    rw [List.foldl_cons]
    split
    · rename_i v hv
      exact absurd hv (h p (by simp) v)
    · exact ih fun q hq => h q (by simp [hq])

theorem replaced_nil (rest : List Pend) : replaced [] rest = rest := rfl
theorem landFlags_nil (old : Flags) : landFlags old [] = old := rfl

/-- The settling of a task without its case on whether anything is due. -/
theorem Task.settle_eq (t : Task) (u : Nat) :
    t.settle u =
      (let due := t.pend.filter fun p => decide (p.last ≤ u)
       let t1 := due.foldl Task.land { t with pend := replaced due (t.pend.filter fun p => !decide (p.last ≤ u)) }
       { t1 with arch := { t1.arch with tstat := landFlags t1.arch.tstat due } }) := by
  unfold Task.settle
  by_cases h : (t.pend.filter fun p => decide (p.last ≤ u)).isEmpty = true
  · have hd : (t.pend.filter fun p => decide (p.last ≤ u)) = [] := by simpa using h
    have hr : (t.pend.filter fun p => !decide (p.last ≤ u)) = t.pend := by
      rw [List.filter_eq_self]
      intro p hp
      rw [List.filter_eq_nil_iff] at hd
      simpa using hd p hp
    simp only [hd, hr, List.foldl_nil, replaced_nil, landFlags_nil, List.isEmpty_nil, if_true]
  · simp only [h]
    rfl

/-- A result whose landing changes registers other than TSTAT only. -/
def Dest.plain (d : Dest) : Prop := (∀ v, d ≠ .tstat v) ∧ (∀ a bs, d ≠ .store a bs)

theorem Task.land_plain (t : Task) (p : Pend) (h : p.dest.plain) (hu : p.undef = false) :
    t.land p = { t with arch := t.arch.land p.dest false p.tag } := by
  unfold Task.land
  split
  · rename_i a bs hd
    exact absurd hd (h.2 a bs)
  · rename_i v hd
    exact absurd hd (h.1 v)
  · rename_i i v hd
    rw [hd, hu]
    rfl
  · rw [hu]

theorem Arch.land_tstat (a : Arch) (d : Dest) (undef : Bool) (tag : Nat) (h : d.plain) : (a.land d undef tag).tstat = a.tstat := by
  cases d <;> first | rfl | exact absurd rfl (h.1 _)

/-- A result that overlaps none, once it has landed: the task is as it would be without it, but for the register and the flags. -/
theorem State.settle_emit (s : State) (d : Dest) (bound : Nat) (fl : Flags) (u : Nat) (hd : d.plain)
    (hc : ∀ k, d.key = some k → s.clear k) (hf : fl = 0 ∨ s.noTstat) (hu : s.clk + bound ≤ u) :
    (s.emit d bound fl).cur.settle u =
      { s.cur.settle u with
        arch := { (s.cur.settle u).arch.land d false s.free with tstat := (s.cur.settle u).arch.tstat ||| fl } } := by
  have he : (s.emit d bound fl).cur = { s.cur with pend := s.cur.pend ++ [⟨s.clk, bound, d, fl, false, s.free⟩] } := by
    unfold State.emit
    refine Task.emit_clear s.cur s.clk s.free d bound fl ?_
    intro p hp hs hk
    obtain ⟨k, hk2⟩ := Option.isSome_iff_exists.mp hs
    exact hc k hk2 p hp (hk.trans hk2)
  rw [he, Task.settle_eq, Task.settle_eq]
  have hlast : decide ((⟨s.clk, bound, d, fl, false, s.free⟩ : Pend).last ≤ u) = true := decide_eq_true hu
  simp only [List.filter_append, List.filter_cons, List.filter_nil, hlast, Bool.not_true, if_true, Bool.false_eq_true, if_false,
    List.append_nil]
  generalize hdue : (s.cur.pend.filter fun p => decide (p.last ≤ u)) = due
  have hnt : ∀ v, (⟨s.clk, bound, d, fl, false, s.free⟩ : Pend).dest ≠ .tstat v := hd.1
  have hfl : (⟨s.clk, bound, d, fl, false, s.free⟩ : Pend).flags = 0 ∨ tstatWrite due = none := by
    rcases hf with hf | hf
    · exact .inl hf
    · refine .inr (tstatWrite_none due ?_)
      intro p hp
      rw [← hdue] at hp
      exact hf p (List.mem_filter.mp hp).1
  rw [List.foldl_append, replaced_append _ _ _ hnt, landFlags_append _ _ _ hnt hfl]
  simp only [List.foldl_cons, List.foldl_nil]
  rw [Task.land_plain _ _ hd rfl]
  simp only [Arch.land_tstat _ _ _ _ hd]
  -- the fold starts from tasks that differ in nothing
  have hcomm : ∀ (a : Arch) (x : Flags), { a.land d false s.free with tstat := x } = ({ a with tstat := x } : Arch).land d false s.free := by
    intro a x
    cases d <;> first | rfl | exact absurd rfl (hd.1 _)
  simp only [hcomm]

end Sys2Proof.Machine
end

