-- ==== Sys2Proof/Laws/PerInstr.lean ====
section
/-! SUPPORT. For every instruction: the word that the encoding tables give a well-formed slot operation fits the bits of its slot, and
a step of the device has no encoding. -/

namespace Sys2Proof

/-- The bits of a slot of a class (R18). -/
def SlotClass.bits : SlotClass → Nat
  | .scalar => 40 | .vector => 48 | .special => 32 | .matrix => 40 | .copy => 36

theorem bit_le (b : Bool) : bit b ≤ 1 := by cases b <;> decide
theorem scode_lt (x : Int) (n : Nat) : scode x n < 2 ^ n := by
  have h : (0 : Int) < 2 ^ n := Int.pow_pos (by decide)
  have h1 := Int.emod_nonneg x (Int.ne_of_gt h)
  have h2 := Int.emod_lt_of_pos x h
  unfold scode
  have h3 : ((2 ^ n : Nat) : Int) = 2 ^ n := by simp
  omega
theorem guardS_le (g : Guard) (h : g.q < 16) : guardS g ≤ 31 * 2 ^ 27 := by
  have := bit_le g.neg
  simp only [guardS, put]; omega
theorem guardC_le (g : Guard) (h : g.q < 16) : guardC g ≤ 31 * 2 ^ 24 := by
  have := bit_le g.neg
  simp only [guardC, put]; omega
theorem Width.code_le (w : Width) : w.code ≤ 2 := by cases w <;> decide
theorem ET.code_le (t : ET) : t.code ≤ 12 := by cases t <;> decide
theorem Cond.code_le (c : Cond) : c.code ≤ 9 := by cases c <;> decide
theorem FCond.code_le (c : FCond) : c.code ≤ 7 := by cases c <;> decide
theorem BgSel.code_le (c : BgSel) : c.code ≤ 3 := by cases c <;> decide
theorem Layer.code_le (l : Layer) : l.code ≤ 3 := by cases l <;> decide
theorem AmoFn.code_le (c : AmoFn) : c.code ≤ 15 := by cases c <;> decide
theorem Scope.code_le (c : Scope) : c.code ≤ 5 := by cases c <;> decide
theorem GSize.code_le (c : GSize) : c.code ≤ 3 := by cases c <;> decide
theorem CSize.code_le (c : CSize) : c.code ≤ 1 := by cases c <;> decide
theorem DrainFmt.code_le (c : DrainFmt) : c.code ≤ 15 := by cases c <;> decide
theorem vmodeBits_le (f : VMode) (h : f.pg < 16) : vmodeBits f ≤ 2 * 2 ^ 37 + 15 * 2 ^ 33 + 12 * 2 ^ 29 + 1 := by
  have := Width.code_le f.w
  have := ET.code_le f.et
  have := bit_le f.zero
  simp only [vmodeBits, put]; omega
theorem fmodeBits_le (f : FMode) (h : f.pg < 16) : fmodeBits f ≤ 2 * 2 ^ 24 + 15 * 2 ^ 20 + 2 ^ 19 + 1 := by
  have := Width.code_le f.w
  have := bit_le f.bf
  have := bit_le f.zero
  simp only [fmodeBits, put]; omega
theorem optBits_le (o : Option Nat) (n en lo : Nat) (h : o.all (· < n) = true) : optBits o en lo ≤ 2 ^ en + (n - 1) * 2 ^ lo := by
  cases o with
  | none => exact Nat.zero_le _
  | some v =>
    have hv : v ≤ n - 1 := by have : v < n := by simpa using h
                              omega
    have := Nat.mul_le_mul_right (2 ^ lo) hv
    simp only [optBits, put]; omega
theorem all_scode (o : Option Int) (n : Nat) : (o.map (scode · n)).all (· < 2 ^ n) = true := by
  cases o with
  | none => rfl
  | some v => simpa using scode_lt v n

set_option Elab.async false

namespace Laws

/-- A well-formed slot operation has a word that fits its slot; a step of the device has none. -/
def Encoded.Statement (i : Instr) : Prop :=
  i.wf = true → match i.cls with
    | none => encodeSlot i = none
    | some c => ∃ w, encodeSlot i = some w ∧ w < 2 ^ c.bits

theorem Encoded.nop : Encoded.Statement .nop := fun _ => ⟨0, rfl, by decide⟩
theorem Encoded.add (g : Guard) (sd : Nat) (sa : Nat) (sb : Nat) : Encoded.Statement (.add g sd sa sb) := by
  intro hw
  have hw : (decide (g.q < 16) && decide (sd < 64) && decide (sa < 64) && decide (sb < 64)) = true := hw
  simp only [Bool.and_eq_true, decide_eq_true_eq] at hw
  refine ⟨_, rfl, ?_⟩
  have := guardS_le g (by omega)
  simp only [put, SlotClass.bits]
  omega
theorem Encoded.sub (g : Guard) (sd : Nat) (sa : Nat) (sb : Nat) : Encoded.Statement (.sub g sd sa sb) := by
  intro hw
  have hw : (decide (g.q < 16) && decide (sd < 64) && decide (sa < 64) && decide (sb < 64)) = true := hw
  simp only [Bool.and_eq_true, decide_eq_true_eq] at hw
  refine ⟨_, rfl, ?_⟩
  have := guardS_le g (by omega)
  simp only [put, SlotClass.bits]
  omega
theorem Encoded.mul (g : Guard) (sd : Nat) (sa : Nat) (sb : Nat) : Encoded.Statement (.mul g sd sa sb) := by
  intro hw
  have hw : (decide (g.q < 16) && decide (sd < 64) && decide (sa < 64) && decide (sb < 64)) = true := hw
  simp only [Bool.and_eq_true, decide_eq_true_eq] at hw
  refine ⟨_, rfl, ?_⟩
  have := guardS_le g (by omega)
  simp only [put, SlotClass.bits]
  omega
theorem Encoded.mulh (g : Guard) (sd : Nat) (sa : Nat) (sb : Nat) : Encoded.Statement (.mulh g sd sa sb) := by
  intro hw
  have hw : (decide (g.q < 16) && decide (sd < 64) && decide (sa < 64) && decide (sb < 64)) = true := hw
  simp only [Bool.and_eq_true, decide_eq_true_eq] at hw
  refine ⟨_, rfl, ?_⟩
  have := guardS_le g (by omega)
  simp only [put, SlotClass.bits]
  omega
theorem Encoded.div (g : Guard) (sd : Nat) (sa : Nat) (sb : Nat) : Encoded.Statement (.div g sd sa sb) := by
  intro hw
  have hw : (decide (g.q < 16) && decide (sd < 64) && decide (sa < 64) && decide (sb < 64)) = true := hw
  simp only [Bool.and_eq_true, decide_eq_true_eq] at hw
  refine ⟨_, rfl, ?_⟩
  have := guardS_le g (by omega)
  simp only [put, SlotClass.bits]
  omega
theorem Encoded.rem (g : Guard) (sd : Nat) (sa : Nat) (sb : Nat) : Encoded.Statement (.rem g sd sa sb) := by
  intro hw
  have hw : (decide (g.q < 16) && decide (sd < 64) && decide (sa < 64) && decide (sb < 64)) = true := hw
  simp only [Bool.and_eq_true, decide_eq_true_eq] at hw
  refine ⟨_, rfl, ?_⟩
  have := guardS_le g (by omega)
  simp only [put, SlotClass.bits]
  omega
theorem Encoded.min (g : Guard) (sd : Nat) (sa : Nat) (sb : Nat) : Encoded.Statement (.min g sd sa sb) := by
  intro hw
  have hw : (decide (g.q < 16) && decide (sd < 64) && decide (sa < 64) && decide (sb < 64)) = true := hw
  simp only [Bool.and_eq_true, decide_eq_true_eq] at hw
  refine ⟨_, rfl, ?_⟩
  have := guardS_le g (by omega)
  simp only [put, SlotClass.bits]
  omega
theorem Encoded.max (g : Guard) (sd : Nat) (sa : Nat) (sb : Nat) : Encoded.Statement (.max g sd sa sb) := by
  intro hw
  have hw : (decide (g.q < 16) && decide (sd < 64) && decide (sa < 64) && decide (sb < 64)) = true := hw
  simp only [Bool.and_eq_true, decide_eq_true_eq] at hw
  refine ⟨_, rfl, ?_⟩
  have := guardS_le g (by omega)
  simp only [put, SlotClass.bits]
  omega
theorem Encoded.and (g : Guard) (sd : Nat) (sa : Nat) (sb : Nat) : Encoded.Statement (.and g sd sa sb) := by
  intro hw
  have hw : (decide (g.q < 16) && decide (sd < 64) && decide (sa < 64) && decide (sb < 64)) = true := hw
  simp only [Bool.and_eq_true, decide_eq_true_eq] at hw
  refine ⟨_, rfl, ?_⟩
  have := guardS_le g (by omega)
  simp only [put, SlotClass.bits]
  omega
theorem Encoded.or (g : Guard) (sd : Nat) (sa : Nat) (sb : Nat) : Encoded.Statement (.or g sd sa sb) := by
  intro hw
  have hw : (decide (g.q < 16) && decide (sd < 64) && decide (sa < 64) && decide (sb < 64)) = true := hw
  simp only [Bool.and_eq_true, decide_eq_true_eq] at hw
  refine ⟨_, rfl, ?_⟩
  have := guardS_le g (by omega)
  simp only [put, SlotClass.bits]
  omega
theorem Encoded.xor (g : Guard) (sd : Nat) (sa : Nat) (sb : Nat) : Encoded.Statement (.xor g sd sa sb) := by
  intro hw
  have hw : (decide (g.q < 16) && decide (sd < 64) && decide (sa < 64) && decide (sb < 64)) = true := hw
  simp only [Bool.and_eq_true, decide_eq_true_eq] at hw
  refine ⟨_, rfl, ?_⟩
  have := guardS_le g (by omega)
  simp only [put, SlotClass.bits]
  omega
theorem Encoded.andn (g : Guard) (sd : Nat) (sa : Nat) (sb : Nat) : Encoded.Statement (.andn g sd sa sb) := by
  intro hw
  have hw : (decide (g.q < 16) && decide (sd < 64) && decide (sa < 64) && decide (sb < 64)) = true := hw
  simp only [Bool.and_eq_true, decide_eq_true_eq] at hw
  refine ⟨_, rfl, ?_⟩
  have := guardS_le g (by omega)
  simp only [put, SlotClass.bits]
  omega
theorem Encoded.shl (g : Guard) (sd : Nat) (sa : Nat) (sb : Nat) : Encoded.Statement (.shl g sd sa sb) := by
  intro hw
  have hw : (decide (g.q < 16) && decide (sd < 64) && decide (sa < 64) && decide (sb < 64)) = true := hw
  simp only [Bool.and_eq_true, decide_eq_true_eq] at hw
  refine ⟨_, rfl, ?_⟩
  have := guardS_le g (by omega)
  simp only [put, SlotClass.bits]
  omega
theorem Encoded.shr (g : Guard) (sd : Nat) (sa : Nat) (sb : Nat) : Encoded.Statement (.shr g sd sa sb) := by
  intro hw
  have hw : (decide (g.q < 16) && decide (sd < 64) && decide (sa < 64) && decide (sb < 64)) = true := hw
  simp only [Bool.and_eq_true, decide_eq_true_eq] at hw
  refine ⟨_, rfl, ?_⟩
  have := guardS_le g (by omega)
  simp only [put, SlotClass.bits]
  omega
theorem Encoded.sra (g : Guard) (sd : Nat) (sa : Nat) (sb : Nat) : Encoded.Statement (.sra g sd sa sb) := by
  intro hw
  have hw : (decide (g.q < 16) && decide (sd < 64) && decide (sa < 64) && decide (sb < 64)) = true := hw
  simp only [Bool.and_eq_true, decide_eq_true_eq] at hw
  refine ⟨_, rfl, ?_⟩
  have := guardS_le g (by omega)
  simp only [put, SlotClass.bits]
  omega
theorem Encoded.rol (g : Guard) (sd : Nat) (sa : Nat) (sb : Nat) : Encoded.Statement (.rol g sd sa sb) := by
  intro hw
  have hw : (decide (g.q < 16) && decide (sd < 64) && decide (sa < 64) && decide (sb < 64)) = true := hw
  simp only [Bool.and_eq_true, decide_eq_true_eq] at hw
  refine ⟨_, rfl, ?_⟩
  have := guardS_le g (by omega)
  simp only [put, SlotClass.bits]
  omega
theorem Encoded.clz (g : Guard) (sd : Nat) (sa : Nat) : Encoded.Statement (.clz g sd sa) := by
  intro hw
  have hw : (decide (g.q < 16) && decide (sd < 64) && decide (sa < 64)) = true := hw
  simp only [Bool.and_eq_true, decide_eq_true_eq] at hw
  refine ⟨_, rfl, ?_⟩
  have := guardS_le g (by omega)
  simp only [put, SlotClass.bits]
  omega
theorem Encoded.ctz (g : Guard) (sd : Nat) (sa : Nat) : Encoded.Statement (.ctz g sd sa) := by
  intro hw
  have hw : (decide (g.q < 16) && decide (sd < 64) && decide (sa < 64)) = true := hw
  simp only [Bool.and_eq_true, decide_eq_true_eq] at hw
  refine ⟨_, rfl, ?_⟩
  have := guardS_le g (by omega)
  simp only [put, SlotClass.bits]
  omega
theorem Encoded.popc (g : Guard) (sd : Nat) (sa : Nat) : Encoded.Statement (.popc g sd sa) := by
  intro hw
  have hw : (decide (g.q < 16) && decide (sd < 64) && decide (sa < 64)) = true := hw
  simp only [Bool.and_eq_true, decide_eq_true_eq] at hw
  refine ⟨_, rfl, ?_⟩
  have := guardS_le g (by omega)
  simp only [put, SlotClass.bits]
  omega
theorem Encoded.bfx (g : Guard) (sd : Nat) (sa : Nat) (sb : Nat) : Encoded.Statement (.bfx g sd sa sb) := by
  intro hw
  have hw : (decide (g.q < 16) && decide (sd < 64) && decide (sa < 64) && decide (sb < 64)) = true := hw
  simp only [Bool.and_eq_true, decide_eq_true_eq] at hw
  refine ⟨_, rfl, ?_⟩
  have := guardS_le g (by omega)
  simp only [put, SlotClass.bits]
  omega
theorem Encoded.bfi (g : Guard) (sd : Nat) (sa : Nat) (sb : Nat) : Encoded.Statement (.bfi g sd sa sb) := by
  intro hw
  have hw : (decide (g.q < 16) && decide (sd < 64) && decide (sa < 64) && decide (sb < 64)) = true := hw
  simp only [Bool.and_eq_true, decide_eq_true_eq] at hw
  refine ⟨_, rfl, ?_⟩
  have := guardS_le g (by omega)
  simp only [put, SlotClass.bits]
  omega
theorem Encoded.sel (g : Guard) (sd : Nat) (qs : Nat) (sa : Nat) (sb : Nat) : Encoded.Statement (.sel g sd qs sa sb) := by
  intro hw
  have hw : (decide (g.q < 16) && decide (sd < 64) && decide (qs < 16) && decide (sa < 64) && decide (sb < 64)) = true := hw
  simp only [Bool.and_eq_true, decide_eq_true_eq] at hw
  refine ⟨_, rfl, ?_⟩
  have := guardS_le g (by omega)
  simp only [put, SlotClass.bits]
  omega
theorem Encoded.cmp (g : Guard) (cc : Cond) (qd : Nat) (sa : Nat) (sb : Nat) : Encoded.Statement (.cmp g cc qd sa sb) := by
  intro hw
  have hw : (decide (g.q < 16) && decide (qd < 16) && decide (sa < 64) && decide (sb < 64)) = true := hw
  simp only [Bool.and_eq_true, decide_eq_true_eq] at hw
  refine ⟨_, rfl, ?_⟩
  have := guardS_le g (by omega)
  have := Cond.code_le cc
  simp only [put, SlotClass.bits]
  omega
theorem Encoded.addi (g : Guard) (sd : Nat) (sa : Nat) (imm : Int) : Encoded.Statement (.addi g sd sa imm) := by
  intro hw
  have hw : (decide (g.q < 16) && decide (sd < 64) && decide (sa < 64) && sfits imm 15) = true := hw
  simp only [Bool.and_eq_true, decide_eq_true_eq] at hw
  refine ⟨_, rfl, ?_⟩
  have := guardS_le g (by omega)
  have := scode_lt imm 15
  simp only [put, SlotClass.bits]
  omega
theorem Encoded.muli (g : Guard) (sd : Nat) (sa : Nat) (imm : Int) : Encoded.Statement (.muli g sd sa imm) := by
  intro hw
  have hw : (decide (g.q < 16) && decide (sd < 64) && decide (sa < 64) && sfits imm 15) = true := hw
  simp only [Bool.and_eq_true, decide_eq_true_eq] at hw
  refine ⟨_, rfl, ?_⟩
  have := guardS_le g (by omega)
  have := scode_lt imm 15
  simp only [put, SlotClass.bits]
  omega
theorem Encoded.andi (g : Guard) (sd : Nat) (sa : Nat) (imm : Nat) : Encoded.Statement (.andi g sd sa imm) := by
  intro hw
  have hw : (decide (g.q < 16) && decide (sd < 64) && decide (sa < 64) && decide (imm < 32768)) = true := hw
  simp only [Bool.and_eq_true, decide_eq_true_eq] at hw
  refine ⟨_, rfl, ?_⟩
  have := guardS_le g (by omega)
  simp only [put, SlotClass.bits]
  omega
theorem Encoded.ori (g : Guard) (sd : Nat) (sa : Nat) (imm : Nat) : Encoded.Statement (.ori g sd sa imm) := by
  intro hw
  have hw : (decide (g.q < 16) && decide (sd < 64) && decide (sa < 64) && decide (imm < 32768)) = true := hw
  simp only [Bool.and_eq_true, decide_eq_true_eq] at hw
  refine ⟨_, rfl, ?_⟩
  have := guardS_le g (by omega)
  simp only [put, SlotClass.bits]
  omega
theorem Encoded.xori (g : Guard) (sd : Nat) (sa : Nat) (imm : Nat) : Encoded.Statement (.xori g sd sa imm) := by
  intro hw
  have hw : (decide (g.q < 16) && decide (sd < 64) && decide (sa < 64) && decide (imm < 32768)) = true := hw
  simp only [Bool.and_eq_true, decide_eq_true_eq] at hw
  refine ⟨_, rfl, ?_⟩
  have := guardS_le g (by omega)
  simp only [put, SlotClass.bits]
  omega
theorem Encoded.shli (g : Guard) (sd : Nat) (sa : Nat) (n : Nat) : Encoded.Statement (.shli g sd sa n) := by
  intro hw
  have hw : (decide (g.q < 16) && decide (sd < 64) && decide (sa < 64) && decide (n < 64)) = true := hw
  simp only [Bool.and_eq_true, decide_eq_true_eq] at hw
  refine ⟨_, rfl, ?_⟩
  have := guardS_le g (by omega)
  simp only [put, SlotClass.bits]
  omega
theorem Encoded.shri (g : Guard) (sd : Nat) (sa : Nat) (n : Nat) : Encoded.Statement (.shri g sd sa n) := by
  intro hw
  have hw : (decide (g.q < 16) && decide (sd < 64) && decide (sa < 64) && decide (n < 64)) = true := hw
  simp only [Bool.and_eq_true, decide_eq_true_eq] at hw
  refine ⟨_, rfl, ?_⟩
  have := guardS_le g (by omega)
  simp only [put, SlotClass.bits]
  omega
theorem Encoded.srai (g : Guard) (sd : Nat) (sa : Nat) (n : Nat) : Encoded.Statement (.srai g sd sa n) := by
  intro hw
  have hw : (decide (g.q < 16) && decide (sd < 64) && decide (sa < 64) && decide (n < 64)) = true := hw
  simp only [Bool.and_eq_true, decide_eq_true_eq] at hw
  refine ⟨_, rfl, ?_⟩
  have := guardS_le g (by omega)
  simp only [put, SlotClass.bits]
  omega
theorem Encoded.cmpi (g : Guard) (cc : Cond) (qd : Nat) (sa : Nat) (imm : Int) : Encoded.Statement (.cmpi g cc qd sa imm) := by
  intro hw
  have hw : (decide (g.q < 16) && decide (qd < 16) && decide (sa < 64) && sfits imm 11) = true := hw
  simp only [Bool.and_eq_true, decide_eq_true_eq] at hw
  refine ⟨_, rfl, ?_⟩
  have := guardS_le g (by omega)
  have := Cond.code_le cc
  have := scode_lt imm 11
  simp only [put, SlotClass.bits]
  omega
theorem Encoded.ldi (g : Guard) (sd : Nat) (imm : Int) : Encoded.Statement (.ldi g sd imm) := by
  intro hw
  have hw : (decide (g.q < 16) && decide (sd < 64) && sfits imm 21) = true := hw
  simp only [Bool.and_eq_true, decide_eq_true_eq] at hw
  refine ⟨_, rfl, ?_⟩
  have := guardS_le g (by omega)
  have := scode_lt imm 21
  simp only [put, SlotClass.bits]
  omega
theorem Encoded.ldih (g : Guard) (sd : Nat) (imm : Nat) : Encoded.Statement (.ldih g sd imm) := by
  intro hw
  have hw : (decide (g.q < 16) && decide (sd < 64) && decide (imm < 2097152)) = true := hw
  simp only [Bool.and_eq_true, decide_eq_true_eq] at hw
  refine ⟨_, rfl, ?_⟩
  have := guardS_le g (by omega)
  simp only [put, SlotClass.bits]
  omega
theorem Encoded.lea (g : Guard) (sd : Nat) (sa : Nat) (off : Int) (sh : Nat) : Encoded.Statement (.lea g sd sa off sh) := by
  intro hw
  have hw : (decide (g.q < 16) && decide (sd < 64) && decide (sa < 64) && sfits off 12 && decide (sh < 8)) = true := hw
  simp only [Bool.and_eq_true, decide_eq_true_eq] at hw
  refine ⟨_, rfl, ?_⟩
  have := guardS_le g (by omega)
  have := scode_lt off 12
  simp only [put, SlotClass.bits]
  omega
theorem Encoded.fadd (g : Guard) (sd : Nat) (sa : Nat) (sb : Nat) : Encoded.Statement (.fadd g sd sa sb) := by
  intro hw
  have hw : (decide (g.q < 16) && decide (sd < 64) && decide (sa < 64) && decide (sb < 64)) = true := hw
  simp only [Bool.and_eq_true, decide_eq_true_eq] at hw
  refine ⟨_, rfl, ?_⟩
  have := guardS_le g (by omega)
  simp only [put, SlotClass.bits]
  omega
theorem Encoded.fsub (g : Guard) (sd : Nat) (sa : Nat) (sb : Nat) : Encoded.Statement (.fsub g sd sa sb) := by
  intro hw
  have hw : (decide (g.q < 16) && decide (sd < 64) && decide (sa < 64) && decide (sb < 64)) = true := hw
  simp only [Bool.and_eq_true, decide_eq_true_eq] at hw
  refine ⟨_, rfl, ?_⟩
  have := guardS_le g (by omega)
  simp only [put, SlotClass.bits]
  omega
theorem Encoded.fmul (g : Guard) (sd : Nat) (sa : Nat) (sb : Nat) : Encoded.Statement (.fmul g sd sa sb) := by
  intro hw
  have hw : (decide (g.q < 16) && decide (sd < 64) && decide (sa < 64) && decide (sb < 64)) = true := hw
  simp only [Bool.and_eq_true, decide_eq_true_eq] at hw
  refine ⟨_, rfl, ?_⟩
  have := guardS_le g (by omega)
  simp only [put, SlotClass.bits]
  omega
theorem Encoded.fma (g : Guard) (sd : Nat) (sa : Nat) (sb : Nat) (sc : Nat) : Encoded.Statement (.fma g sd sa sb sc) := by
  intro hw
  have hw : (decide (g.q < 16) && decide (sd < 64) && decide (sa < 64) && decide (sb < 64) && decide (sc < 64)) = true := hw
  simp only [Bool.and_eq_true, decide_eq_true_eq] at hw
  refine ⟨_, rfl, ?_⟩
  have := guardS_le g (by omega)
  simp only [put, SlotClass.bits]
  omega
theorem Encoded.fmin (g : Guard) (sd : Nat) (sa : Nat) (sb : Nat) : Encoded.Statement (.fmin g sd sa sb) := by
  intro hw
  have hw : (decide (g.q < 16) && decide (sd < 64) && decide (sa < 64) && decide (sb < 64)) = true := hw
  simp only [Bool.and_eq_true, decide_eq_true_eq] at hw
  refine ⟨_, rfl, ?_⟩
  have := guardS_le g (by omega)
  simp only [put, SlotClass.bits]
  omega
theorem Encoded.fmax (g : Guard) (sd : Nat) (sa : Nat) (sb : Nat) : Encoded.Statement (.fmax g sd sa sb) := by
  intro hw
  have hw : (decide (g.q < 16) && decide (sd < 64) && decide (sa < 64) && decide (sb < 64)) = true := hw
  simp only [Bool.and_eq_true, decide_eq_true_eq] at hw
  refine ⟨_, rfl, ?_⟩
  have := guardS_le g (by omega)
  simp only [put, SlotClass.bits]
  omega
theorem Encoded.fcmp (g : Guard) (cc : FCond) (qd : Nat) (sa : Nat) (sb : Nat) : Encoded.Statement (.fcmp g cc qd sa sb) := by
  intro hw
  have hw : (decide (g.q < 16) && decide (qd < 16) && decide (sa < 64) && decide (sb < 64)) = true := hw
  simp only [Bool.and_eq_true, decide_eq_true_eq] at hw
  refine ⟨_, rfl, ?_⟩
  have := guardS_le g (by omega)
  have := FCond.code_le cc
  simp only [put, SlotClass.bits]
  omega
theorem Encoded.fcvt (g : Guard) (dst : ET) (src : ET) (sd : Nat) (sa : Nat) : Encoded.Statement (.fcvt g dst src sd sa) := by
  intro hw
  have hw : (decide (g.q < 16) && dst.scalarCvt && src.scalarCvt && decide (sd < 64) && decide (sa < 64)) = true := hw
  simp only [Bool.and_eq_true, decide_eq_true_eq] at hw
  refine ⟨_, rfl, ?_⟩
  have := guardS_le g (by omega)
  have := ET.code_le dst
  have := ET.code_le src
  simp only [put, SlotClass.bits]
  omega
theorem Encoded.qop (g : Guard) (qd : Nat) (qa : Nat) (qb : Nat) (t : Nat) : Encoded.Statement (.qop g qd qa qb t) := by
  intro hw
  have hw : (decide (g.q < 16) && decide (qd < 16) && decide (qa < 16) && decide (qb < 16) && decide (t < 16)) = true := hw
  simp only [Bool.and_eq_true, decide_eq_true_eq] at hw
  refine ⟨_, rfl, ?_⟩
  have := guardS_le g (by omega)
  simp only [put, SlotClass.bits]
  omega
theorem Encoded.qmov (g : Guard) (qd : Nat) (sa : Nat) : Encoded.Statement (.qmov g qd sa) := by
  intro hw
  have hw : (decide (g.q < 16) && decide (qd < 16) && decide (sa < 64)) = true := hw
  simp only [Bool.and_eq_true, decide_eq_true_eq] at hw
  refine ⟨_, rfl, ?_⟩
  have := guardS_le g (by omega)
  simp only [put, SlotClass.bits]
  omega
theorem Encoded.movq (g : Guard) (sd : Nat) : Encoded.Statement (.movq g sd) := by
  intro hw
  have hw : (decide (g.q < 16) && decide (sd < 64)) = true := hw
  simp only [Bool.and_eq_true, decide_eq_true_eq] at hw
  refine ⟨_, rfl, ?_⟩
  have := guardS_le g (by omega)
  simp only [put, SlotClass.bits]
  omega
theorem Encoded.br (g : Guard) (off : Int) : Encoded.Statement (.br g off) := by
  intro hw
  have hw : (decide (g.q < 16) && sfits off 21) = true := hw
  simp only [Bool.and_eq_true, decide_eq_true_eq] at hw
  refine ⟨_, rfl, ?_⟩
  have := guardS_le g (by omega)
  have := scode_lt off 21
  simp only [put, SlotClass.bits]
  omega
theorem Encoded.call (g : Guard) (off : Int) : Encoded.Statement (.call g off) := by
  intro hw
  have hw : (decide (g.q < 16) && sfits off 21) = true := hw
  simp only [Bool.and_eq_true, decide_eq_true_eq] at hw
  refine ⟨_, rfl, ?_⟩
  have := guardS_le g (by omega)
  have := scode_lt off 21
  simp only [put, SlotClass.bits]
  omega
theorem Encoded.ret (g : Guard) : Encoded.Statement (.ret g) := by
  intro hw
  have hw : (decide (g.q < 16)) = true := hw
  simp only [decide_eq_true_eq] at hw
  refine ⟨_, rfl, ?_⟩
  have := guardS_le g (by omega)
  simp only [put, SlotClass.bits]
  omega
theorem Encoded.jr (g : Guard) (sa : Nat) : Encoded.Statement (.jr g sa) := by
  intro hw
  have hw : (decide (g.q < 16) && decide (sa < 64)) = true := hw
  simp only [Bool.and_eq_true, decide_eq_true_eq] at hw
  refine ⟨_, rfl, ?_⟩
  have := guardS_le g (by omega)
  simp only [put, SlotClass.bits]
  omega
theorem Encoded.loop (sa : Nat) (n : Nat) (level : Nat) (stages : Nat) (margin : Nat) (rs : Bool) : Encoded.Statement (.loop sa n level stages margin rs) := by
  intro hw
  have hw : (decide (sa < 64) && decide (0 < n) && decide (n ≤ 64) && decide (level < 8) && decide (level < 6) && decide (0 < stages) && decide (stages ≤ 8) && decide (margin < 256)) = true := hw
  simp only [Bool.and_eq_true, decide_eq_true_eq] at hw
  refine ⟨_, rfl, ?_⟩
  have := bit_le rs
  simp only [put, SlotClass.bits]
  omega
theorem Encoded.lbrk (g : Guard) : Encoded.Statement (.lbrk g) := by
  intro hw
  have hw : (decide (g.q < 16)) = true := hw
  simp only [decide_eq_true_eq] at hw
  refine ⟨_, rfl, ?_⟩
  have := guardS_le g (by omega)
  simp only [put, SlotClass.bits]
  omega
theorem Encoded.rot (g : Guard) : Encoded.Statement (.rot g) := by
  intro hw
  have hw : (decide (g.q < 16)) = true := hw
  simp only [decide_eq_true_eq] at hw
  refine ⟨_, rfl, ?_⟩
  have := guardS_le g (by omega)
  simp only [put, SlotClass.bits]
  omega
theorem Encoded.yld (carry : Nat) (off : Int) : Encoded.Statement (.yld carry off) := by
  intro hw
  have hw : (decide (carry < 64) && decide (carry < 16) && sfits off 21) = true := hw
  simp only [Bool.and_eq_true, decide_eq_true_eq] at hw
  refine ⟨_, rfl, ?_⟩
  have := scode_lt off 21
  simp only [put, SlotClass.bits]
  omega
theorem Encoded.endTask (g : Guard) : Encoded.Statement (.endTask g) := by
  intro hw
  have hw : (decide (g.q < 16)) = true := hw
  simp only [decide_eq_true_eq] at hw
  refine ⟨_, rfl, ?_⟩
  have := guardS_le g (by omega)
  simp only [put, SlotClass.bits]
  omega
theorem Encoded.trap (g : Guard) (code : Nat) : Encoded.Statement (.trap g code) := by
  intro hw
  have hw : (decide (g.q < 16) && decide (code < 32768)) = true := hw
  simp only [Bool.and_eq_true, decide_eq_true_eq] at hw
  refine ⟨_, rfl, ?_⟩
  have := guardS_le g (by omega)
  simp only [put, SlotClass.bits]
  omega
theorem Encoded.retc : Encoded.Statement .retc := by
  intro hw
  refine ⟨_, rfl, ?_⟩
  simp only [put, SlotClass.bits]
  omega
theorem Encoded.bgrd (g : Guard) (sd : Nat) (which : BgSel) : Encoded.Statement (.bgrd g sd which) := by
  intro hw
  have hw : (decide (g.q < 16) && decide (sd < 64)) = true := hw
  simp only [Bool.and_eq_true, decide_eq_true_eq] at hw
  refine ⟨_, rfl, ?_⟩
  have := guardS_le g (by omega)
  have := BgSel.code_le which
  simp only [put, SlotClass.bits]
  omega
theorem Encoded.bgtop (g : Guard) (sa : Nat) (sb : Nat) : Encoded.Statement (.bgtop g sa sb) := by
  intro hw
  have hw : (decide (g.q < 16) && decide (sa < 64) && decide (sb < 64)) = true := hw
  simp only [Bool.and_eq_true, decide_eq_true_eq] at hw
  refine ⟨_, rfl, ?_⟩
  have := guardS_le g (by omega)
  simp only [put, SlotClass.bits]
  omega
theorem Encoded.bggive (g : Guard) (sa : Nat) (sb : Nat) (bgt : Bool) : Encoded.Statement (.bggive g sa sb bgt) := by
  intro hw
  have hw : (decide (g.q < 16) && decide (sa < 64) && decide (sb < 64)) = true := hw
  simp only [Bool.and_eq_true, decide_eq_true_eq] at hw
  refine ⟨_, rfl, ?_⟩
  have := guardS_le g (by omega)
  have := bit_le bgt
  simp only [put, SlotClass.bits]
  omega
theorem Encoded.estm (g : Guard) (sa : Nat) : Encoded.Statement (.estm g sa) := by
  intro hw
  have hw : (decide (g.q < 16) && decide (sa < 64)) = true := hw
  simp only [Bool.and_eq_true, decide_eq_true_eq] at hw
  refine ⟨_, rfl, ?_⟩
  have := guardS_le g (by omega)
  simp only [put, SlotClass.bits]
  omega
theorem Encoded.time (g : Guard) (sd : Nat) : Encoded.Statement (.time g sd) := by
  intro hw
  have hw : (decide (g.q < 16) && decide (sd < 64)) = true := hw
  simp only [Bool.and_eq_true, decide_eq_true_eq] at hw
  refine ⟨_, rfl, ?_⟩
  have := guardS_le g (by omega)
  simp only [put, SlotClass.bits]
  omega
theorem Encoded.cyc (g : Guard) (sd : Nat) (layer : Layer) : Encoded.Statement (.cyc g sd layer) := by
  intro hw
  have hw : (decide (g.q < 16) && decide (sd < 64)) = true := hw
  simp only [Bool.and_eq_true, decide_eq_true_eq] at hw
  refine ⟨_, rfl, ?_⟩
  have := guardS_le g (by omega)
  have := Layer.code_le layer
  simp only [put, SlotClass.bits]
  omega
theorem Encoded.srd (g : Guard) (sd : Nat) (idx : Nat) : Encoded.Statement (.srd g sd idx) := by
  intro hw
  have hw : (decide (g.q < 16) && decide (sd < 64) && decide (idx < 4096) && sysIndexOk idx) = true := hw
  simp only [Bool.and_eq_true, decide_eq_true_eq] at hw
  refine ⟨_, rfl, ?_⟩
  have := guardS_le g (by omega)
  simp only [put, SlotClass.bits]
  omega
theorem Encoded.swr (g : Guard) (sa : Nat) (idx : Nat) : Encoded.Statement (.swr g sa idx) := by
  intro hw
  have hw : (decide (g.q < 16) && decide (sa < 64) && decide (idx < 4096) && sysIndexWritable idx) = true := hw
  simp only [Bool.and_eq_true, decide_eq_true_eq] at hw
  refine ⟨_, rfl, ?_⟩
  have := guardS_le g (by omega)
  simp only [put, SlotClass.bits]
  omega
theorem Encoded.lnch (g : Guard) (sd : Nat) (qs : Nat) (sa : Nat) : Encoded.Statement (.lnch g sd qs sa) := by
  intro hw
  have hw : (decide (g.q < 16) && decide (sd < 64) && decide (qs < 16) && decide (sa < 64)) = true := hw
  simp only [Bool.and_eq_true, decide_eq_true_eq] at hw
  refine ⟨_, rfl, ?_⟩
  have := guardS_le g (by omega)
  simp only [put, SlotClass.bits]
  omega
theorem Encoded.ljoin (g : Guard) (qs : Nat) (sa : Nat) : Encoded.Statement (.ljoin g qs sa) := by
  intro hw
  have hw : (decide (g.q < 16) && decide (qs < 16) && decide (sa < 64)) = true := hw
  simp only [Bool.and_eq_true, decide_eq_true_eq] at hw
  refine ⟨_, rfl, ?_⟩
  have := guardS_le g (by omega)
  simp only [put, SlotClass.bits]
  omega
theorem Encoded.enq (g : Guard) (qs : Nat) (sa : Nat) (sb : Nat) : Encoded.Statement (.enq g qs sa sb) := by
  intro hw
  have hw : (decide (g.q < 16) && decide (qs < 16) && decide (sa < 64) && decide (sb < 64)) = true := hw
  simp only [Bool.and_eq_true, decide_eq_true_eq] at hw
  refine ⟨_, rfl, ?_⟩
  have := guardS_le g (by omega)
  simp only [put, SlotClass.bits]
  omega
theorem Encoded.ddec (g : Guard) (sa : Nat) : Encoded.Statement (.ddec g sa) := by
  intro hw
  have hw : (decide (g.q < 16) && decide (sa < 64)) = true := hw
  simp only [Bool.and_eq_true, decide_eq_true_eq] at hw
  refine ⟨_, rfl, ?_⟩
  have := guardS_le g (by omega)
  simp only [put, SlotClass.bits]
  omega
theorem Encoded.hint (g : Guard) (sa : Nat) (code : Nat) : Encoded.Statement (.hint g sa code) := by
  intro hw
  have hw : (decide (g.q < 16) && decide (sa < 64) && decide (code < 32768)) = true := hw
  simp only [Bool.and_eq_true, decide_eq_true_eq] at hw
  refine ⟨_, rfl, ?_⟩
  have := guardS_le g (by omega)
  simp only [put, SlotClass.bits]
  omega
theorem Encoded.seqf (g : Guard) (sd : Nat) (qs : Nat) (sa : Nat) : Encoded.Statement (.seqf g sd qs sa) := by
  intro hw
  have hw : (decide (g.q < 16) && decide (sd < 64) && decide (qs < 16) && decide (sa < 64)) = true := hw
  simp only [Bool.and_eq_true, decide_eq_true_eq] at hw
  refine ⟨_, rfl, ?_⟩
  have := guardS_le g (by omega)
  simp only [put, SlotClass.bits]
  omega
theorem Encoded.seqe (g : Guard) (sa : Nat) : Encoded.Statement (.seqe g sa) := by
  intro hw
  have hw : (decide (g.q < 16) && decide (sa < 64)) = true := hw
  simp only [Bool.and_eq_true, decide_eq_true_eq] at hw
  refine ⟨_, rfl, ?_⟩
  have := guardS_le g (by omega)
  simp only [put, SlotClass.bits]
  omega
theorem Encoded.tgrow (g : Guard) (h : Nat) (qs : Nat) (sa : Nat) : Encoded.Statement (.tgrow g h qs sa) := by
  intro hw
  have hw : (decide (g.q < 16) && decide (h < 16) && decide (qs < 16) && decide (sa < 64)) = true := hw
  simp only [Bool.and_eq_true, decide_eq_true_eq] at hw
  refine ⟨_, rfl, ?_⟩
  have := guardS_le g (by omega)
  simp only [put, SlotClass.bits]
  omega
theorem Encoded.tdef (g : Guard) (h : Nat) (qs : Nat) (sa : Nat) : Encoded.Statement (.tdef g h qs sa) := by
  intro hw
  have hw : (decide (g.q < 16) && decide (h < 16) && decide (qs < 16) && decide (sa < 64)) = true := hw
  simp only [Bool.and_eq_true, decide_eq_true_eq] at hw
  refine ⟨_, rfl, ?_⟩
  have := guardS_le g (by omega)
  simp only [put, SlotClass.bits]
  omega
theorem Encoded.tfree (g : Guard) (h : Nat) : Encoded.Statement (.tfree g h) := by
  intro hw
  have hw : (decide (g.q < 16) && decide (h < 16)) = true := hw
  simp only [Bool.and_eq_true, decide_eq_true_eq] at hw
  refine ⟨_, rfl, ?_⟩
  have := guardS_le g (by omega)
  simp only [put, SlotClass.bits]
  omega
theorem Encoded.vadd (f : VMode) (vd : Nat) (va : Nat) (vb : Nat) : Encoded.Statement (.vadd f vd va vb) := by
  intro hw
  have hw : (decide (f.pg < 16) && (f.et.isInt || f.et.isFloat3) && decide (vd < 512) && decide (va < 512) && decide (vb < 512)) = true := hw
  simp only [Bool.and_eq_true, decide_eq_true_eq] at hw
  refine ⟨_, rfl, ?_⟩
  have := vmodeBits_le f (by omega)
  simp only [put, SlotClass.bits]
  omega
theorem Encoded.vsub (f : VMode) (vd : Nat) (va : Nat) (vb : Nat) : Encoded.Statement (.vsub f vd va vb) := by
  intro hw
  have hw : (decide (f.pg < 16) && (f.et.isInt || f.et.isFloat3) && decide (vd < 512) && decide (va < 512) && decide (vb < 512)) = true := hw
  simp only [Bool.and_eq_true, decide_eq_true_eq] at hw
  refine ⟨_, rfl, ?_⟩
  have := vmodeBits_le f (by omega)
  simp only [put, SlotClass.bits]
  omega
theorem Encoded.vmul (f : VMode) (vd : Nat) (va : Nat) (vb : Nat) : Encoded.Statement (.vmul f vd va vb) := by
  intro hw
  have hw : (decide (f.pg < 16) && (f.et.isInt || f.et.isFloat3) && decide (vd < 512) && decide (va < 512) && decide (vb < 512)) = true := hw
  simp only [Bool.and_eq_true, decide_eq_true_eq] at hw
  refine ⟨_, rfl, ?_⟩
  have := vmodeBits_le f (by omega)
  simp only [put, SlotClass.bits]
  omega
theorem Encoded.vmulh (f : VMode) (vd : Nat) (va : Nat) (vb : Nat) : Encoded.Statement (.vmulh f vd va vb) := by
  intro hw
  have hw : (decide (f.pg < 16) && f.et.isInt && decide (vd < 512) && decide (va < 512) && decide (vb < 512)) = true := hw
  simp only [Bool.and_eq_true, decide_eq_true_eq] at hw
  refine ⟨_, rfl, ?_⟩
  have := vmodeBits_le f (by omega)
  simp only [put, SlotClass.bits]
  omega
theorem Encoded.vfma (f : VMode) (vd : Nat) (va : Nat) (vb : Nat) : Encoded.Statement (.vfma f vd va vb) := by
  intro hw
  have hw : (decide (f.pg < 16) && f.et.isFloat3 && decide (vd < 512) && decide (va < 512) && decide (vb < 512)) = true := hw
  simp only [Bool.and_eq_true, decide_eq_true_eq] at hw
  refine ⟨_, rfl, ?_⟩
  have := vmodeBits_le f (by omega)
  simp only [put, SlotClass.bits]
  omega
theorem Encoded.vfms (f : VMode) (vd : Nat) (va : Nat) (vb : Nat) : Encoded.Statement (.vfms f vd va vb) := by
  intro hw
  have hw : (decide (f.pg < 16) && f.et.isFloat3 && decide (vd < 512) && decide (va < 512) && decide (vb < 512)) = true := hw
  simp only [Bool.and_eq_true, decide_eq_true_eq] at hw
  refine ⟨_, rfl, ?_⟩
  have := vmodeBits_le f (by omega)
  simp only [put, SlotClass.bits]
  omega
theorem Encoded.vmin (f : VMode) (vd : Nat) (va : Nat) (vb : Nat) : Encoded.Statement (.vmin f vd va vb) := by
  intro hw
  have hw : (decide (f.pg < 16) && (f.et.isInt || f.et.isFloat3) && decide (vd < 512) && decide (va < 512) && decide (vb < 512)) = true := hw
  simp only [Bool.and_eq_true, decide_eq_true_eq] at hw
  refine ⟨_, rfl, ?_⟩
  have := vmodeBits_le f (by omega)
  simp only [put, SlotClass.bits]
  omega
theorem Encoded.vmax (f : VMode) (vd : Nat) (va : Nat) (vb : Nat) : Encoded.Statement (.vmax f vd va vb) := by
  intro hw
  have hw : (decide (f.pg < 16) && (f.et.isInt || f.et.isFloat3) && decide (vd < 512) && decide (va < 512) && decide (vb < 512)) = true := hw
  simp only [Bool.and_eq_true, decide_eq_true_eq] at hw
  refine ⟨_, rfl, ?_⟩
  have := vmodeBits_le f (by omega)
  simp only [put, SlotClass.bits]
  omega
theorem Encoded.vabs (f : VMode) (vd : Nat) (va : Nat) : Encoded.Statement (.vabs f vd va) := by
  intro hw
  have hw : (decide (f.pg < 16) && (f.et.isInt || f.et.isFloat3) && decide (vd < 512) && decide (va < 512)) = true := hw
  simp only [Bool.and_eq_true, decide_eq_true_eq] at hw
  refine ⟨_, rfl, ?_⟩
  have := vmodeBits_le f (by omega)
  simp only [put, SlotClass.bits]
  omega
theorem Encoded.vneg (f : VMode) (vd : Nat) (va : Nat) : Encoded.Statement (.vneg f vd va) := by
  intro hw
  have hw : (decide (f.pg < 16) && (f.et.isInt || f.et.isFloat3) && decide (vd < 512) && decide (va < 512)) = true := hw
  simp only [Bool.and_eq_true, decide_eq_true_eq] at hw
  refine ⟨_, rfl, ?_⟩
  have := vmodeBits_le f (by omega)
  simp only [put, SlotClass.bits]
  omega
theorem Encoded.vadds (f : VMode) (vd : Nat) (va : Nat) (vb : Nat) : Encoded.Statement (.vadds f vd va vb) := by
  intro hw
  have hw : (decide (f.pg < 16) && f.et.isInt && decide (vd < 512) && decide (va < 512) && decide (vb < 512)) = true := hw
  simp only [Bool.and_eq_true, decide_eq_true_eq] at hw
  refine ⟨_, rfl, ?_⟩
  have := vmodeBits_le f (by omega)
  simp only [put, SlotClass.bits]
  omega
theorem Encoded.vsubs (f : VMode) (vd : Nat) (va : Nat) (vb : Nat) : Encoded.Statement (.vsubs f vd va vb) := by
  intro hw
  have hw : (decide (f.pg < 16) && f.et.isInt && decide (vd < 512) && decide (va < 512) && decide (vb < 512)) = true := hw
  simp only [Bool.and_eq_true, decide_eq_true_eq] at hw
  refine ⟨_, rfl, ?_⟩
  have := vmodeBits_le f (by omega)
  simp only [put, SlotClass.bits]
  omega
theorem Encoded.vavg (f : VMode) (vd : Nat) (va : Nat) (vb : Nat) : Encoded.Statement (.vavg f vd va vb) := by
  intro hw
  have hw : (decide (f.pg < 16) && f.et.isInt && decide (vd < 512) && decide (va < 512) && decide (vb < 512)) = true := hw
  simp only [Bool.and_eq_true, decide_eq_true_eq] at hw
  refine ⟨_, rfl, ?_⟩
  have := vmodeBits_le f (by omega)
  simp only [put, SlotClass.bits]
  omega
theorem Encoded.vand (f : VMode) (vd : Nat) (va : Nat) (vb : Nat) : Encoded.Statement (.vand f vd va vb) := by
  intro hw
  have hw : (decide (f.pg < 16) && decide (vd < 512) && decide (va < 512) && decide (vb < 512)) = true := hw
  simp only [Bool.and_eq_true, decide_eq_true_eq] at hw
  refine ⟨_, rfl, ?_⟩
  have := vmodeBits_le f (by omega)
  simp only [put, SlotClass.bits]
  omega
theorem Encoded.vor (f : VMode) (vd : Nat) (va : Nat) (vb : Nat) : Encoded.Statement (.vor f vd va vb) := by
  intro hw
  have hw : (decide (f.pg < 16) && decide (vd < 512) && decide (va < 512) && decide (vb < 512)) = true := hw
  simp only [Bool.and_eq_true, decide_eq_true_eq] at hw
  refine ⟨_, rfl, ?_⟩
  have := vmodeBits_le f (by omega)
  simp only [put, SlotClass.bits]
  omega
theorem Encoded.vxor (f : VMode) (vd : Nat) (va : Nat) (vb : Nat) : Encoded.Statement (.vxor f vd va vb) := by
  intro hw
  have hw : (decide (f.pg < 16) && decide (vd < 512) && decide (va < 512) && decide (vb < 512)) = true := hw
  simp only [Bool.and_eq_true, decide_eq_true_eq] at hw
  refine ⟨_, rfl, ?_⟩
  have := vmodeBits_le f (by omega)
  simp only [put, SlotClass.bits]
  omega
theorem Encoded.vandn (f : VMode) (vd : Nat) (va : Nat) (vb : Nat) : Encoded.Statement (.vandn f vd va vb) := by
  intro hw
  have hw : (decide (f.pg < 16) && decide (vd < 512) && decide (va < 512) && decide (vb < 512)) = true := hw
  simp only [Bool.and_eq_true, decide_eq_true_eq] at hw
  refine ⟨_, rfl, ?_⟩
  have := vmodeBits_le f (by omega)
  simp only [put, SlotClass.bits]
  omega
theorem Encoded.vnot (f : VMode) (vd : Nat) (va : Nat) : Encoded.Statement (.vnot f vd va) := by
  intro hw
  have hw : (decide (f.pg < 16) && decide (vd < 512) && decide (va < 512)) = true := hw
  simp only [Bool.and_eq_true, decide_eq_true_eq] at hw
  refine ⟨_, rfl, ?_⟩
  have := vmodeBits_le f (by omega)
  simp only [put, SlotClass.bits]
  omega
theorem Encoded.vshl (f : VMode) (vd : Nat) (va : Nat) (vb : Nat) : Encoded.Statement (.vshl f vd va vb) := by
  intro hw
  have hw : (decide (f.pg < 16) && f.et.isInt && decide (vd < 512) && decide (va < 512) && decide (vb < 512)) = true := hw
  simp only [Bool.and_eq_true, decide_eq_true_eq] at hw
  refine ⟨_, rfl, ?_⟩
  have := vmodeBits_le f (by omega)
  simp only [put, SlotClass.bits]
  omega
theorem Encoded.vshr (f : VMode) (vd : Nat) (va : Nat) (vb : Nat) : Encoded.Statement (.vshr f vd va vb) := by
  intro hw
  have hw : (decide (f.pg < 16) && f.et.isInt && decide (vd < 512) && decide (va < 512) && decide (vb < 512)) = true := hw
  simp only [Bool.and_eq_true, decide_eq_true_eq] at hw
  refine ⟨_, rfl, ?_⟩
  have := vmodeBits_le f (by omega)
  simp only [put, SlotClass.bits]
  omega
theorem Encoded.vsra (f : VMode) (vd : Nat) (va : Nat) (vb : Nat) : Encoded.Statement (.vsra f vd va vb) := by
  intro hw
  have hw : (decide (f.pg < 16) && f.et.isInt && decide (vd < 512) && decide (va < 512) && decide (vb < 512)) = true := hw
  simp only [Bool.and_eq_true, decide_eq_true_eq] at hw
  refine ⟨_, rfl, ?_⟩
  have := vmodeBits_le f (by omega)
  simp only [put, SlotClass.bits]
  omega
theorem Encoded.vclz (f : VMode) (vd : Nat) (va : Nat) : Encoded.Statement (.vclz f vd va) := by
  intro hw
  have hw : (decide (f.pg < 16) && f.et.isInt && decide (vd < 512) && decide (va < 512)) = true := hw
  simp only [Bool.and_eq_true, decide_eq_true_eq] at hw
  refine ⟨_, rfl, ?_⟩
  have := vmodeBits_le f (by omega)
  simp only [put, SlotClass.bits]
  omega
theorem Encoded.vpopc (f : VMode) (vd : Nat) (va : Nat) : Encoded.Statement (.vpopc f vd va) := by
  intro hw
  have hw : (decide (f.pg < 16) && f.et.isInt && decide (vd < 512) && decide (va < 512)) = true := hw
  simp only [Bool.and_eq_true, decide_eq_true_eq] at hw
  refine ⟨_, rfl, ?_⟩
  have := vmodeBits_le f (by omega)
  simp only [put, SlotClass.bits]
  omega
theorem Encoded.vcmp (wid : Width) (pg : Nat) (et : ET) (cc : FCond) (pd : Nat) (va : Nat) (vb : Nat) : Encoded.Statement (.vcmp wid pg et cc pd va vb) := by
  intro hw
  have hw : (decide (pg < 16) && (et.isInt || et.isFloat3) && decide (pd < 16) && decide (va < 512) && decide (vb < 512) && vcmpOk et cc) = true := hw
  simp only [Bool.and_eq_true, decide_eq_true_eq] at hw
  refine ⟨_, rfl, ?_⟩
  have := Width.code_le wid
  have := ET.code_le et
  have := FCond.code_le cc
  simp only [put, SlotClass.bits]
  omega
theorem Encoded.vsel (wid : Width) (pg : Nat) (et : ET) (vd : Nat) (va : Nat) (vb : Nat) : Encoded.Statement (.vsel wid pg et vd va vb) := by
  intro hw
  have hw : (decide (pg < 16) && decide (vd < 512) && decide (va < 512) && decide (vb < 512)) = true := hw
  simp only [Bool.and_eq_true, decide_eq_true_eq] at hw
  refine ⟨_, rfl, ?_⟩
  have := Width.code_le wid
  have := ET.code_le et
  simp only [put, SlotClass.bits]
  omega
theorem Encoded.vclass (f : VMode) (vd : Nat) (va : Nat) : Encoded.Statement (.vclass f vd va) := by
  intro hw
  have hw : (decide (f.pg < 16) && f.et.isFloat3 && decide (vd < 512) && decide (va < 512)) = true := hw
  simp only [Bool.and_eq_true, decide_eq_true_eq] at hw
  refine ⟨_, rfl, ?_⟩
  have := vmodeBits_le f (by omega)
  simp only [put, SlotClass.bits]
  omega
theorem Encoded.vcvt (f : VMode) (src : ET) (vd : Nat) (va : Nat) : Encoded.Statement (.vcvt f src vd va) := by
  intro hw
  have hw : (decide (f.pg < 16) && decide (vd < 512) && decide (va < 512)) = true := hw
  simp only [Bool.and_eq_true, decide_eq_true_eq] at hw
  refine ⟨_, rfl, ?_⟩
  have := vmodeBits_le f (by omega)
  have := ET.code_le src
  simp only [put, SlotClass.bits]
  omega
theorem Encoded.vcvts (f : VMode) (src : ET) (vd : Nat) (va : Nat) : Encoded.Statement (.vcvts f src vd va) := by
  intro hw
  have hw : (decide (f.pg < 16) && decide (vd < 512) && decide (va < 512)) = true := hw
  simp only [Bool.and_eq_true, decide_eq_true_eq] at hw
  refine ⟨_, rfl, ?_⟩
  have := vmodeBits_le f (by omega)
  have := ET.code_le src
  simp only [put, SlotClass.bits]
  omega
theorem Encoded.vpack (f : VMode) (vd : Nat) (va : Nat) (vb : Nat) : Encoded.Statement (.vpack f vd va vb) := by
  intro hw
  have hw : (decide (f.pg < 16) && f.et.packable && decide (vd < 512) && decide (va < 512) && decide (vb < 512)) = true := hw
  simp only [Bool.and_eq_true, decide_eq_true_eq] at hw
  refine ⟨_, rfl, ?_⟩
  have := vmodeBits_le f (by omega)
  simp only [put, SlotClass.bits]
  omega
theorem Encoded.vunpk (f : VMode) (vd : Nat) (va : Nat) (half : Bool) : Encoded.Statement (.vunpk f vd va half) := by
  intro hw
  have hw : (decide (f.pg < 16) && f.et.packable && decide (vd < 512) && decide (va < 512)) = true := hw
  simp only [Bool.and_eq_true, decide_eq_true_eq] at hw
  refine ⟨_, rfl, ?_⟩
  have := vmodeBits_le f (by omega)
  have := bit_le half
  simp only [put, SlotClass.bits]
  omega
theorem Encoded.vscl (f : VMode) (vd : Nat) (va : Nat) (sb : Nat) : Encoded.Statement (.vscl f vd va sb) := by
  intro hw
  have hw : (decide (f.pg < 16) && f.et.isFloat3 && decide (vd < 512) && decide (va < 512) && decide (sb < 64)) = true := hw
  simp only [Bool.and_eq_true, decide_eq_true_eq] at hw
  refine ⟨_, rfl, ?_⟩
  have := vmodeBits_le f (by omega)
  simp only [put, SlotClass.bits]
  omega
theorem Encoded.vrnd (f : VMode) (vd : Nat) (va : Nat) : Encoded.Statement (.vrnd f vd va) := by
  intro hw
  have hw : (decide (f.pg < 16) && f.et.isFloat3 && decide (vd < 512) && decide (va < 512)) = true := hw
  simp only [Bool.and_eq_true, decide_eq_true_eq] at hw
  refine ⟨_, rfl, ?_⟩
  have := vmodeBits_le f (by omega)
  simp only [put, SlotClass.bits]
  omega
theorem Encoded.vaddi (f : VMode) (vd : Nat) (va : Nat) (imm : Int) : Encoded.Statement (.vaddi f vd va imm) := by
  intro hw
  have hw : (decide (f.pg < 16) && f.et.isInt && decide (vd < 512) && decide (va < 512) && sfits imm 9) = true := hw
  simp only [Bool.and_eq_true, decide_eq_true_eq] at hw
  refine ⟨_, rfl, ?_⟩
  have := vmodeBits_le f (by omega)
  have := scode_lt imm 9
  simp only [put, SlotClass.bits]
  omega
theorem Encoded.vmuli (f : VMode) (vd : Nat) (va : Nat) (imm : Int) : Encoded.Statement (.vmuli f vd va imm) := by
  intro hw
  have hw : (decide (f.pg < 16) && f.et.isInt && decide (vd < 512) && decide (va < 512) && sfits imm 9) = true := hw
  simp only [Bool.and_eq_true, decide_eq_true_eq] at hw
  refine ⟨_, rfl, ?_⟩
  have := vmodeBits_le f (by omega)
  have := scode_lt imm 9
  simp only [put, SlotClass.bits]
  omega
theorem Encoded.vshli (f : VMode) (vd : Nat) (va : Nat) (n : Nat) : Encoded.Statement (.vshli f vd va n) := by
  intro hw
  have hw : (decide (f.pg < 16) && f.et.isInt && decide (vd < 512) && decide (va < 512) && decide (n < 128)) = true := hw
  simp only [Bool.and_eq_true, decide_eq_true_eq] at hw
  refine ⟨_, rfl, ?_⟩
  have := vmodeBits_le f (by omega)
  simp only [put, SlotClass.bits]
  omega
theorem Encoded.vshri (f : VMode) (vd : Nat) (va : Nat) (n : Nat) : Encoded.Statement (.vshri f vd va n) := by
  intro hw
  have hw : (decide (f.pg < 16) && f.et.isInt && decide (vd < 512) && decide (va < 512) && decide (n < 128)) = true := hw
  simp only [Bool.and_eq_true, decide_eq_true_eq] at hw
  refine ⟨_, rfl, ?_⟩
  have := vmodeBits_le f (by omega)
  simp only [put, SlotClass.bits]
  omega
theorem Encoded.vsrai (f : VMode) (vd : Nat) (va : Nat) (n : Nat) : Encoded.Statement (.vsrai f vd va n) := by
  intro hw
  have hw : (decide (f.pg < 16) && f.et.isInt && decide (vd < 512) && decide (va < 512) && decide (n < 128)) = true := hw
  simp only [Bool.and_eq_true, decide_eq_true_eq] at hw
  refine ⟨_, rfl, ?_⟩
  have := vmodeBits_le f (by omega)
  simp only [put, SlotClass.bits]
  omega
theorem Encoded.vandi (f : VMode) (vd : Nat) (va : Nat) (imm : Int) : Encoded.Statement (.vandi f vd va imm) := by
  intro hw
  have hw : (decide (f.pg < 16) && f.et.isInt && decide (vd < 512) && decide (va < 512) && sfits imm 9) = true := hw
  simp only [Bool.and_eq_true, decide_eq_true_eq] at hw
  refine ⟨_, rfl, ?_⟩
  have := vmodeBits_le f (by omega)
  have := scode_lt imm 9
  simp only [put, SlotClass.bits]
  omega
theorem Encoded.vbc (f : VMode) (vd : Nat) (sb : Nat) : Encoded.Statement (.vbc f vd sb) := by
  intro hw
  have hw : (decide (f.pg < 16) && decide (vd < 512) && decide (sb < 64)) = true := hw
  simp only [Bool.and_eq_true, decide_eq_true_eq] at hw
  refine ⟨_, rfl, ?_⟩
  have := vmodeBits_le f (by omega)
  simp only [put, SlotClass.bits]
  omega
theorem Encoded.vldi (f : VMode) (vd : Nat) (imm : Int) : Encoded.Statement (.vldi f vd imm) := by
  intro hw
  have hw : (decide (f.pg < 16) && f.et.isInt && decide (vd < 512) && sfits imm 9) = true := hw
  simp only [Bool.and_eq_true, decide_eq_true_eq] at hw
  refine ⟨_, rfl, ?_⟩
  have := vmodeBits_le f (by omega)
  have := scode_lt imm 9
  simp only [put, SlotClass.bits]
  omega
theorem Encoded.vperm (f : VMode) (vd : Nat) (va : Nat) (vb : Nat) : Encoded.Statement (.vperm f vd va vb) := by
  intro hw
  have hw : (decide (f.pg < 16) && decide (vd < 512) && decide (va < 512) && decide (vb < 512)) = true := hw
  simp only [Bool.and_eq_true, decide_eq_true_eq] at hw
  refine ⟨_, rfl, ?_⟩
  have := vmodeBits_le f (by omega)
  simp only [put, SlotClass.bits]
  omega
theorem Encoded.vrot (f : VMode) (vd : Nat) (va : Nat) (sb : Nat) : Encoded.Statement (.vrot f vd va sb) := by
  intro hw
  have hw : (decide (f.pg < 16) && decide (vd < 512) && decide (va < 512) && decide (sb < 64)) = true := hw
  simp only [Bool.and_eq_true, decide_eq_true_eq] at hw
  refine ⟨_, rfl, ?_⟩
  have := vmodeBits_le f (by omega)
  simp only [put, SlotClass.bits]
  omega
theorem Encoded.vsld (f : VMode) (vd : Nat) (va : Nat) (sb : Nat) : Encoded.Statement (.vsld f vd va sb) := by
  intro hw
  have hw : (decide (f.pg < 16) && decide (vd < 512) && decide (va < 512) && decide (sb < 64)) = true := hw
  simp only [Bool.and_eq_true, decide_eq_true_eq] at hw
  refine ⟨_, rfl, ?_⟩
  have := vmodeBits_le f (by omega)
  simp only [put, SlotClass.bits]
  omega
theorem Encoded.vext (f : VMode) (sd : Nat) (va : Nat) (sb : Nat) : Encoded.Statement (.vext f sd va sb) := by
  intro hw
  have hw : (decide (f.pg < 16) && decide (sd < 64) && decide (va < 512) && decide (sb < 64)) = true := hw
  simp only [Bool.and_eq_true, decide_eq_true_eq] at hw
  refine ⟨_, rfl, ?_⟩
  have := vmodeBits_le f (by omega)
  simp only [put, SlotClass.bits]
  omega
theorem Encoded.vins (f : VMode) (vd : Nat) (sa : Nat) (sb : Nat) : Encoded.Statement (.vins f vd sa sb) := by
  intro hw
  have hw : (decide (f.pg < 16) && decide (vd < 512) && decide (sa < 64) && decide (sb < 64)) = true := hw
  simp only [Bool.and_eq_true, decide_eq_true_eq] at hw
  refine ⟨_, rfl, ?_⟩
  have := vmodeBits_le f (by omega)
  simp only [put, SlotClass.bits]
  omega
theorem Encoded.viota (f : VMode) (vd : Nat) : Encoded.Statement (.viota f vd) := by
  intro hw
  have hw : (decide (f.pg < 16) && f.et.isInt && decide (vd < 512)) = true := hw
  simp only [Bool.and_eq_true, decide_eq_true_eq] at hw
  refine ⟨_, rfl, ?_⟩
  have := vmodeBits_le f (by omega)
  simp only [put, SlotClass.bits]
  omega
theorem Encoded.vcmpr (f : VMode) (vd : Nat) (va : Nat) : Encoded.Statement (.vcmpr f vd va) := by
  intro hw
  have hw : (decide (f.pg < 16) && decide (vd < 512) && decide (va < 512)) = true := hw
  simp only [Bool.and_eq_true, decide_eq_true_eq] at hw
  refine ⟨_, rfl, ?_⟩
  have := vmodeBits_le f (by omega)
  simp only [put, SlotClass.bits]
  omega
theorem Encoded.vxpnd (f : VMode) (vd : Nat) (va : Nat) : Encoded.Statement (.vxpnd f vd va) := by
  intro hw
  have hw : (decide (f.pg < 16) && decide (vd < 512) && decide (va < 512)) = true := hw
  simp only [Bool.and_eq_true, decide_eq_true_eq] at hw
  refine ⟨_, rfl, ?_⟩
  have := vmodeBits_le f (by omega)
  simp only [put, SlotClass.bits]
  omega
theorem Encoded.vradd (f : VMode) (vd : Nat) (va : Nat) : Encoded.Statement (.vradd f vd va) := by
  intro hw
  have hw : (decide (f.pg < 16) && (f.et.isInt || f.et.isFloat3) && decide (vd < 512) && decide (va < 512)) = true := hw
  simp only [Bool.and_eq_true, decide_eq_true_eq] at hw
  refine ⟨_, rfl, ?_⟩
  have := vmodeBits_le f (by omega)
  simp only [put, SlotClass.bits]
  omega
theorem Encoded.vrmax (f : VMode) (vd : Nat) (va : Nat) : Encoded.Statement (.vrmax f vd va) := by
  intro hw
  have hw : (decide (f.pg < 16) && (f.et.isInt || f.et.isFloat3) && decide (vd < 512) && decide (va < 512)) = true := hw
  simp only [Bool.and_eq_true, decide_eq_true_eq] at hw
  refine ⟨_, rfl, ?_⟩
  have := vmodeBits_le f (by omega)
  simp only [put, SlotClass.bits]
  omega
theorem Encoded.vrmin (f : VMode) (vd : Nat) (va : Nat) : Encoded.Statement (.vrmin f vd va) := by
  intro hw
  have hw : (decide (f.pg < 16) && (f.et.isInt || f.et.isFloat3) && decide (vd < 512) && decide (va < 512)) = true := hw
  simp only [Bool.and_eq_true, decide_eq_true_eq] at hw
  refine ⟨_, rfl, ?_⟩
  have := vmodeBits_le f (by omega)
  simp only [put, SlotClass.bits]
  omega
theorem Encoded.vdot (f : VMode) (vd : Nat) (va : Nat) (vb : Nat) : Encoded.Statement (.vdot f vd va vb) := by
  intro hw
  have hw : (decide (f.pg < 16) && (f.et.isInt || f.et.isFloat3) && decide (vd < 512) && decide (va < 512) && decide (vb < 512)) = true := hw
  simp only [Bool.and_eq_true, decide_eq_true_eq] at hw
  refine ⟨_, rfl, ?_⟩
  have := vmodeBits_le f (by omega)
  simp only [put, SlotClass.bits]
  omega
theorem Encoded.pand (pd : Nat) (pa : Nat) (pb : Nat) : Encoded.Statement (.pand pd pa pb) := by
  intro hw
  have hw : (decide (pd < 16) && decide (pa < 16) && decide (pb < 16)) = true := hw
  simp only [Bool.and_eq_true, decide_eq_true_eq] at hw
  refine ⟨_, rfl, ?_⟩
  simp only [put, SlotClass.bits]
  omega
theorem Encoded.por (pd : Nat) (pa : Nat) (pb : Nat) : Encoded.Statement (.por pd pa pb) := by
  intro hw
  have hw : (decide (pd < 16) && decide (pa < 16) && decide (pb < 16)) = true := hw
  simp only [Bool.and_eq_true, decide_eq_true_eq] at hw
  refine ⟨_, rfl, ?_⟩
  simp only [put, SlotClass.bits]
  omega
theorem Encoded.pxor (pd : Nat) (pa : Nat) (pb : Nat) : Encoded.Statement (.pxor pd pa pb) := by
  intro hw
  have hw : (decide (pd < 16) && decide (pa < 16) && decide (pb < 16)) = true := hw
  simp only [Bool.and_eq_true, decide_eq_true_eq] at hw
  refine ⟨_, rfl, ?_⟩
  simp only [put, SlotClass.bits]
  omega
theorem Encoded.pnot (pd : Nat) (pa : Nat) : Encoded.Statement (.pnot pd pa) := by
  intro hw
  have hw : (decide (pd < 16) && decide (pa < 16)) = true := hw
  simp only [Bool.and_eq_true, decide_eq_true_eq] at hw
  refine ⟨_, rfl, ?_⟩
  simp only [put, SlotClass.bits]
  omega
theorem Encoded.pfirst (wid : Width) (et : ET) (pd : Nat) (pa : Nat) : Encoded.Statement (.pfirst wid et pd pa) := by
  intro hw
  have hw : (decide (pd < 16) && decide (pa < 16)) = true := hw
  simp only [Bool.and_eq_true, decide_eq_true_eq] at hw
  refine ⟨_, rfl, ?_⟩
  have := Width.code_le wid
  have := ET.code_le et
  simp only [put, SlotClass.bits]
  omega
theorem Encoded.pcnt (wid : Width) (et : ET) (sd : Nat) (pa : Nat) : Encoded.Statement (.pcnt wid et sd pa) := by
  intro hw
  have hw : (decide (sd < 64) && decide (pa < 16)) = true := hw
  simp only [Bool.and_eq_true, decide_eq_true_eq] at hw
  refine ⟨_, rfl, ?_⟩
  have := Width.code_le wid
  have := ET.code_le et
  simp only [put, SlotClass.bits]
  omega
theorem Encoded.plen (wid : Width) (et : ET) (pd : Nat) (sb : Nat) : Encoded.Statement (.plen wid et pd sb) := by
  intro hw
  have hw : (decide (pd < 16) && decide (sb < 64)) = true := hw
  simp only [Bool.and_eq_true, decide_eq_true_eq] at hw
  refine ⟨_, rfl, ?_⟩
  have := Width.code_le wid
  have := ET.code_le et
  simp only [put, SlotClass.bits]
  omega
theorem Encoded.vpln (f : VMode) (vd : Nat) (va : Nat) (p : Nat) : Encoded.Statement (.vpln f vd va p) := by
  intro hw
  have hw : (decide (f.pg < 16) && f.et.isInt && decide (vd < 512) && decide (va < 512) && decide (p < 32) && planeOk f p) = true := hw
  simp only [Bool.and_eq_true, decide_eq_true_eq] at hw
  refine ⟨_, rfl, ?_⟩
  have := vmodeBits_le f (by omega)
  simp only [put, SlotClass.bits]
  omega
theorem Encoded.vupln (f : VMode) (vd : Nat) (va : Nat) (p : Nat) : Encoded.Statement (.vupln f vd va p) := by
  intro hw
  have hw : (decide (f.pg < 16) && f.et.isInt && decide (vd < 512) && decide (va < 512) && decide (p < 32) && planeOk f p) = true := hw
  simp only [Bool.and_eq_true, decide_eq_true_eq] at hw
  refine ⟨_, rfl, ?_⟩
  have := vmodeBits_le f (by omega)
  simp only [put, SlotClass.bits]
  omega
theorem Encoded.vbsc (f : VMode) (vd : Nat) (va : Nat) : Encoded.Statement (.vbsc f vd va) := by
  intro hw
  have hw : (decide (f.pg < 16) && f.et.isFloat3 && decide (vd < 512) && decide (va < 512)) = true := hw
  simp only [Bool.and_eq_true, decide_eq_true_eq] at hw
  refine ⟨_, rfl, ?_⟩
  have := vmodeBits_le f (by omega)
  simp only [put, SlotClass.bits]
  omega
theorem Encoded.vpop (f : VMode) (vd : Nat) (rq : Nat) : Encoded.Statement (.vpop f vd rq) := by
  intro hw
  have hw : (decide (f.pg < 16) && decide (vd < 512) && decide (rq < 8)) = true := hw
  simp only [Bool.and_eq_true, decide_eq_true_eq] at hw
  refine ⟨_, rfl, ?_⟩
  have := vmodeBits_le f (by omega)
  simp only [put, SlotClass.bits]
  omega
theorem Encoded.fexp2 (f : FMode) (vd : Nat) (va : Nat) : Encoded.Statement (.fexp2 f vd va) := by
  intro hw
  have hw : (decide (f.pg < 16) && decide (vd < 512) && decide (va < 512)) = true := hw
  simp only [Bool.and_eq_true, decide_eq_true_eq] at hw
  refine ⟨_, rfl, ?_⟩
  have := fmodeBits_le f (by omega)
  simp only [put, SlotClass.bits]
  omega
theorem Encoded.fexp (f : FMode) (vd : Nat) (va : Nat) : Encoded.Statement (.fexp f vd va) := by
  intro hw
  have hw : (decide (f.pg < 16) && decide (vd < 512) && decide (va < 512)) = true := hw
  simp only [Bool.and_eq_true, decide_eq_true_eq] at hw
  refine ⟨_, rfl, ?_⟩
  have := fmodeBits_le f (by omega)
  simp only [put, SlotClass.bits]
  omega
theorem Encoded.flog2 (f : FMode) (vd : Nat) (va : Nat) : Encoded.Statement (.flog2 f vd va) := by
  intro hw
  have hw : (decide (f.pg < 16) && decide (vd < 512) && decide (va < 512)) = true := hw
  simp only [Bool.and_eq_true, decide_eq_true_eq] at hw
  refine ⟨_, rfl, ?_⟩
  have := fmodeBits_le f (by omega)
  simp only [put, SlotClass.bits]
  omega
theorem Encoded.fln (f : FMode) (vd : Nat) (va : Nat) : Encoded.Statement (.fln f vd va) := by
  intro hw
  have hw : (decide (f.pg < 16) && decide (vd < 512) && decide (va < 512)) = true := hw
  simp only [Bool.and_eq_true, decide_eq_true_eq] at hw
  refine ⟨_, rfl, ?_⟩
  have := fmodeBits_le f (by omega)
  simp only [put, SlotClass.bits]
  omega
theorem Encoded.frcp (f : FMode) (vd : Nat) (va : Nat) : Encoded.Statement (.frcp f vd va) := by
  intro hw
  have hw : (decide (f.pg < 16) && decide (vd < 512) && decide (va < 512)) = true := hw
  simp only [Bool.and_eq_true, decide_eq_true_eq] at hw
  refine ⟨_, rfl, ?_⟩
  have := fmodeBits_le f (by omega)
  simp only [put, SlotClass.bits]
  omega
theorem Encoded.frsq (f : FMode) (vd : Nat) (va : Nat) : Encoded.Statement (.frsq f vd va) := by
  intro hw
  have hw : (decide (f.pg < 16) && decide (vd < 512) && decide (va < 512)) = true := hw
  simp only [Bool.and_eq_true, decide_eq_true_eq] at hw
  refine ⟨_, rfl, ?_⟩
  have := fmodeBits_le f (by omega)
  simp only [put, SlotClass.bits]
  omega
theorem Encoded.fsqrt (f : FMode) (vd : Nat) (va : Nat) : Encoded.Statement (.fsqrt f vd va) := by
  intro hw
  have hw : (decide (f.pg < 16) && decide (vd < 512) && decide (va < 512)) = true := hw
  simp only [Bool.and_eq_true, decide_eq_true_eq] at hw
  refine ⟨_, rfl, ?_⟩
  have := fmodeBits_le f (by omega)
  simp only [put, SlotClass.bits]
  omega
theorem Encoded.ftanh (f : FMode) (vd : Nat) (va : Nat) : Encoded.Statement (.ftanh f vd va) := by
  intro hw
  have hw : (decide (f.pg < 16) && decide (vd < 512) && decide (va < 512)) = true := hw
  simp only [Bool.and_eq_true, decide_eq_true_eq] at hw
  refine ⟨_, rfl, ?_⟩
  have := fmodeBits_le f (by omega)
  simp only [put, SlotClass.bits]
  omega
theorem Encoded.fsigm (f : FMode) (vd : Nat) (va : Nat) : Encoded.Statement (.fsigm f vd va) := by
  intro hw
  have hw : (decide (f.pg < 16) && decide (vd < 512) && decide (va < 512)) = true := hw
  simp only [Bool.and_eq_true, decide_eq_true_eq] at hw
  refine ⟨_, rfl, ?_⟩
  have := fmodeBits_le f (by omega)
  simp only [put, SlotClass.bits]
  omega
theorem Encoded.ferf (f : FMode) (vd : Nat) (va : Nat) : Encoded.Statement (.ferf f vd va) := by
  intro hw
  have hw : (decide (f.pg < 16) && decide (vd < 512) && decide (va < 512)) = true := hw
  simp only [Bool.and_eq_true, decide_eq_true_eq] at hw
  refine ⟨_, rfl, ?_⟩
  have := fmodeBits_le f (by omega)
  simp only [put, SlotClass.bits]
  omega
theorem Encoded.fsin (f : FMode) (vd : Nat) (va : Nat) : Encoded.Statement (.fsin f vd va) := by
  intro hw
  have hw : (decide (f.pg < 16) && decide (vd < 512) && decide (va < 512)) = true := hw
  simp only [Bool.and_eq_true, decide_eq_true_eq] at hw
  refine ⟨_, rfl, ?_⟩
  have := fmodeBits_le f (by omega)
  simp only [put, SlotClass.bits]
  omega
theorem Encoded.fcos (f : FMode) (vd : Nat) (va : Nat) : Encoded.Statement (.fcos f vd va) := by
  intro hw
  have hw : (decide (f.pg < 16) && decide (vd < 512) && decide (va < 512)) = true := hw
  simp only [Bool.and_eq_true, decide_eq_true_eq] at hw
  refine ⟨_, rfl, ?_⟩
  have := fmodeBits_le f (by omega)
  simp only [put, SlotClass.bits]
  omega
theorem Encoded.fgelu (f : FMode) (vd : Nat) (va : Nat) : Encoded.Statement (.fgelu f vd va) := by
  intro hw
  have hw : (decide (f.pg < 16) && decide (vd < 512) && decide (va < 512)) = true := hw
  simp only [Bool.and_eq_true, decide_eq_true_eq] at hw
  refine ⟨_, rfl, ?_⟩
  have := fmodeBits_le f (by omega)
  simp only [put, SlotClass.bits]
  omega
theorem Encoded.mma (ta : Nat) (da : Nat) (db : Nat) (kb : Nat) : Encoded.Statement (.mma ta da db kb) := by
  intro hw
  have hw : (decide (ta < 8) && decide (da < 16) && decide (db < 16) && decide (kb < 128) && decide (kb > 0)) = true := hw
  simp only [Bool.and_eq_true, decide_eq_true_eq] at hw
  refine ⟨_, rfl, ?_⟩
  simp only [put, SlotClass.bits]
  omega
theorem Encoded.mmaz (ta : Nat) (da : Nat) (db : Nat) (kb : Nat) : Encoded.Statement (.mmaz ta da db kb) := by
  intro hw
  have hw : (decide (ta < 8) && decide (da < 16) && decide (db < 16) && decide (kb < 128) && decide (kb > 0)) = true := hw
  simp only [Bool.and_eq_true, decide_eq_true_eq] at hw
  refine ⟨_, rfl, ?_⟩
  simp only [put, SlotClass.bits]
  omega
theorem Encoded.mmaw (ta : Nat) (da : Nat) (db : Nat) (kb : Nat) : Encoded.Statement (.mmaw ta da db kb) := by
  intro hw
  have hw : (decide (ta < 8) && decide (da < 16) && decide (db < 16) && decide (kb < 128) && decide (kb > 0)) = true := hw
  simp only [Bool.and_eq_true, decide_eq_true_eq] at hw
  refine ⟨_, rfl, ?_⟩
  simp only [put, SlotClass.bits]
  omega
theorem Encoded.mmag (ta : Nat) (da : Nat) (db : Nat) (kb : Nat) : Encoded.Statement (.mmag ta da db kb) := by
  intro hw
  have hw : (decide (ta < 8) && decide (da < 16) && decide (db < 16) && decide (kb < 128) && decide (kb > 0)) = true := hw
  simp only [Bool.and_eq_true, decide_eq_true_eq] at hw
  refine ⟨_, rfl, ?_⟩
  simp only [put, SlotClass.bits]
  omega
theorem Encoded.mdrn (ta : Nat) (rq : Nat) (fmt : DrainFmt) (relu : Bool) (shift : Option Int) (off : Option Nat) : Encoded.Statement (.mdrn ta rq fmt relu shift off) := by
  intro hw
  have hw : (decide (ta < 8) && decide (rq < 8) && shift.all (sfits · 6) && off.all (· < 16)) = true := hw
  simp only [Bool.and_eq_true, decide_eq_true_eq] at hw
  refine ⟨_, rfl, ?_⟩
  have := optBits_le off 16 0 27 (by simp_all)
  have := optBits_le (shift.map (scode · 6)) (2 ^ 6) 7 1 (all_scode shift 6)
  have := DrainFmt.code_le fmt
  have := bit_le relu
  simp only [put, SlotClass.bits]
  omega
theorem Encoded.mzero (ta : Nat) : Encoded.Statement (.mzero ta) := by
  intro hw
  have hw : (decide (ta < 8)) = true := hw
  simp only [decide_eq_true_eq] at hw
  refine ⟨_, rfl, ?_⟩
  simp only [put, SlotClass.bits]
  omega
theorem Encoded.mdld (da : Nat) (off : Nat) : Encoded.Statement (.mdld da off) := by
  intro hw
  have hw : (decide (da < 16) && decide (off < 134217728)) = true := hw
  simp only [Bool.and_eq_true, decide_eq_true_eq] at hw
  refine ⟨_, rfl, ?_⟩
  simp only [put, SlotClass.bits]
  omega
theorem Encoded.mwait (ta : Nat) : Encoded.Statement (.mwait ta) := by
  intro hw
  have hw : (decide (ta < 8)) = true := hw
  simp only [decide_eq_true_eq] at hw
  refine ⟨_, rfl, ?_⟩
  simp only [put, SlotClass.bits]
  omega
theorem Encoded.mnest (da : Nat) (off : Nat) : Encoded.Statement (.mnest da off) := by
  intro hw
  have hw : (decide (da < 16) && decide (off < 134217728)) = true := hw
  simp only [Bool.and_eq_true, decide_eq_true_eq] at hw
  refine ⟨_, rfl, ?_⟩
  simp only [put, SlotClass.bits]
  omega
theorem Encoded.mqset (rq : Nat) (size : Nat) : Encoded.Statement (.mqset rq size) := by
  intro hw
  have hw : (decide (rq < 8) && decide (size < 128) && decide (size < 65)) = true := hw
  simp only [Bool.and_eq_true, decide_eq_true_eq] at hw
  refine ⟨_, rfl, ?_⟩
  simp only [put, SlotClass.bits]
  omega
theorem Encoded.ldv (g : Guard) (vd : Nat) (sa : Nat) (imm : Nat) : Encoded.Statement (.ldv g vd sa imm) := by
  intro hw
  have hw : (decide (g.q < 16) && decide (vd < 512) && decide (sa < 64) && decide (imm < 512)) = true := hw
  simp only [Bool.and_eq_true, decide_eq_true_eq] at hw
  refine ⟨_, rfl, ?_⟩
  have := guardC_le g (by omega)
  simp only [put, SlotClass.bits]
  omega
theorem Encoded.stv (g : Guard) (vd : Nat) (sa : Nat) (imm : Nat) : Encoded.Statement (.stv g vd sa imm) := by
  intro hw
  have hw : (decide (g.q < 16) && decide (vd < 512) && decide (sa < 64) && decide (imm < 512)) = true := hw
  simp only [Bool.and_eq_true, decide_eq_true_eq] at hw
  refine ⟨_, rfl, ?_⟩
  have := guardC_le g (by omega)
  simp only [put, SlotClass.bits]
  omega
theorem Encoded.lds (g : Guard) (sd : Nat) (sa : Nat) (imm : Nat) : Encoded.Statement (.lds g sd sa imm) := by
  intro hw
  have hw : (decide (g.q < 16) && decide (sd < 64) && decide (sa < 64) && decide (imm < 2048)) = true := hw
  simp only [Bool.and_eq_true, decide_eq_true_eq] at hw
  refine ⟨_, rfl, ?_⟩
  have := guardC_le g (by omega)
  simp only [put, SlotClass.bits]
  omega
theorem Encoded.ldsGlobal (g : Guard) (sd : Nat) (h : Nat) (sa : Nat) (cls : Option Nat) : Encoded.Statement (.ldsGlobal g sd h sa cls) := by
  intro hw
  have hw : (decide (g.q < 16) && decide (sd < 64) && decide (h < 16) && decide (sa < 64) && cls.all (· < 8)) = true := hw
  simp only [Bool.and_eq_true, decide_eq_true_eq] at hw
  refine ⟨_, rfl, ?_⟩
  have := optBits_le cls 8 3 4 (by simp_all)
  have := guardC_le g (by omega)
  simp only [put, SlotClass.bits]
  omega
theorem Encoded.sts (g : Guard) (sd : Nat) (sa : Nat) (imm : Nat) : Encoded.Statement (.sts g sd sa imm) := by
  intro hw
  have hw : (decide (g.q < 16) && decide (sd < 64) && decide (sa < 64) && decide (imm < 2048)) = true := hw
  simp only [Bool.and_eq_true, decide_eq_true_eq] at hw
  refine ⟨_, rfl, ?_⟩
  have := guardC_le g (by omega)
  simp only [put, SlotClass.bits]
  omega
theorem Encoded.ldvx (g : Guard) (vd : Nat) (sa : Nat) (vx : Nat) : Encoded.Statement (.ldvx g vd sa vx) := by
  intro hw
  have hw : (decide (g.q < 16) && decide (vd < 512) && decide (sa < 64) && decide (vx < 512)) = true := hw
  simp only [Bool.and_eq_true, decide_eq_true_eq] at hw
  refine ⟨_, rfl, ?_⟩
  have := guardC_le g (by omega)
  simp only [put, SlotClass.bits]
  omega
theorem Encoded.stvx (g : Guard) (vd : Nat) (sa : Nat) (vx : Nat) : Encoded.Statement (.stvx g vd sa vx) := by
  intro hw
  have hw : (decide (g.q < 16) && decide (vd < 512) && decide (sa < 64) && decide (vx < 512)) = true := hw
  simp only [Bool.and_eq_true, decide_eq_true_eq] at hw
  refine ⟨_, rfl, ?_⟩
  have := guardC_le g (by omega)
  simp only [put, SlotClass.bits]
  omega
theorem Encoded.ldp (g : Guard) (pd : Nat) (sa : Nat) (imm : Nat) : Encoded.Statement (.ldp g pd sa imm) := by
  intro hw
  have hw : (decide (g.q < 16) && decide (pd < 16) && decide (sa < 64) && decide (imm < 512)) = true := hw
  simp only [Bool.and_eq_true, decide_eq_true_eq] at hw
  refine ⟨_, rfl, ?_⟩
  have := guardC_le g (by omega)
  simp only [put, SlotClass.bits]
  omega
theorem Encoded.stp (g : Guard) (pd : Nat) (sa : Nat) (imm : Nat) : Encoded.Statement (.stp g pd sa imm) := by
  intro hw
  have hw : (decide (g.q < 16) && decide (pd < 16) && decide (sa < 64) && decide (imm < 512)) = true := hw
  simp only [Bool.and_eq_true, decide_eq_true_eq] at hw
  refine ⟨_, rfl, ?_⟩
  have := guardC_le g (by omega)
  simp only [put, SlotClass.bits]
  omega
theorem Encoded.cpin (g : Guard) (h : Nat) (k : Nat) (sa : Nat) (sb : Nat) (cls : Option Nat) : Encoded.Statement (.cpin g h k sa sb cls) := by
  intro hw
  have hw : (decide (g.q < 16) && decide (h < 16) && decide (k < 16) && decide (sa < 64) && decide (sb < 64) && cls.all (· < 8)) = true := hw
  simp only [Bool.and_eq_true, decide_eq_true_eq] at hw
  refine ⟨_, rfl, ?_⟩
  have := optBits_le cls 8 0 1 (by simp_all)
  have := guardC_le g (by omega)
  simp only [put, SlotClass.bits]
  omega
theorem Encoded.cpout (g : Guard) (h : Nat) (k : Nat) (sa : Nat) (sb : Nat) (cls : Option Nat) : Encoded.Statement (.cpout g h k sa sb cls) := by
  intro hw
  have hw : (decide (g.q < 16) && decide (h < 16) && decide (k < 16) && decide (sa < 64) && decide (sb < 64) && cls.all (· < 8)) = true := hw
  simp only [Bool.and_eq_true, decide_eq_true_eq] at hw
  refine ⟨_, rfl, ?_⟩
  have := optBits_le cls 8 0 1 (by simp_all)
  have := guardC_le g (by omega)
  simp only [put, SlotClass.bits]
  omega
theorem Encoded.cpmc (g : Guard) (h : Nat) (k : Nat) (sa : Nat) (sb : Nat) (cls : Option Nat) : Encoded.Statement (.cpmc g h k sa sb cls) := by
  intro hw
  have hw : (decide (g.q < 16) && decide (h < 16) && decide (k < 16) && decide (sa < 64) && decide (sb < 64) && cls.all (· < 8)) = true := hw
  simp only [Bool.and_eq_true, decide_eq_true_eq] at hw
  refine ⟨_, rfl, ?_⟩
  have := optBits_le cls 8 0 1 (by simp_all)
  have := guardC_le g (by omega)
  simp only [put, SlotClass.bits]
  omega
theorem Encoded.cpga (g : Guard) (h : Nat) (k : Nat) (sa : Nat) (sb : Nat) (cls : Option Nat) : Encoded.Statement (.cpga g h k sa sb cls) := by
  intro hw
  have hw : (decide (g.q < 16) && decide (h < 16) && decide (k < 16) && decide (sa < 64) && decide (sb < 64) && cls.all (· < 8)) = true := hw
  simp only [Bool.and_eq_true, decide_eq_true_eq] at hw
  refine ⟨_, rfl, ?_⟩
  have := optBits_le cls 8 0 1 (by simp_all)
  have := guardC_le g (by omega)
  simp only [put, SlotClass.bits]
  omega
theorem Encoded.cpsc (g : Guard) (h : Nat) (k : Nat) (sa : Nat) (sb : Nat) (cls : Option Nat) : Encoded.Statement (.cpsc g h k sa sb cls) := by
  intro hw
  have hw : (decide (g.q < 16) && decide (h < 16) && decide (k < 16) && decide (sa < 64) && decide (sb < 64) && cls.all (· < 8)) = true := hw
  simp only [Bool.and_eq_true, decide_eq_true_eq] at hw
  refine ⟨_, rfl, ?_⟩
  have := optBits_le cls 8 0 1 (by simp_all)
  have := guardC_le g (by omega)
  simp only [put, SlotClass.bits]
  omega
theorem Encoded.cpxf (g : Guard) (h : Nat) (k : Nat) (sa : Nat) (sb : Nat) (cls : Option Nat) : Encoded.Statement (.cpxf g h k sa sb cls) := by
  intro hw
  have hw : (decide (g.q < 16) && decide (h < 16) && decide (k < 16) && decide (sa < 64) && decide (sb < 64) && cls.all (· < 8)) = true := hw
  simp only [Bool.and_eq_true, decide_eq_true_eq] at hw
  refine ⟨_, rfl, ?_⟩
  have := optBits_le cls 8 0 1 (by simp_all)
  have := guardC_le g (by omega)
  simp only [put, SlotClass.bits]
  omega
theorem Encoded.cpqo (g : Guard) (h : Nat) (k : Nat) (sa : Nat) (rq : Nat) (cls : Option Nat) : Encoded.Statement (.cpqo g h k sa rq cls) := by
  intro hw
  have hw : (decide (g.q < 16) && decide (h < 16) && decide (k < 16) && decide (sa < 64) && decide (rq < 8) && cls.all (· < 8)) = true := hw
  simp only [Bool.and_eq_true, decide_eq_true_eq] at hw
  refine ⟨_, rfl, ?_⟩
  have := optBits_le cls 8 0 1 (by simp_all)
  have := guardC_le g (by omega)
  simp only [put, SlotClass.bits]
  omega
theorem Encoded.cpqf (g : Guard) (k : Nat) (sa : Nat) (rq : Nat) : Encoded.Statement (.cpqf g k sa rq) := by
  intro hw
  have hw : (decide (g.q < 16) && decide (k < 16) && decide (sa < 64) && decide (rq < 8)) = true := hw
  simp only [Bool.and_eq_true, decide_eq_true_eq] at hw
  refine ⟨_, rfl, ?_⟩
  have := guardC_le g (by omega)
  simp only [put, SlotClass.bits]
  omega
theorem Encoded.cpfl (g : Guard) (h : Nat) (k : Nat) (sa : Nat) (sb : Nat) (cls : Option Nat) : Encoded.Statement (.cpfl g h k sa sb cls) := by
  intro hw
  have hw : (decide (g.q < 16) && decide (h < 16) && decide (k < 16) && decide (sa < 64) && decide (sb < 64) && cls.all (· < 8)) = true := hw
  simp only [Bool.and_eq_true, decide_eq_true_eq] at hw
  refine ⟨_, rfl, ?_⟩
  have := optBits_le cls 8 0 1 (by simp_all)
  have := guardC_le g (by omega)
  simp only [put, SlotClass.bits]
  omega
theorem Encoded.wdld (g : Guard) (wd : Nat) (sa : Nat) (imm : Nat) : Encoded.Statement (.wdld g wd sa imm) := by
  intro hw
  have hw : (decide (g.q < 16) && decide (wd < 16) && decide (sa < 64) && decide (imm < 16384)) = true := hw
  simp only [Bool.and_eq_true, decide_eq_true_eq] at hw
  refine ⟨_, rfl, ?_⟩
  have := guardC_le g (by omega)
  simp only [put, SlotClass.bits]
  omega
theorem Encoded.waitk (g : Guard) (k : Nat) : Encoded.Statement (.waitk g k) := by
  intro hw
  have hw : (decide (g.q < 16) && decide (k < 16)) = true := hw
  simp only [Bool.and_eq_true, decide_eq_true_eq] at hw
  refine ⟨_, rfl, ?_⟩
  have := guardC_le g (by omega)
  simp only [put, SlotClass.bits]
  omega
theorem Encoded.testk (g : Guard) (qd : Nat) (k : Nat) : Encoded.Statement (.testk g qd k) := by
  intro hw
  have hw : (decide (g.q < 16) && decide (qd < 16) && decide (k < 16)) = true := hw
  simp only [Bool.and_eq_true, decide_eq_true_eq] at hw
  refine ⟨_, rfl, ?_⟩
  have := guardC_le g (by omega)
  simp only [put, SlotClass.bits]
  omega
theorem Encoded.waitkx (g : Guard) (k : Nat) : Encoded.Statement (.waitkx g k) := by
  intro hw
  have hw : (decide (g.q < 16) && decide (k < 16)) = true := hw
  simp only [Bool.and_eq_true, decide_eq_true_eq] at hw
  refine ⟨_, rfl, ?_⟩
  have := guardC_le g (by omega)
  simp only [put, SlotClass.bits]
  omega
theorem Encoded.krel (g : Guard) (k : Nat) : Encoded.Statement (.krel g k) := by
  intro hw
  have hw : (decide (g.q < 16) && decide (k < 16)) = true := hw
  simp only [Bool.and_eq_true, decide_eq_true_eq] at hw
  refine ⟨_, rfl, ?_⟩
  have := guardC_le g (by omega)
  simp only [put, SlotClass.bits]
  omega
theorem Encoded.ldg (g : Guard) (h : Nat) (size : GSize) (sa : Nat) (sb : Nat) (cls : Option Nat) : Encoded.Statement (.ldg g h size sa sb cls) := by
  intro hw
  have hw : (decide (g.q < 16) && decide (h < 16) && decide (sa < 64) && decide (sb < 64) && cls.all (· < 8)) = true := hw
  simp only [Bool.and_eq_true, decide_eq_true_eq] at hw
  refine ⟨_, rfl, ?_⟩
  have := optBits_le cls 8 0 1 (by simp_all)
  have := guardC_le g (by omega)
  have := GSize.code_le size
  simp only [put, SlotClass.bits]
  omega
theorem Encoded.stg (g : Guard) (h : Nat) (size : GSize) (sa : Nat) (sb : Nat) (cls : Option Nat) : Encoded.Statement (.stg g h size sa sb cls) := by
  intro hw
  have hw : (decide (g.q < 16) && decide (h < 16) && decide (sa < 64) && decide (sb < 64) && cls.all (· < 8)) = true := hw
  simp only [Bool.and_eq_true, decide_eq_true_eq] at hw
  refine ⟨_, rfl, ?_⟩
  have := optBits_le cls 8 0 1 (by simp_all)
  have := guardC_le g (by omega)
  have := GSize.code_le size
  simp only [put, SlotClass.bits]
  omega
theorem Encoded.amo (g : Guard) (h : Nat) (fn : AmoFn) (sa : Nat) (sb : Nat) (scope : Scope) : Encoded.Statement (.amo g h fn sa sb scope) := by
  intro hw
  have hw : (decide (g.q < 16) && decide (h < 16) && decide (sa < 64) && decide (sb < 64)) = true := hw
  simp only [Bool.and_eq_true, decide_eq_true_eq] at hw
  refine ⟨_, rfl, ?_⟩
  have := guardC_le g (by omega)
  have := AmoFn.code_le fn
  have := Scope.code_le scope
  simp only [put, SlotClass.bits]
  omega
theorem Encoded.amoc (g : Guard) (h : Nat) (size : CSize) (sa : Nat) (sb : Nat) (scope : Scope) : Encoded.Statement (.amoc g h size sa sb scope) := by
  intro hw
  have hw : (decide (g.q < 16) && decide (h < 16) && decide (sa < 64) && decide (sb < 64) && sb % 2 == 0) = true := hw
  simp only [Bool.and_eq_true, decide_eq_true_eq] at hw
  refine ⟨_, rfl, ?_⟩
  have := guardC_le g (by omega)
  have := CSize.code_le size
  have := Scope.code_le scope
  simp only [put, SlotClass.bits]
  omega
theorem Encoded.fence (g : Guard) (scope : Scope) (mask : Nat) (flush : Bool) : Encoded.Statement (.fence g scope mask flush) := by
  intro hw
  have hw : (decide (g.q < 16) && decide (mask < 256)) = true := hw
  simp only [Bool.and_eq_true, decide_eq_true_eq] at hw
  refine ⟨_, rfl, ?_⟩
  have := guardC_le g (by omega)
  have := Scope.code_le scope
  have := bit_le flush
  simp only [put, SlotClass.bits]
  omega
theorem Encoded.binit (g : Guard) (b : Nat) (count : Nat) : Encoded.Statement (.binit g b count) := by
  intro hw
  have hw : (decide (g.q < 16) && decide (b < 16) && decide (count < 16384) && decide (count > 0)) = true := hw
  simp only [Bool.and_eq_true, decide_eq_true_eq] at hw
  refine ⟨_, rfl, ?_⟩
  have := guardC_le g (by omega)
  simp only [put, SlotClass.bits]
  omega
theorem Encoded.barv (g : Guard) (b : Nat) (sa : Nat) : Encoded.Statement (.barv g b sa) := by
  intro hw
  have hw : (decide (g.q < 16) && decide (b < 16) && decide (sa < 64)) = true := hw
  simp only [Bool.and_eq_true, decide_eq_true_eq] at hw
  refine ⟨_, rfl, ?_⟩
  have := guardC_le g (by omega)
  simp only [put, SlotClass.bits]
  omega
theorem Encoded.bwait (g : Guard) (b : Nat) : Encoded.Statement (.bwait g b) := by
  intro hw
  have hw : (decide (g.q < 16) && decide (b < 16)) = true := hw
  simp only [Bool.and_eq_true, decide_eq_true_eq] at hw
  refine ⟨_, rfl, ?_⟩
  have := guardC_le g (by omega)
  simp only [put, SlotClass.bits]
  omega
theorem Encoded.bexp (g : Guard) (b : Nat) (sa : Nat) : Encoded.Statement (.bexp g b sa) := by
  intro hw
  have hw : (decide (g.q < 16) && decide (b < 16) && decide (sa < 64)) = true := hw
  simp only [Bool.and_eq_true, decide_eq_true_eq] at hw
  refine ⟨_, rfl, ?_⟩
  have := guardC_le g (by omega)
  simp only [put, SlotClass.bits]
  omega
theorem Encoded.gbar (g : Guard) (qs : Nat) (level : Nat) : Encoded.Statement (.gbar g qs level) := by
  intro hw
  have hw : (decide (g.q < 16) && decide (qs < 16) && decide (level < 16) && decide (level < 8)) = true := hw
  simp only [Bool.and_eq_true, decide_eq_true_eq] at hw
  refine ⟨_, rfl, ?_⟩
  have := guardC_le g (by omega)
  simp only [put, SlotClass.bits]
  omega
theorem Encoded.cflush (g : Guard) (h : Nat) (k : Nat) (sa : Nat) (sb : Nat) : Encoded.Statement (.cflush g h k sa sb) := by
  intro hw
  have hw : (decide (g.q < 16) && decide (h < 16) && decide (k < 16) && decide (sa < 64) && decide (sb < 64)) = true := hw
  simp only [Bool.and_eq_true, decide_eq_true_eq] at hw
  refine ⟨_, rfl, ?_⟩
  have := guardC_le g (by omega)
  simp only [put, SlotClass.bits]
  omega
theorem Encoded.arrayOpStart (core : Nat) : Encoded.Statement (.arrayOpStart core) := fun _ => rfl
theorem Encoded.arrayOpEnd (core : Nat) : Encoded.Statement (.arrayOpEnd core) := fun _ => rfl
theorem Encoded.checkpointBundle (core : Nat) : Encoded.Statement (.checkpointBundle core) := fun _ => rfl
theorem Encoded.seqfRelease (parent child : Nat) : Encoded.Statement (.seqfRelease parent child) := fun _ => rfl
theorem Encoded.promiseMissed (core : Nat) : Encoded.Statement (.promiseMissed core) := fun _ => rfl
theorem Encoded.waitSwitchPoint (core : Nat) : Encoded.Statement (.waitSwitchPoint core) := fun _ => rfl
theorem Encoded.saveParkedTask (task : Nat) : Encoded.Statement (.saveParkedTask task) := fun _ => rfl
theorem Encoded.saveAreaReserve (task : Nat) : Encoded.Statement (.saveAreaReserve task) := fun _ => rfl
theorem Encoded.schedulerDecision (die : Nat) : Encoded.Statement (.schedulerDecision die) := fun _ => rfl
theorem Encoded.sliceExhausted (core : Nat) : Encoded.Statement (.sliceExhausted core) := fun _ => rfl
theorem Encoded.drainMaxExpiry (core : Nat) : Encoded.Statement (.drainMaxExpiry core) := fun _ => rfl
theorem Encoded.gangHoldRequest (die : Nat) (cores : List Nat) : Encoded.Statement (.gangHoldRequest die cores) := fun _ => rfl
theorem Encoded.operatorHead (queue : Nat) : Encoded.Statement (.operatorHead queue) := fun _ => rfl
theorem Encoded.holdPrepare (task : Nat) : Encoded.Statement (.holdPrepare task) := fun _ => rfl
theorem Encoded.moveComplete (tensor : Nat) : Encoded.Statement (.moveComplete tensor) := fun _ => rfl
theorem Encoded.copyComplete (copy : Nat) : Encoded.Statement (.copyComplete copy) := fun _ => rfl
theorem Encoded.copyError (copy : Nat) (e : CopyErr) : Encoded.Statement (.copyError copy e) := fun _ => rfl
theorem Encoded.transformViolation (core : Nat) : Encoded.Statement (.transformViolation core) := fun _ => rfl
theorem Encoded.softError (task store place : Nat) : Encoded.Statement (.softError task store place) := fun _ => rfl
theorem Encoded.ingressAccess (r : RemoteReq) : Encoded.Statement (.ingressAccess r) := fun _ => rfl
theorem Encoded.linkTimeout (core link : Nat) : Encoded.Statement (.linkTimeout core link) := fun _ => rfl
theorem Encoded.flitCrcRetry (link : Nat) : Encoded.Statement (.flitCrcRetry link) := fun _ => rfl
theorem Encoded.linkDown (link member : Nat) : Encoded.Statement (.linkDown link member) := fun _ => rfl
theorem Encoded.hostApertureRead (fn index offset bytes : Nat) : Encoded.Statement (.hostApertureRead fn index offset bytes) := fun _ => rfl
theorem Encoded.hostApertureWrite (fn index offset : Nat) (data : List Byte) : Encoded.Statement (.hostApertureWrite fn index offset data) := fun _ => rfl
theorem Encoded.hostAtomicOp (fn index offset bytes : Nat) (op : Rmw) : Encoded.Statement (.hostAtomicOp fn index offset bytes op) := fun _ => rfl
theorem Encoded.refill (c : Cmd) (task bgi bgt : Nat) : Encoded.Statement (.refill c task bgi bgt) := fun _ => rfl
theorem Encoded.kill (c : Cmd) (task : Nat) : Encoded.Statement (.kill c task) := fun _ => rfl
theorem Encoded.freeze (c : Cmd) (queue : Nat) : Encoded.Statement (.freeze c queue) := fun _ => rfl
theorem Encoded.thaw (c : Cmd) (queue : Nat) : Encoded.Statement (.thaw c queue) := fun _ => rfl
theorem Encoded.unfreeze (c : Cmd) (kind number : Nat) : Encoded.Statement (.unfreeze c kind number) := fun _ => rfl
theorem Encoded.ctxsys (c : Cmd) (context grant : Nat) : Encoded.Statement (.ctxsys c context grant) := fun _ => rfl
theorem Encoded.seqnew (c : Cmd) : Encoded.Statement (.seqnew c) := fun _ => rfl
theorem Encoded.seqend (c : Cmd) (seq : Nat) : Encoded.Statement (.seqend c seq) := fun _ => rfl
theorem Encoded.seqread (c : Cmd) (seq addr : Nat) : Encoded.Statement (.seqread c seq addr) := fun _ => rfl
theorem Encoded.ptcreate (c : Cmd) (spec : PtSpec) : Encoded.Statement (.ptcreate c spec) := fun _ => rfl
theorem Encoded.recread (c : Cmd) (tensor addr : Nat) : Encoded.Statement (.recread c tensor addr) := fun _ => rfl
theorem Encoded.exportWindow (c : Cmd) (tensor first count perms : Nat) : Encoded.Statement (.exportWindow c tensor first count perms) := fun _ => rfl
theorem Encoded.unexport (c : Cmd) (index : Nat) : Encoded.Statement (.unexport c index) := fun _ => rfl
theorem Encoded.importWindow (c : Cmd) (spec : ImportSpec) : Encoded.Statement (.importWindow c spec) := fun _ => rfl
theorem Encoded.unimport (c : Cmd) (proxy : Nat) : Encoded.Statement (.unimport c proxy) := fun _ => rfl
theorem Encoded.intake (c : Cmd) (r : IntakeRec) : Encoded.Statement (.intake c r) := fun _ => rfl
theorem Encoded.intakeComplete (job : Nat) (e : IntakeEnd) : Encoded.Statement (.intakeComplete job e) := fun _ => rfl
theorem Encoded.decodeMedia (c : Cmd) (r : DecodeRec) : Encoded.Statement (.decodeMedia c r) := fun _ => rfl
theorem Encoded.decodeComplete (job : Nat) (e : DecodeEnd) : Encoded.Statement (.decodeComplete job e) := fun _ => rfl
theorem Encoded.attest (c : Cmd) (addr nonce : Nat) : Encoded.Statement (.attest c addr nonce) := fun _ => rfl
theorem Encoded.xfload (c : Cmd) (img : XfImage) : Encoded.Statement (.xfload c img) := fun _ => rfl
theorem Encoded.qtailWrite (fn queue value : Nat) : Encoded.Statement (.qtailWrite fn queue value) := fun _ => rfl
theorem Encoded.qsizeWrite (fn queue value : Nat) : Encoded.Statement (.qsizeWrite fn queue value) := fun _ => rfl
theorem Encoded.qctlOpen (fn queue : Nat) : Encoded.Statement (.qctlOpen fn queue) := fun _ => rfl
theorem Encoded.qctlDisable (fn queue : Nat) : Encoded.Statement (.qctlDisable fn queue) := fun _ => rfl
theorem Encoded.fasizeWrite (fn value : Nat) : Encoded.Statement (.fasizeWrite fn value) := fun _ => rfl
theorem Encoded.lfcapWrite (fn stack value : Nat) : Encoded.Statement (.lfcapWrite fn stack value) := fun _ => rfl
theorem Encoded.rackHiWrite (fn stack value : Nat) : Encoded.Statement (.rackHiWrite fn stack value) := fun _ => rfl
theorem Encoded.rackLoWrite (fn stack value : Nat) : Encoded.Statement (.rackLoWrite fn stack value) := fun _ => rfl
theorem Encoded.vbshiftWrite (fn stack value : Nat) : Encoded.Statement (.vbshiftWrite fn stack value) := fun _ => rfl
theorem Encoded.vbretireWrite (fn stack value : Nat) : Encoded.Statement (.vbretireWrite fn stack value) := fun _ => rfl
theorem Encoded.registerWrite (fn : Nat) (r : RegRef) (value : Nat) : Encoded.Statement (.registerWrite fn r value) := fun _ => rfl
theorem Encoded.rackBank (stack : Nat) (layer : Layer) (bank : Nat) : Encoded.Statement (.rackBank stack layer bank) := fun _ => rfl
theorem Encoded.bankWake (stack : Nat) (layer : Layer) (bank : Nat) : Encoded.Statement (.bankWake stack layer bank) := fun _ => rfl
theorem Encoded.layerClockChange (stack : Nat) (layer : Layer) (mhz : Nat) : Encoded.Statement (.layerClockChange stack layer mhz) := fun _ => rfl
theorem Encoded.vbusEccError (stack : Nat) (e : VbusErr) : Encoded.Statement (.vbusEccError stack e) := fun _ => rfl
theorem Encoded.remapTableError (stack : Nat) (both : Bool) (dirty : List (Nat × Nat × Nat)) : Encoded.Statement (.remapTableError stack both dirty) := fun _ => rfl
theorem Encoded.rbgHealthFail (test : Nat) : Encoded.Statement (.rbgHealthFail test) := fun _ => rfl
theorem Encoded.deviceReset : Encoded.Statement .deviceReset := fun _ => rfl
theorem Encoded.cellarLayerPowerOff (stack : Nat) (layer : Layer) : Encoded.Statement (.cellarLayerPowerOff stack layer) := fun _ => rfl
theorem Encoded.cellarLayerPowerOn (stack : Nat) (layer : Layer) : Encoded.Statement (.cellarLayerPowerOn stack layer) := fun _ => rfl
theorem Encoded.hostDeletion (fn tensor : Nat) : Encoded.Statement (.hostDeletion fn tensor) := fun _ => rfl
theorem Encoded.imageLoad (img : Image) : Encoded.Statement (.imageLoad img) := fun _ => rfl

end Laws

end Sys2Proof
end

