-- ==== Sys2Proof/Laws/Results.lean ====
section
/-! SUPPORT. From the equation of a meaning that only sets a result on its way to what the instruction gives (R37, R46, R60). -/

namespace Sys2Proof.Machine

/-- Setting a result on its way changes the results in flight alone. -/
theorem Task.emit_pend (t : Task) (u tag : Nat) (d : Dest) (bound : Nat) (fl : Flags) :
    t.emit u tag d bound fl = { t with pend := (t.emit u tag d bound fl).pend } := by
  unfold Task.emit
  by_cases h : (t.pend.filter fun p => d.key.isSome && p.dest.key == d.key && decide (u + 1 ≤ p.last)).isEmpty = true
  · simp only [h, if_true]
  · simp only [h]
    rfl

/-- An instruction that makes the effects of `s1` and emits a result completes with both. -/
theorem State.completesWith_of_emit (s s1 : State) (i : Instr) (d : Dest) (bound : Nat) (fl : Flags) (f : Arch → Arch)
    (hk : s1.clk = s.clk) (he : exec i s = (s1.emit d bound fl).ran) (hd : d.plain) (hc : ∀ k, d.key = some k → s1.clear k)
    (hf : fl = 0 ∨ s1.noTstat) (hfun : ∀ a, f a = { a.land d false s1.free with tstat := a.tstat ||| fl }) :
    s.CompletesWith s1 i bound f := by
  refine ⟨_, he, ?_, ?_⟩
  · unfold State.Issues State.emit
    exact congrArg (fun c => ({ s1 with cur := c, free := s1.free + 1, ctx := { s1.ctx with out := .ran } } : State))
      (s1.cur.emit_pend s1.clk s1.free d bound fl)
  · intro u hu
    rw [hfun]
    exact s1.settle_emit d bound fl u hd hc hf (hk ▸ hu)

/-- An instruction that only emits a result completes with that result. -/
theorem State.completes_of_emit (s : State) (i : Instr) (d : Dest) (bound : Nat) (fl : Flags) (f : Arch → Arch)
    (he : exec i s = (s.emit d bound fl).ran) (hd : d.plain) (hc : ∀ k, d.key = some k → s.clear k) (hf : fl = 0 ∨ s.noTstat)
    (hfun : ∀ a, f a = { a.land d false s.free with tstat := a.tstat ||| fl }) : s.Completes i bound f :=
  s.completesWith_of_emit s i d bound fl f rfl he hd hc hf hfun

/-- Where nothing is emitted, the effects are those of `s1`. -/
theorem State.completesWith_of_ran (s s1 : State) (i : Instr) (bound : Nat) (f : Arch → Arch) (he : exec i s = s1.ran)
    (hf : ∀ a, f a = a) : s.CompletesWith s1 i bound f := by
  refine ⟨_, he, rfl, ?_⟩
  intro u _
  rw [hf]

/-- Where nothing is emitted, nothing changes. -/
theorem State.completes_of_none (s : State) (i : Instr) (bound : Nat) (f : Arch → Arch) (he : exec i s = s.ran) (hf : ∀ a, f a = a) :
    s.Completes i bound f := s.completesWith_of_ran s i bound f he hf

theorem flags_or_zero (x : Flags) : x ||| (0 : Flags) = x := by simp

theorem State.gives_emitS (s : State) (i : Instr) (sd : Nat) (v : Word) (bound : Nat) (fl : Flags)
    (he : exec i s = (s.emitS sd v bound fl).ran) (hr : s.roomS sd) (hf : fl = 0 ∨ s.noTstat) :
    s.Completes i bound (s.setS sd v fl) := by
  unfold State.emitS at he
  by_cases h : sd = 0
  · rw [if_pos h] at he
    refine s.completes_of_emit i _ bound fl _ he ⟨nofun, nofun⟩ (by intro k hk; cases hk) hf ?_
    intro a
    unfold State.setS
    rw [if_pos h]
    rfl
  · rw [if_neg h] at he
    refine s.completes_of_emit i _ bound fl _ he ⟨nofun, nofun⟩ ?_ hf ?_
    · intro k hk
      cases hk
      exact hr.resolve_left h
    · intro a
      unfold State.setS
      rw [if_neg h]
      rfl

theorem State.givesS_emitS (s : State) (i : Instr) (sd : Nat) (v : Word) (bound : Nat)
    (he : exec i s = (s.emitS sd v bound 0).ran) (hr : s.roomS sd) : s.GivesS i sd v bound :=
  s.gives_emitS i sd v bound 0 he hr (.inl rfl)

theorem State.givesF_emitS (s : State) (i : Instr) (sd : Nat) (r : Word × Flags) (bound : Nat)
    (he : exec i s = (s.emitS sd r.1 bound r.2).ran) (hr : s.roomS sd) (hf : s.noTstat) : s.GivesF i sd r bound :=
  s.gives_emitS i sd r.1 bound r.2 he hr (.inr hf)

theorem State.givesQ_emitQ (s : State) (i : Instr) (qd : Nat) (v : Bool) (bound : Nat)
    (he : exec i s = (s.emitQ qd v bound).ran) (hr : s.roomQ qd) : s.GivesQ i qd v bound := by
  unfold State.emitQ at he
  by_cases h : qd = 0
  · rw [if_pos h] at he
    refine s.completes_of_none i bound _ he ?_
    intro a
    unfold setQ
    rw [if_pos h]
  · rw [if_neg h] at he
    refine s.completes_of_emit i _ bound 0 _ he ⟨nofun, nofun⟩ ?_ (.inl rfl) ?_
    · intro k hk
      cases hk
      exact hr.resolve_left h
    · intro a
      unfold setQ
      rw [if_neg h, flags_or_zero]
      rfl

theorem State.givesP_emitP (s : State) (i : Instr) (pd : Nat) (r : PRes) (bound : Nat)
    (he : exec i s = (s.emitP pd r bound).ran) (hr : s.roomP pd) : s.GivesP i pd r bound := by
  unfold State.emitP at he
  by_cases h : pd = 0
  · rw [if_pos h] at he
    refine s.completes_of_none i bound _ he ?_
    intro a
    unfold setP
    rw [if_pos h]
  · rw [if_neg h] at he
    refine s.completes_of_emit i _ bound 0 _ he ⟨nofun, nofun⟩ ?_ (.inl rfl) ?_
    · intro k hk
      cases hk
      exact hr.resolve_left h
    · intro a
      unfold setP
      rw [if_neg h, flags_or_zero]
      rfl

theorem State.givesV_emitV (s : State) (i : Instr) (vd : Nat) (r : VRes) (bound : Nat)
    (he : exec i s = (s.emitV vd r bound).ran) (hr : s.roomV vd) (hf : r.flags = 0 ∨ s.noTstat) : s.GivesV i vd r bound := by
  unfold State.emitV at he
  refine s.completes_of_emit i _ bound r.flags _ he ⟨nofun, nofun⟩ ?_ hf ?_
  · intro k hk
    cases hk
    exact hr
  · intro a
    rfl

/-- Under a true guard a slot does what it says. -/
theorem State.under_on (s : State) (g : Guard) (k : Host.Outcome State Fault Refusal) (h : s.guardOn g = true) : s.under g k = k := if_pos h
/-- Under a false guard it does nothing (R55). -/
theorem State.under_off (s : State) (g : Guard) (k : Host.Outcome State Fault Refusal) (h : s.guardOn g = false) : s.under g k = s.ran := by
  unfold State.under
  rw [h]
  rfl

theorem State.givesS_putS (s : State) (i : Instr) (g : Guard) (sd : Nat) (v : Word) (bound : Nat)
    (he : exec i s = s.putS g sd v bound) (hg : s.guardOn g = true) (hr : s.roomS sd) : s.GivesS i sd v bound :=
  s.givesS_emitS i sd v bound (he.trans (s.under_on g _ hg)) hr
theorem State.givesF_putF (s : State) (i : Instr) (g : Guard) (sd : Nat) (r : Word × Flags)
    (he : exec i s = s.putF g sd r) (hg : s.guardOn g = true) (hr : s.roomS sd) (hf : s.noTstat) : s.GivesF i sd r 4 :=
  s.givesF_emitS i sd r 4 (he.trans (s.under_on g _ hg)) hr hf
theorem State.givesQ_putQ (s : State) (i : Instr) (g : Guard) (qd : Nat) (v : Bool) (bound : Nat)
    (he : exec i s = s.putQ g qd v bound) (hg : s.guardOn g = true) (hr : s.roomQ qd) : s.GivesQ i qd v bound :=
  s.givesQ_emitQ i qd v bound (he.trans (s.under_on g _ hg)) hr

end Sys2Proof.Machine
end

