-- ==== Sys2Proof/Laws/Store.lean ====
section
/-! SUPPORT. The laws of the plain containers: what a read gives after a write, and that every operation on memory keeps its
canonical form. -/

namespace Sys2Proof.Machine

variable {α : Type}

/-- Every index of a table lies above a bound. -/
def Store.above (n : Nat) (m : Store α) : Prop := ∀ c ∈ m, n < c.1

/-- A rising table: its first index lies below every other, and the rest rises. -/
theorem Store.sorted_cons (k : Nat) (v : α) (m : Store α) :
    Store.sorted ((k, v) :: m) = true ↔ Store.above k m ∧ Store.sorted m = true := by
  induction m generalizing k v with
  | nil => simp [Store.sorted, Store.above]
  | cons c rest ih =>
    obtain ⟨j, w⟩ := c
    simp only [Store.sorted, Bool.and_eq_true, decide_eq_true_eq]
    constructor
    · rintro ⟨h, hs⟩
      refine ⟨?_, hs⟩
      intro c hc
      rcases List.mem_cons.mp hc with rfl | hc
      · exact h
      · exact Nat.lt_trans h (((ih j w).mp hs).1 c hc)
    · rintro ⟨h, hs⟩
      exact ⟨h (j, w) (by simp), hs⟩

theorem Store.get_of_above (d : α) (m : Store α) (i n : Nat) (h : Store.above n m) (hi : i ≤ n) : Store.get d m i = d := by
  induction m with
  | nil => rfl
  | cons c rest ih =>
    obtain ⟨k, v⟩ := c
    have hk : n < k := h (k, v) (by simp)
    simp only [Store.get]
    rw [if_neg (by omega)]
    exact ih fun c hc => h c (by simp [hc])

theorem Store.get_put_self (d : α) (m : Store α) (i : Nat) (v : α) : Store.get d (Store.put i v m) i = v := by
  induction m with
  | nil => simp [Store.put, Store.get]
  | cons c rest ih =>
    obtain ⟨k, w⟩ := c
    simp only [Store.put]
    split
    · simp [Store.get]
    · split
      · rename_i h
        simp [Store.get, h]
      · rename_i h
        simp [Store.get, h, ih]

theorem Store.get_put_other (d : α) (m : Store α) (i j : Nat) (v : α) (h : j ≠ i) :
    Store.get d (Store.put i v m) j = Store.get d m j := by
  induction m with
  | nil => simp [Store.put, Store.get, Ne.symm h]
  | cons c rest ih =>
    obtain ⟨k, w⟩ := c
    simp only [Store.put]
    split
    · simp [Store.get, Ne.symm h]
    · split
      · rename_i hk
        simp [Store.get, hk, Ne.symm h]
      · simp [Store.get, ih]

theorem Store.get_del_other (d : α) (m : Store α) (i j : Nat) (h : j ≠ i) : Store.get d (Store.del i m) j = Store.get d m j := by
  induction m with
  | nil => rfl
  | cons c rest ih =>
    obtain ⟨k, w⟩ := c
    simp only [Store.del]
    split
    · rename_i hk
      simp [Store.get, hk, Ne.symm h]
    · simp [Store.get, ih]

theorem Store.above_put (m : Store α) (n i : Nat) (v : α) (h : Store.above n m) (hi : n < i) : Store.above n (Store.put i v m) := by
  induction m with
  | nil => simp [Store.put, Store.above, hi]
  | cons c rest ih =>
    obtain ⟨k, w⟩ := c
    have hk : n < k := h (k, w) (by simp)
    have hr : Store.above n rest := fun c hc => h c (by simp [hc])
    simp only [Store.put]
    split
    · intro c hc
      rcases List.mem_cons.mp hc with rfl | hc
      · exact hi
      · exact h c hc
    · split
      · intro c hc
        rcases List.mem_cons.mp hc with rfl | hc
        · exact hk
        · exact hr c hc
      · intro c hc
        rcases List.mem_cons.mp hc with rfl | hc
        · exact hk
        · exact ih hr c hc

theorem Store.above_del (m : Store α) (n i : Nat) (h : Store.above n m) : Store.above n (Store.del i m) := by
  induction m with
  | nil => exact h
  | cons c rest ih =>
    obtain ⟨k, w⟩ := c
    have hr : Store.above n rest := fun c hc => h c (by simp [hc])
    simp only [Store.del]
    split
    · exact hr
    · intro c hc
      rcases List.mem_cons.mp hc with rfl | hc
      · exact h (k, w) (by simp)
      · exact ih hr c hc

theorem Store.sorted_put (m : Store α) (i : Nat) (v : α) (h : Store.sorted m = true) : Store.sorted (Store.put i v m) = true := by
  induction m with
  | nil => rfl
  | cons c rest ih =>
    obtain ⟨k, w⟩ := c
    obtain ⟨ha, hs⟩ := (Store.sorted_cons k w rest).mp h
    simp only [Store.put]
    split
    · rename_i hi
      refine (Store.sorted_cons i v _).mpr ⟨?_, h⟩
      intro c hc
      rcases List.mem_cons.mp hc with rfl | hc
      · exact hi
      · exact Nat.lt_trans hi (ha c hc)
    · split
      · exact (Store.sorted_cons k v rest).mpr ⟨ha, hs⟩
      · exact (Store.sorted_cons k w _).mpr ⟨Store.above_put rest k i v ha (by omega), ih hs⟩

theorem Store.sorted_del (m : Store α) (i : Nat) (h : Store.sorted m = true) : Store.sorted (Store.del i m) = true := by
  induction m with
  | nil => rfl
  | cons c rest ih =>
    obtain ⟨k, w⟩ := c
    obtain ⟨ha, hs⟩ := (Store.sorted_cons k w rest).mp h
    simp only [Store.del]
    split
    · exact hs
    · exact (Store.sorted_cons k w _).mpr ⟨Store.above_del rest k i ha, ih hs⟩

/-- In a rising table nothing is left at an index that was taken away. -/
theorem Store.get_del_self (d : α) (m : Store α) (i : Nat) (h : Store.sorted m = true) : Store.get d (Store.del i m) i = d := by
  induction m with
  | nil => rfl
  | cons c rest ih =>
    obtain ⟨k, w⟩ := c
    obtain ⟨ha, hs⟩ := (Store.sorted_cons k w rest).mp h
    simp only [Store.del]
    split
    · rename_i hk
      exact Store.get_of_above d rest i k ha (by omega)
    · rename_i hk
      simp [Store.get, hk, ih hs]

theorem Store.mem_put (m : Store α) (i : Nat) (v : α) (c : Nat × α) (h : c ∈ Store.put i v m) : c = (i, v) ∨ c ∈ m := by
  induction m with
  | nil => simpa [Store.put] using h
  | cons x rest ih =>
    obtain ⟨k, w⟩ := x
    simp only [Store.put] at h
    split at h
    · simpa using h
    · split at h
      · rename_i hk
        subst hk
        rcases List.mem_cons.mp h with rfl | h
        · exact .inl rfl
        · exact .inr (by simp [h])
      · rcases List.mem_cons.mp h with rfl | h
        · exact .inr (by simp)
        · rcases ih h with h | h
          · exact .inl h
          · exact .inr (by simp [h])

theorem Store.mem_del (m : Store α) (i : Nat) (c : Nat × α) (h : c ∈ Store.del i m) : c ∈ m := by
  induction m with
  | nil => exact h
  | cons x rest ih =>
    obtain ⟨k, w⟩ := x
    simp only [Store.del] at h
    split at h
    · simp [h]
    · rcases List.mem_cons.mp h with rfl | h
      · simp
      · simp [ih h]

theorem Store.sorted_filter (m : Store α) (p : Nat × α → Bool) (h : Store.sorted m = true) : Store.sorted (m.filter p) = true := by
  induction m with
  | nil => rfl
  | cons c rest ih =>
    obtain ⟨k, v⟩ := c
    obtain ⟨ha, hs⟩ := (Store.sorted_cons k v rest).mp h
    rw [List.filter_cons]
    split
    · refine (Store.sorted_cons k v _).mpr ⟨?_, ih hs⟩
      intro c hc
      exact ha c (List.mem_filter.mp hc).1
    · exact ih hs

variable [DecidableEq α]

/-- A read of what was written. -/
theorem Store.get_set_self (d : α) (m : Store α) (i : Nat) (v : α) (h : Store.sorted m = true) :
    Store.get d (Store.set d m i v) i = v := by
  unfold Store.set
  split
  · rename_i hv
    rw [hv]
    exact Store.get_del_self d m i h
  · exact Store.get_put_self d m i v

/-- A write leaves every other index alone. -/
theorem Store.get_set_other (d : α) (m : Store α) (i j : Nat) (v : α) (h : j ≠ i) :
    Store.get d (Store.set d m i v) j = Store.get d m j := by
  unfold Store.set
  split
  · exact Store.get_del_other d m i j h
  · exact Store.get_put_other d m i j v h

theorem Store.sorted_set (d : α) (m : Store α) (i : Nat) (v : α) (h : Store.sorted m = true) :
    Store.sorted (Store.set d m i v) = true := by
  unfold Store.set
  split
  · exact Store.sorted_del m i h
  · exact Store.sorted_put m i v h

/-- The canonical form in words: rising, and no entry equal to what an unlisted address reads as. -/
theorem Memory.wf_iff (m : Memory) : Memory.wf m = true ↔ Store.sorted m = true ∧ ∀ c ∈ m, c.2 ≠ Memory.unlisted := by
  simp [Memory.wf]

theorem Memory.wf_nil : Memory.wf [] = true := rfl

theorem Memory.wf_setByte (m : Memory) (a : Nat) (b : BitVec 8) (h : Memory.wf m = true) : Memory.wf (Memory.setByte m a b) = true := by
  rw [Memory.wf_iff] at h ⊢
  refine ⟨Store.sorted_set Memory.unlisted m a b h.1, ?_⟩
  intro c hc
  unfold Memory.setByte Store.set at hc
  split at hc
  · exact h.2 c (Store.mem_del m a c hc)
  · rename_i hb
    rcases Store.mem_put m a b c hc with rfl | hc
    · exact hb
    · exact h.2 c hc

theorem Memory.wf_setBytes (bs : List (BitVec 8)) (m : Memory) (a : Nat) (h : Memory.wf m = true) :
    Memory.wf (Memory.setBytes m a bs) = true := by
  induction bs generalizing m a with
  | nil => exact h
  | cons b rest ih => exact ih _ _ (Memory.wf_setByte m a b h)

theorem Memory.wf_clear (m : Memory) (lo hi : Nat) (h : Memory.wf m = true) : Memory.wf (Memory.clear m lo hi) = true := by
  rw [Memory.wf_iff] at h ⊢
  exact ⟨Store.sorted_filter m _ h.1, fun c hc => h.2 c (List.mem_filter.mp hc).1⟩

theorem Memory.wf_cells (cells : List Host.Cell) (m : Memory) (h : Memory.wf m = true) :
    Memory.wf (cells.foldl (fun (m : Memory) (c : Host.Cell) => Memory.setByte m c.1 c.2) m) = true := by
  induction cells generalizing m with
  | nil => exact h
  | cons c rest ih => exact ih _ (Memory.wf_setByte m c.1 c.2 h)

/-- A byte read after it was written. -/
theorem Memory.byte_setByte_self (m : Memory) (a : Nat) (b : BitVec 8) (h : Memory.wf m = true) :
    Memory.byte (Memory.setByte m a b) a = b :=
  Store.get_set_self Memory.unlisted m a b ((Memory.wf_iff m).mp h).1

/-- A byte elsewhere is as before. -/
theorem Memory.byte_setByte_other (m : Memory) (a x : Nat) (b : BitVec 8) (h : x ≠ a) :
    Memory.byte (Memory.setByte m a b) x = Memory.byte m x :=
  Store.get_set_other Memory.unlisted m a x b h

/-- Bytes outside a stored range are as before. -/
theorem Memory.byte_setBytes_other (bs : List (BitVec 8)) (m : Memory) (a x : Nat) (h : x < a ∨ a + bs.length ≤ x) :
    Memory.byte (Memory.setBytes m a bs) x = Memory.byte m x := by
  induction bs generalizing m a with
  | nil => rfl
  | cons b rest ih =>
    rw [List.length_cons] at h
    simp only [Memory.setBytes]
    rw [ih _ _ (by omega), Memory.byte_setByte_other m a x b (by omega)]

/-- The bytes of a stored range read as stored. -/
theorem Memory.byte_setBytes (bs : List (BitVec 8)) (m : Memory) (a i : Nat) (h : Memory.wf m = true) (hi : i < bs.length) :
    Memory.byte (Memory.setBytes m a bs) (a + i) = bs[i] := by
  induction bs generalizing m a i with
  | nil => simp at hi
  | cons b rest ih =>
    simp only [Memory.setBytes]
    cases i with
    | zero =>
      rw [Memory.byte_setBytes_other rest _ _ _ (by omega)]
      simpa using Memory.byte_setByte_self m a b h
    | succ n =>
      have := ih (Memory.setByte m a b) (a + 1) n (Memory.wf_setByte m a b h) (by simpa using hi)
      simpa [Nat.add_assoc, Nat.add_comm 1 n] using this

end Sys2Proof.Machine
end

