-- ==== Sys2Proof/Laws/State.lean ====
section
/-! SUPPORT. What each update of the state leaves of every field, and what a read of a table gives after it. -/

namespace Sys2Proof.Machine

/-! `State.setStack` changes `dies` alone. -/
@[simp] theorem State.setStack_free (s : State) (n : Nat) (k : Stack) : (s.setStack n k).free = s.free := rfl
@[simp] theorem State.setStack_agenda (s : State) (n : Nat) (k : Stack) : (s.setStack n k).agenda = s.agenda := rfl
@[simp] theorem State.setStack_auto (s : State) (n : Nat) (k : Stack) : (s.setStack n k).auto = s.auto := rfl
@[simp] theorem State.setStack_ctx (s : State) (n : Nat) (k : Stack) : (s.setStack n k).ctx = s.ctx := rfl
@[simp] theorem State.setStack_now (s : State) (n : Nat) (k : Stack) : (s.setStack n k).now = s.now := rfl
@[simp] theorem State.setStack_core (s : State) (n : Nat) (k : Stack) : (s.setStack n k).core = s.core := rfl
@[simp] theorem State.setStack_cur (s : State) (n : Nat) (k : Stack) : (s.setStack n k).cur = s.cur := rfl
@[simp] theorem State.setStack_tasks (s : State) (n : Nat) (k : Stack) : (s.setStack n k).tasks = s.tasks := rfl
@[simp] theorem State.setStack_works (s : State) (n : Nat) (k : Stack) : (s.setStack n k).works = s.works := rfl
@[simp] theorem State.setStack_copies (s : State) (n : Nat) (k : Stack) : (s.setStack n k).copies = s.copies := rfl
@[simp] theorem State.setStack_nextTask (s : State) (n : Nat) (k : Stack) : (s.setStack n k).nextTask = s.nextTask := rfl
@[simp] theorem State.setStack_nextWork (s : State) (n : Nat) (k : Stack) : (s.setStack n k).nextWork = s.nextWork := rfl
@[simp] theorem State.setStack_nextCopy (s : State) (n : Nat) (k : Stack) : (s.setStack n k).nextCopy = s.nextCopy := rfl
@[simp] theorem State.setStack_serial (s : State) (n : Nat) (k : Stack) : (s.setStack n k).serial = s.serial := rfl
@[simp] theorem State.setStack_cores (s : State) (n : Nat) (k : Stack) : (s.setStack n k).cores = s.cores := rfl
@[simp] theorem State.setStack_dies (s : State) (n : Nat) (k : Stack) : (s.setStack n k).dies = Store.set Stack.init s.dies n k := rfl
@[simp] theorem State.setStack_landing (s : State) (n : Nat) (k : Stack) : (s.setStack n k).landing = s.landing := rfl
@[simp] theorem State.setStack_queues (s : State) (n : Nat) (k : Stack) : (s.setStack n k).queues = s.queues := rfl
@[simp] theorem State.setStack_forks (s : State) (n : Nat) (k : Stack) : (s.setStack n k).forks = s.forks := rfl
@[simp] theorem State.setStack_pool (s : State) (n : Nat) (k : Stack) : (s.setStack n k).pool = s.pool := rfl
@[simp] theorem State.setStack_tensors (s : State) (n : Nat) (k : Stack) : (s.setStack n k).tensors = s.tensors := rfl
@[simp] theorem State.setStack_pages (s : State) (n : Nat) (k : Stack) : (s.setStack n k).pages = s.pages := rfl
@[simp] theorem State.setStack_mem (s : State) (n : Nat) (k : Stack) : (s.setStack n k).mem = s.mem := rfl
@[simp] theorem State.setStack_hostMem (s : State) (n : Nat) (k : Stack) : (s.setStack n k).hostMem = s.hostMem := rfl
@[simp] theorem State.setStack_nc (s : State) (n : Nat) (k : Stack) : (s.setStack n k).nc = s.nc := rfl
@[simp] theorem State.setStack_recipes (s : State) (n : Nat) (k : Stack) : (s.setStack n k).recipes = s.recipes := rfl
@[simp] theorem State.setStack_seqs (s : State) (n : Nat) (k : Stack) : (s.setStack n k).seqs = s.seqs := rfl
@[simp] theorem State.setStack_lastSeq (s : State) (n : Nat) (k : Stack) : (s.setStack n k).lastSeq = s.lastSeq := rfl
@[simp] theorem State.setStack_keys (s : State) (n : Nat) (k : Stack) : (s.setStack n k).keys = s.keys := rfl
@[simp] theorem State.setStack_exports (s : State) (n : Nat) (k : Stack) : (s.setStack n k).exports = s.exports := rfl
@[simp] theorem State.setStack_imports (s : State) (n : Nat) (k : Stack) : (s.setStack n k).imports = s.imports := rfl
@[simp] theorem State.setStack_ingress (s : State) (n : Nat) (k : Stack) : (s.setStack n k).ingress = s.ingress := rfl
@[simp] theorem State.setStack_fns (s : State) (n : Nat) (k : Stack) : (s.setStack n k).fns = s.fns := rfl
@[simp] theorem State.setStack_ctxFn (s : State) (n : Nat) (k : Stack) : (s.setStack n k).ctxFn = s.ctxFn := rfl
@[simp] theorem State.setStack_ctxSys (s : State) (n : Nat) (k : Stack) : (s.setStack n k).ctxSys = s.ctxSys := rfl
@[simp] theorem State.setStack_tlto (s : State) (n : Nat) (k : Stack) : (s.setStack n k).tlto = s.tlto := rfl
@[simp] theorem State.setStack_bootstat (s : State) (n : Nat) (k : Stack) : (s.setStack n k).bootstat = s.bootstat := rfl
@[simp] theorem State.setStack_jobs (s : State) (n : Nat) (k : Stack) : (s.setStack n k).jobs = s.jobs := rfl
@[simp] theorem State.setStack_claims (s : State) (n : Nat) (k : Stack) : (s.setStack n k).claims = s.claims := rfl
@[simp] theorem State.setStack_nextJob (s : State) (n : Nat) (k : Stack) : (s.setStack n k).nextJob = s.nextJob := rfl
@[simp] theorem State.setStack_decFrozen (s : State) (n : Nat) (k : Stack) : (s.setStack n k).decFrozen = s.decFrozen := rfl
@[simp] theorem State.setStack_rbgOk (s : State) (n : Nat) (k : Stack) : (s.setStack n k).rbgOk = s.rbgOk := rfl
@[simp] theorem State.setStack_routines (s : State) (n : Nat) (k : Stack) : (s.setStack n k).routines = s.routines := rfl
@[simp] theorem State.setStack_xfBytes (s : State) (n : Nat) (k : Stack) : (s.setStack n k).xfBytes = s.xfBytes := rfl
@[simp] theorem State.setStack_xfMem (s : State) (n : Nat) (k : Stack) : (s.setStack n k).xfMem = s.xfMem := rfl
@[simp] theorem State.setStack_linksDown (s : State) (n : Nat) (k : Stack) : (s.setStack n k).linksDown = s.linksDown := rfl
@[simp] theorem State.setStack_links (s : State) (n : Nat) (k : Stack) : (s.setStack n k).links = s.links := rfl
@[simp] theorem State.setStack_routes (s : State) (n : Nat) (k : Stack) : (s.setStack n k).routes = s.routes := rfl
@[simp] theorem State.setStack_drives (s : State) (n : Nat) (k : Stack) : (s.setStack n k).drives = s.drives := rfl
@[simp] theorem State.setStack_granted (s : State) (n : Nat) (k : Stack) : (s.setStack n k).granted = s.granted := rfl
@[simp] theorem State.setStack_boot (s : State) (n : Nat) (k : Stack) : (s.setStack n k).boot = s.boot := rfl
@[simp] theorem State.setStack_run (s : State) (n : Nat) (k : Stack) : (s.setStack n k).run = s.run := rfl
@[simp] theorem State.setStack_fuses (s : State) (n : Nat) (k : Stack) : (s.setStack n k).fuses = s.fuses := rfl
@[simp] theorem State.setStack_identity (s : State) (n : Nat) (k : Stack) : (s.setStack n k).identity = s.identity := rfl
@[simp] theorem State.setStack_xfImages (s : State) (n : Nat) (k : Stack) : (s.setStack n k).xfImages = s.xfImages := rfl

/-! `State.setCore` changes `cores` alone. -/
@[simp] theorem State.setCore_free (s : State) (n : Nat) (c : CoreSt) : (s.setCore n c).free = s.free := rfl
@[simp] theorem State.setCore_agenda (s : State) (n : Nat) (c : CoreSt) : (s.setCore n c).agenda = s.agenda := rfl
@[simp] theorem State.setCore_auto (s : State) (n : Nat) (c : CoreSt) : (s.setCore n c).auto = s.auto := rfl
@[simp] theorem State.setCore_ctx (s : State) (n : Nat) (c : CoreSt) : (s.setCore n c).ctx = s.ctx := rfl
@[simp] theorem State.setCore_now (s : State) (n : Nat) (c : CoreSt) : (s.setCore n c).now = s.now := rfl
@[simp] theorem State.setCore_core (s : State) (n : Nat) (c : CoreSt) : (s.setCore n c).core = s.core := rfl
@[simp] theorem State.setCore_cur (s : State) (n : Nat) (c : CoreSt) : (s.setCore n c).cur = s.cur := rfl
@[simp] theorem State.setCore_tasks (s : State) (n : Nat) (c : CoreSt) : (s.setCore n c).tasks = s.tasks := rfl
@[simp] theorem State.setCore_works (s : State) (n : Nat) (c : CoreSt) : (s.setCore n c).works = s.works := rfl
@[simp] theorem State.setCore_copies (s : State) (n : Nat) (c : CoreSt) : (s.setCore n c).copies = s.copies := rfl
@[simp] theorem State.setCore_nextTask (s : State) (n : Nat) (c : CoreSt) : (s.setCore n c).nextTask = s.nextTask := rfl
@[simp] theorem State.setCore_nextWork (s : State) (n : Nat) (c : CoreSt) : (s.setCore n c).nextWork = s.nextWork := rfl
@[simp] theorem State.setCore_nextCopy (s : State) (n : Nat) (c : CoreSt) : (s.setCore n c).nextCopy = s.nextCopy := rfl
@[simp] theorem State.setCore_serial (s : State) (n : Nat) (c : CoreSt) : (s.setCore n c).serial = s.serial := rfl
@[simp] theorem State.setCore_cores (s : State) (n : Nat) (c : CoreSt) : (s.setCore n c).cores = Store.set CoreSt.init s.cores n c := rfl
@[simp] theorem State.setCore_dies (s : State) (n : Nat) (c : CoreSt) : (s.setCore n c).dies = s.dies := rfl
@[simp] theorem State.setCore_landing (s : State) (n : Nat) (c : CoreSt) : (s.setCore n c).landing = s.landing := rfl
@[simp] theorem State.setCore_queues (s : State) (n : Nat) (c : CoreSt) : (s.setCore n c).queues = s.queues := rfl
@[simp] theorem State.setCore_forks (s : State) (n : Nat) (c : CoreSt) : (s.setCore n c).forks = s.forks := rfl
@[simp] theorem State.setCore_pool (s : State) (n : Nat) (c : CoreSt) : (s.setCore n c).pool = s.pool := rfl
@[simp] theorem State.setCore_tensors (s : State) (n : Nat) (c : CoreSt) : (s.setCore n c).tensors = s.tensors := rfl
@[simp] theorem State.setCore_pages (s : State) (n : Nat) (c : CoreSt) : (s.setCore n c).pages = s.pages := rfl
@[simp] theorem State.setCore_mem (s : State) (n : Nat) (c : CoreSt) : (s.setCore n c).mem = s.mem := rfl
@[simp] theorem State.setCore_hostMem (s : State) (n : Nat) (c : CoreSt) : (s.setCore n c).hostMem = s.hostMem := rfl
@[simp] theorem State.setCore_nc (s : State) (n : Nat) (c : CoreSt) : (s.setCore n c).nc = s.nc := rfl
@[simp] theorem State.setCore_recipes (s : State) (n : Nat) (c : CoreSt) : (s.setCore n c).recipes = s.recipes := rfl
@[simp] theorem State.setCore_seqs (s : State) (n : Nat) (c : CoreSt) : (s.setCore n c).seqs = s.seqs := rfl
@[simp] theorem State.setCore_lastSeq (s : State) (n : Nat) (c : CoreSt) : (s.setCore n c).lastSeq = s.lastSeq := rfl
@[simp] theorem State.setCore_keys (s : State) (n : Nat) (c : CoreSt) : (s.setCore n c).keys = s.keys := rfl
@[simp] theorem State.setCore_exports (s : State) (n : Nat) (c : CoreSt) : (s.setCore n c).exports = s.exports := rfl
@[simp] theorem State.setCore_imports (s : State) (n : Nat) (c : CoreSt) : (s.setCore n c).imports = s.imports := rfl
@[simp] theorem State.setCore_ingress (s : State) (n : Nat) (c : CoreSt) : (s.setCore n c).ingress = s.ingress := rfl
@[simp] theorem State.setCore_fns (s : State) (n : Nat) (c : CoreSt) : (s.setCore n c).fns = s.fns := rfl
@[simp] theorem State.setCore_ctxFn (s : State) (n : Nat) (c : CoreSt) : (s.setCore n c).ctxFn = s.ctxFn := rfl
@[simp] theorem State.setCore_ctxSys (s : State) (n : Nat) (c : CoreSt) : (s.setCore n c).ctxSys = s.ctxSys := rfl
@[simp] theorem State.setCore_tlto (s : State) (n : Nat) (c : CoreSt) : (s.setCore n c).tlto = s.tlto := rfl
@[simp] theorem State.setCore_bootstat (s : State) (n : Nat) (c : CoreSt) : (s.setCore n c).bootstat = s.bootstat := rfl
@[simp] theorem State.setCore_jobs (s : State) (n : Nat) (c : CoreSt) : (s.setCore n c).jobs = s.jobs := rfl
@[simp] theorem State.setCore_claims (s : State) (n : Nat) (c : CoreSt) : (s.setCore n c).claims = s.claims := rfl
@[simp] theorem State.setCore_nextJob (s : State) (n : Nat) (c : CoreSt) : (s.setCore n c).nextJob = s.nextJob := rfl
@[simp] theorem State.setCore_decFrozen (s : State) (n : Nat) (c : CoreSt) : (s.setCore n c).decFrozen = s.decFrozen := rfl
@[simp] theorem State.setCore_rbgOk (s : State) (n : Nat) (c : CoreSt) : (s.setCore n c).rbgOk = s.rbgOk := rfl
@[simp] theorem State.setCore_routines (s : State) (n : Nat) (c : CoreSt) : (s.setCore n c).routines = s.routines := rfl
@[simp] theorem State.setCore_xfBytes (s : State) (n : Nat) (c : CoreSt) : (s.setCore n c).xfBytes = s.xfBytes := rfl
@[simp] theorem State.setCore_xfMem (s : State) (n : Nat) (c : CoreSt) : (s.setCore n c).xfMem = s.xfMem := rfl
@[simp] theorem State.setCore_linksDown (s : State) (n : Nat) (c : CoreSt) : (s.setCore n c).linksDown = s.linksDown := rfl
@[simp] theorem State.setCore_links (s : State) (n : Nat) (c : CoreSt) : (s.setCore n c).links = s.links := rfl
@[simp] theorem State.setCore_routes (s : State) (n : Nat) (c : CoreSt) : (s.setCore n c).routes = s.routes := rfl
@[simp] theorem State.setCore_drives (s : State) (n : Nat) (c : CoreSt) : (s.setCore n c).drives = s.drives := rfl
@[simp] theorem State.setCore_granted (s : State) (n : Nat) (c : CoreSt) : (s.setCore n c).granted = s.granted := rfl
@[simp] theorem State.setCore_boot (s : State) (n : Nat) (c : CoreSt) : (s.setCore n c).boot = s.boot := rfl
@[simp] theorem State.setCore_run (s : State) (n : Nat) (c : CoreSt) : (s.setCore n c).run = s.run := rfl
@[simp] theorem State.setCore_fuses (s : State) (n : Nat) (c : CoreSt) : (s.setCore n c).fuses = s.fuses := rfl
@[simp] theorem State.setCore_identity (s : State) (n : Nat) (c : CoreSt) : (s.setCore n c).identity = s.identity := rfl
@[simp] theorem State.setCore_xfImages (s : State) (n : Nat) (c : CoreSt) : (s.setCore n c).xfImages = s.xfImages := rfl

/-! `State.setKey` changes `keys` alone. -/
@[simp] theorem State.setKey_free (s : State) (n : Nat) (k : KeySlot) : (s.setKey n k).free = s.free := rfl
@[simp] theorem State.setKey_agenda (s : State) (n : Nat) (k : KeySlot) : (s.setKey n k).agenda = s.agenda := rfl
@[simp] theorem State.setKey_auto (s : State) (n : Nat) (k : KeySlot) : (s.setKey n k).auto = s.auto := rfl
@[simp] theorem State.setKey_ctx (s : State) (n : Nat) (k : KeySlot) : (s.setKey n k).ctx = s.ctx := rfl
@[simp] theorem State.setKey_now (s : State) (n : Nat) (k : KeySlot) : (s.setKey n k).now = s.now := rfl
@[simp] theorem State.setKey_core (s : State) (n : Nat) (k : KeySlot) : (s.setKey n k).core = s.core := rfl
@[simp] theorem State.setKey_cur (s : State) (n : Nat) (k : KeySlot) : (s.setKey n k).cur = s.cur := rfl
@[simp] theorem State.setKey_tasks (s : State) (n : Nat) (k : KeySlot) : (s.setKey n k).tasks = s.tasks := rfl
@[simp] theorem State.setKey_works (s : State) (n : Nat) (k : KeySlot) : (s.setKey n k).works = s.works := rfl
@[simp] theorem State.setKey_copies (s : State) (n : Nat) (k : KeySlot) : (s.setKey n k).copies = s.copies := rfl
@[simp] theorem State.setKey_nextTask (s : State) (n : Nat) (k : KeySlot) : (s.setKey n k).nextTask = s.nextTask := rfl
@[simp] theorem State.setKey_nextWork (s : State) (n : Nat) (k : KeySlot) : (s.setKey n k).nextWork = s.nextWork := rfl
@[simp] theorem State.setKey_nextCopy (s : State) (n : Nat) (k : KeySlot) : (s.setKey n k).nextCopy = s.nextCopy := rfl
@[simp] theorem State.setKey_serial (s : State) (n : Nat) (k : KeySlot) : (s.setKey n k).serial = s.serial := rfl
@[simp] theorem State.setKey_cores (s : State) (n : Nat) (k : KeySlot) : (s.setKey n k).cores = s.cores := rfl
@[simp] theorem State.setKey_dies (s : State) (n : Nat) (k : KeySlot) : (s.setKey n k).dies = s.dies := rfl
@[simp] theorem State.setKey_landing (s : State) (n : Nat) (k : KeySlot) : (s.setKey n k).landing = s.landing := rfl
@[simp] theorem State.setKey_queues (s : State) (n : Nat) (k : KeySlot) : (s.setKey n k).queues = s.queues := rfl
@[simp] theorem State.setKey_forks (s : State) (n : Nat) (k : KeySlot) : (s.setKey n k).forks = s.forks := rfl
@[simp] theorem State.setKey_pool (s : State) (n : Nat) (k : KeySlot) : (s.setKey n k).pool = s.pool := rfl
@[simp] theorem State.setKey_tensors (s : State) (n : Nat) (k : KeySlot) : (s.setKey n k).tensors = s.tensors := rfl
@[simp] theorem State.setKey_pages (s : State) (n : Nat) (k : KeySlot) : (s.setKey n k).pages = s.pages := rfl
@[simp] theorem State.setKey_mem (s : State) (n : Nat) (k : KeySlot) : (s.setKey n k).mem = s.mem := rfl
@[simp] theorem State.setKey_hostMem (s : State) (n : Nat) (k : KeySlot) : (s.setKey n k).hostMem = s.hostMem := rfl
@[simp] theorem State.setKey_nc (s : State) (n : Nat) (k : KeySlot) : (s.setKey n k).nc = s.nc := rfl
@[simp] theorem State.setKey_recipes (s : State) (n : Nat) (k : KeySlot) : (s.setKey n k).recipes = s.recipes := rfl
@[simp] theorem State.setKey_seqs (s : State) (n : Nat) (k : KeySlot) : (s.setKey n k).seqs = s.seqs := rfl
@[simp] theorem State.setKey_lastSeq (s : State) (n : Nat) (k : KeySlot) : (s.setKey n k).lastSeq = s.lastSeq := rfl
@[simp] theorem State.setKey_keys (s : State) (n : Nat) (k : KeySlot) : (s.setKey n k).keys = Store.set KeySlot.init s.keys n k := rfl
@[simp] theorem State.setKey_exports (s : State) (n : Nat) (k : KeySlot) : (s.setKey n k).exports = s.exports := rfl
@[simp] theorem State.setKey_imports (s : State) (n : Nat) (k : KeySlot) : (s.setKey n k).imports = s.imports := rfl
@[simp] theorem State.setKey_ingress (s : State) (n : Nat) (k : KeySlot) : (s.setKey n k).ingress = s.ingress := rfl
@[simp] theorem State.setKey_fns (s : State) (n : Nat) (k : KeySlot) : (s.setKey n k).fns = s.fns := rfl
@[simp] theorem State.setKey_ctxFn (s : State) (n : Nat) (k : KeySlot) : (s.setKey n k).ctxFn = s.ctxFn := rfl
@[simp] theorem State.setKey_ctxSys (s : State) (n : Nat) (k : KeySlot) : (s.setKey n k).ctxSys = s.ctxSys := rfl
@[simp] theorem State.setKey_tlto (s : State) (n : Nat) (k : KeySlot) : (s.setKey n k).tlto = s.tlto := rfl
@[simp] theorem State.setKey_bootstat (s : State) (n : Nat) (k : KeySlot) : (s.setKey n k).bootstat = s.bootstat := rfl
@[simp] theorem State.setKey_jobs (s : State) (n : Nat) (k : KeySlot) : (s.setKey n k).jobs = s.jobs := rfl
@[simp] theorem State.setKey_claims (s : State) (n : Nat) (k : KeySlot) : (s.setKey n k).claims = s.claims := rfl
@[simp] theorem State.setKey_nextJob (s : State) (n : Nat) (k : KeySlot) : (s.setKey n k).nextJob = s.nextJob := rfl
@[simp] theorem State.setKey_decFrozen (s : State) (n : Nat) (k : KeySlot) : (s.setKey n k).decFrozen = s.decFrozen := rfl
@[simp] theorem State.setKey_rbgOk (s : State) (n : Nat) (k : KeySlot) : (s.setKey n k).rbgOk = s.rbgOk := rfl
@[simp] theorem State.setKey_routines (s : State) (n : Nat) (k : KeySlot) : (s.setKey n k).routines = s.routines := rfl
@[simp] theorem State.setKey_xfBytes (s : State) (n : Nat) (k : KeySlot) : (s.setKey n k).xfBytes = s.xfBytes := rfl
@[simp] theorem State.setKey_xfMem (s : State) (n : Nat) (k : KeySlot) : (s.setKey n k).xfMem = s.xfMem := rfl
@[simp] theorem State.setKey_linksDown (s : State) (n : Nat) (k : KeySlot) : (s.setKey n k).linksDown = s.linksDown := rfl
@[simp] theorem State.setKey_links (s : State) (n : Nat) (k : KeySlot) : (s.setKey n k).links = s.links := rfl
@[simp] theorem State.setKey_routes (s : State) (n : Nat) (k : KeySlot) : (s.setKey n k).routes = s.routes := rfl
@[simp] theorem State.setKey_drives (s : State) (n : Nat) (k : KeySlot) : (s.setKey n k).drives = s.drives := rfl
@[simp] theorem State.setKey_granted (s : State) (n : Nat) (k : KeySlot) : (s.setKey n k).granted = s.granted := rfl
@[simp] theorem State.setKey_boot (s : State) (n : Nat) (k : KeySlot) : (s.setKey n k).boot = s.boot := rfl
@[simp] theorem State.setKey_run (s : State) (n : Nat) (k : KeySlot) : (s.setKey n k).run = s.run := rfl
@[simp] theorem State.setKey_fuses (s : State) (n : Nat) (k : KeySlot) : (s.setKey n k).fuses = s.fuses := rfl
@[simp] theorem State.setKey_identity (s : State) (n : Nat) (k : KeySlot) : (s.setKey n k).identity = s.identity := rfl
@[simp] theorem State.setKey_xfImages (s : State) (n : Nat) (k : KeySlot) : (s.setKey n k).xfImages = s.xfImages := rfl

/-! `State.setQueue` changes `queues` alone. -/
@[simp] theorem State.setQueue_free (s : State) (n : Nat) (q : OpQueue) : (s.setQueue n q).free = s.free := rfl
@[simp] theorem State.setQueue_agenda (s : State) (n : Nat) (q : OpQueue) : (s.setQueue n q).agenda = s.agenda := rfl
@[simp] theorem State.setQueue_auto (s : State) (n : Nat) (q : OpQueue) : (s.setQueue n q).auto = s.auto := rfl
@[simp] theorem State.setQueue_ctx (s : State) (n : Nat) (q : OpQueue) : (s.setQueue n q).ctx = s.ctx := rfl
@[simp] theorem State.setQueue_now (s : State) (n : Nat) (q : OpQueue) : (s.setQueue n q).now = s.now := rfl
@[simp] theorem State.setQueue_core (s : State) (n : Nat) (q : OpQueue) : (s.setQueue n q).core = s.core := rfl
@[simp] theorem State.setQueue_cur (s : State) (n : Nat) (q : OpQueue) : (s.setQueue n q).cur = s.cur := rfl
@[simp] theorem State.setQueue_tasks (s : State) (n : Nat) (q : OpQueue) : (s.setQueue n q).tasks = s.tasks := rfl
@[simp] theorem State.setQueue_works (s : State) (n : Nat) (q : OpQueue) : (s.setQueue n q).works = s.works := rfl
@[simp] theorem State.setQueue_copies (s : State) (n : Nat) (q : OpQueue) : (s.setQueue n q).copies = s.copies := rfl
@[simp] theorem State.setQueue_nextTask (s : State) (n : Nat) (q : OpQueue) : (s.setQueue n q).nextTask = s.nextTask := rfl
@[simp] theorem State.setQueue_nextWork (s : State) (n : Nat) (q : OpQueue) : (s.setQueue n q).nextWork = s.nextWork := rfl
@[simp] theorem State.setQueue_nextCopy (s : State) (n : Nat) (q : OpQueue) : (s.setQueue n q).nextCopy = s.nextCopy := rfl
@[simp] theorem State.setQueue_serial (s : State) (n : Nat) (q : OpQueue) : (s.setQueue n q).serial = s.serial := rfl
@[simp] theorem State.setQueue_cores (s : State) (n : Nat) (q : OpQueue) : (s.setQueue n q).cores = s.cores := rfl
@[simp] theorem State.setQueue_dies (s : State) (n : Nat) (q : OpQueue) : (s.setQueue n q).dies = s.dies := rfl
@[simp] theorem State.setQueue_landing (s : State) (n : Nat) (q : OpQueue) : (s.setQueue n q).landing = s.landing := rfl
@[simp] theorem State.setQueue_queues (s : State) (n : Nat) (q : OpQueue) : (s.setQueue n q).queues = Store.set OpQueue.init s.queues n q := rfl
@[simp] theorem State.setQueue_forks (s : State) (n : Nat) (q : OpQueue) : (s.setQueue n q).forks = s.forks := rfl
@[simp] theorem State.setQueue_pool (s : State) (n : Nat) (q : OpQueue) : (s.setQueue n q).pool = s.pool := rfl
@[simp] theorem State.setQueue_tensors (s : State) (n : Nat) (q : OpQueue) : (s.setQueue n q).tensors = s.tensors := rfl
@[simp] theorem State.setQueue_pages (s : State) (n : Nat) (q : OpQueue) : (s.setQueue n q).pages = s.pages := rfl
@[simp] theorem State.setQueue_mem (s : State) (n : Nat) (q : OpQueue) : (s.setQueue n q).mem = s.mem := rfl
@[simp] theorem State.setQueue_hostMem (s : State) (n : Nat) (q : OpQueue) : (s.setQueue n q).hostMem = s.hostMem := rfl
@[simp] theorem State.setQueue_nc (s : State) (n : Nat) (q : OpQueue) : (s.setQueue n q).nc = s.nc := rfl
@[simp] theorem State.setQueue_recipes (s : State) (n : Nat) (q : OpQueue) : (s.setQueue n q).recipes = s.recipes := rfl
@[simp] theorem State.setQueue_seqs (s : State) (n : Nat) (q : OpQueue) : (s.setQueue n q).seqs = s.seqs := rfl
@[simp] theorem State.setQueue_lastSeq (s : State) (n : Nat) (q : OpQueue) : (s.setQueue n q).lastSeq = s.lastSeq := rfl
@[simp] theorem State.setQueue_keys (s : State) (n : Nat) (q : OpQueue) : (s.setQueue n q).keys = s.keys := rfl
@[simp] theorem State.setQueue_exports (s : State) (n : Nat) (q : OpQueue) : (s.setQueue n q).exports = s.exports := rfl
@[simp] theorem State.setQueue_imports (s : State) (n : Nat) (q : OpQueue) : (s.setQueue n q).imports = s.imports := rfl
@[simp] theorem State.setQueue_ingress (s : State) (n : Nat) (q : OpQueue) : (s.setQueue n q).ingress = s.ingress := rfl
@[simp] theorem State.setQueue_fns (s : State) (n : Nat) (q : OpQueue) : (s.setQueue n q).fns = s.fns := rfl
@[simp] theorem State.setQueue_ctxFn (s : State) (n : Nat) (q : OpQueue) : (s.setQueue n q).ctxFn = s.ctxFn := rfl
@[simp] theorem State.setQueue_ctxSys (s : State) (n : Nat) (q : OpQueue) : (s.setQueue n q).ctxSys = s.ctxSys := rfl
@[simp] theorem State.setQueue_tlto (s : State) (n : Nat) (q : OpQueue) : (s.setQueue n q).tlto = s.tlto := rfl
@[simp] theorem State.setQueue_bootstat (s : State) (n : Nat) (q : OpQueue) : (s.setQueue n q).bootstat = s.bootstat := rfl
@[simp] theorem State.setQueue_jobs (s : State) (n : Nat) (q : OpQueue) : (s.setQueue n q).jobs = s.jobs := rfl
@[simp] theorem State.setQueue_claims (s : State) (n : Nat) (q : OpQueue) : (s.setQueue n q).claims = s.claims := rfl
@[simp] theorem State.setQueue_nextJob (s : State) (n : Nat) (q : OpQueue) : (s.setQueue n q).nextJob = s.nextJob := rfl
@[simp] theorem State.setQueue_decFrozen (s : State) (n : Nat) (q : OpQueue) : (s.setQueue n q).decFrozen = s.decFrozen := rfl
@[simp] theorem State.setQueue_rbgOk (s : State) (n : Nat) (q : OpQueue) : (s.setQueue n q).rbgOk = s.rbgOk := rfl
@[simp] theorem State.setQueue_routines (s : State) (n : Nat) (q : OpQueue) : (s.setQueue n q).routines = s.routines := rfl
@[simp] theorem State.setQueue_xfBytes (s : State) (n : Nat) (q : OpQueue) : (s.setQueue n q).xfBytes = s.xfBytes := rfl
@[simp] theorem State.setQueue_xfMem (s : State) (n : Nat) (q : OpQueue) : (s.setQueue n q).xfMem = s.xfMem := rfl
@[simp] theorem State.setQueue_linksDown (s : State) (n : Nat) (q : OpQueue) : (s.setQueue n q).linksDown = s.linksDown := rfl
@[simp] theorem State.setQueue_links (s : State) (n : Nat) (q : OpQueue) : (s.setQueue n q).links = s.links := rfl
@[simp] theorem State.setQueue_routes (s : State) (n : Nat) (q : OpQueue) : (s.setQueue n q).routes = s.routes := rfl
@[simp] theorem State.setQueue_drives (s : State) (n : Nat) (q : OpQueue) : (s.setQueue n q).drives = s.drives := rfl
@[simp] theorem State.setQueue_granted (s : State) (n : Nat) (q : OpQueue) : (s.setQueue n q).granted = s.granted := rfl
@[simp] theorem State.setQueue_boot (s : State) (n : Nat) (q : OpQueue) : (s.setQueue n q).boot = s.boot := rfl
@[simp] theorem State.setQueue_run (s : State) (n : Nat) (q : OpQueue) : (s.setQueue n q).run = s.run := rfl
@[simp] theorem State.setQueue_fuses (s : State) (n : Nat) (q : OpQueue) : (s.setQueue n q).fuses = s.fuses := rfl
@[simp] theorem State.setQueue_identity (s : State) (n : Nat) (q : OpQueue) : (s.setQueue n q).identity = s.identity := rfl
@[simp] theorem State.setQueue_xfImages (s : State) (n : Nat) (q : OpQueue) : (s.setQueue n q).xfImages = s.xfImages := rfl

/-! `State.setPool` changes `pool` alone. -/
@[simp] theorem State.setPool_free (s : State) (n : Nat) (p : PoolEnt) : (s.setPool n p).free = s.free := rfl
@[simp] theorem State.setPool_agenda (s : State) (n : Nat) (p : PoolEnt) : (s.setPool n p).agenda = s.agenda := rfl
@[simp] theorem State.setPool_auto (s : State) (n : Nat) (p : PoolEnt) : (s.setPool n p).auto = s.auto := rfl
@[simp] theorem State.setPool_ctx (s : State) (n : Nat) (p : PoolEnt) : (s.setPool n p).ctx = s.ctx := rfl
@[simp] theorem State.setPool_now (s : State) (n : Nat) (p : PoolEnt) : (s.setPool n p).now = s.now := rfl
@[simp] theorem State.setPool_core (s : State) (n : Nat) (p : PoolEnt) : (s.setPool n p).core = s.core := rfl
@[simp] theorem State.setPool_cur (s : State) (n : Nat) (p : PoolEnt) : (s.setPool n p).cur = s.cur := rfl
@[simp] theorem State.setPool_tasks (s : State) (n : Nat) (p : PoolEnt) : (s.setPool n p).tasks = s.tasks := rfl
@[simp] theorem State.setPool_works (s : State) (n : Nat) (p : PoolEnt) : (s.setPool n p).works = s.works := rfl
@[simp] theorem State.setPool_copies (s : State) (n : Nat) (p : PoolEnt) : (s.setPool n p).copies = s.copies := rfl
@[simp] theorem State.setPool_nextTask (s : State) (n : Nat) (p : PoolEnt) : (s.setPool n p).nextTask = s.nextTask := rfl
@[simp] theorem State.setPool_nextWork (s : State) (n : Nat) (p : PoolEnt) : (s.setPool n p).nextWork = s.nextWork := rfl
@[simp] theorem State.setPool_nextCopy (s : State) (n : Nat) (p : PoolEnt) : (s.setPool n p).nextCopy = s.nextCopy := rfl
@[simp] theorem State.setPool_serial (s : State) (n : Nat) (p : PoolEnt) : (s.setPool n p).serial = s.serial := rfl
@[simp] theorem State.setPool_cores (s : State) (n : Nat) (p : PoolEnt) : (s.setPool n p).cores = s.cores := rfl
@[simp] theorem State.setPool_dies (s : State) (n : Nat) (p : PoolEnt) : (s.setPool n p).dies = s.dies := rfl
@[simp] theorem State.setPool_landing (s : State) (n : Nat) (p : PoolEnt) : (s.setPool n p).landing = s.landing := rfl
@[simp] theorem State.setPool_queues (s : State) (n : Nat) (p : PoolEnt) : (s.setPool n p).queues = s.queues := rfl
@[simp] theorem State.setPool_forks (s : State) (n : Nat) (p : PoolEnt) : (s.setPool n p).forks = s.forks := rfl
@[simp] theorem State.setPool_pool (s : State) (n : Nat) (p : PoolEnt) : (s.setPool n p).pool = Store.set PoolEnt.init s.pool n p := rfl
@[simp] theorem State.setPool_tensors (s : State) (n : Nat) (p : PoolEnt) : (s.setPool n p).tensors = s.tensors := rfl
@[simp] theorem State.setPool_pages (s : State) (n : Nat) (p : PoolEnt) : (s.setPool n p).pages = s.pages := rfl
@[simp] theorem State.setPool_mem (s : State) (n : Nat) (p : PoolEnt) : (s.setPool n p).mem = s.mem := rfl
@[simp] theorem State.setPool_hostMem (s : State) (n : Nat) (p : PoolEnt) : (s.setPool n p).hostMem = s.hostMem := rfl
@[simp] theorem State.setPool_nc (s : State) (n : Nat) (p : PoolEnt) : (s.setPool n p).nc = s.nc := rfl
@[simp] theorem State.setPool_recipes (s : State) (n : Nat) (p : PoolEnt) : (s.setPool n p).recipes = s.recipes := rfl
@[simp] theorem State.setPool_seqs (s : State) (n : Nat) (p : PoolEnt) : (s.setPool n p).seqs = s.seqs := rfl
@[simp] theorem State.setPool_lastSeq (s : State) (n : Nat) (p : PoolEnt) : (s.setPool n p).lastSeq = s.lastSeq := rfl
@[simp] theorem State.setPool_keys (s : State) (n : Nat) (p : PoolEnt) : (s.setPool n p).keys = s.keys := rfl
@[simp] theorem State.setPool_exports (s : State) (n : Nat) (p : PoolEnt) : (s.setPool n p).exports = s.exports := rfl
@[simp] theorem State.setPool_imports (s : State) (n : Nat) (p : PoolEnt) : (s.setPool n p).imports = s.imports := rfl
@[simp] theorem State.setPool_ingress (s : State) (n : Nat) (p : PoolEnt) : (s.setPool n p).ingress = s.ingress := rfl
@[simp] theorem State.setPool_fns (s : State) (n : Nat) (p : PoolEnt) : (s.setPool n p).fns = s.fns := rfl
@[simp] theorem State.setPool_ctxFn (s : State) (n : Nat) (p : PoolEnt) : (s.setPool n p).ctxFn = s.ctxFn := rfl
@[simp] theorem State.setPool_ctxSys (s : State) (n : Nat) (p : PoolEnt) : (s.setPool n p).ctxSys = s.ctxSys := rfl
@[simp] theorem State.setPool_tlto (s : State) (n : Nat) (p : PoolEnt) : (s.setPool n p).tlto = s.tlto := rfl
@[simp] theorem State.setPool_bootstat (s : State) (n : Nat) (p : PoolEnt) : (s.setPool n p).bootstat = s.bootstat := rfl
@[simp] theorem State.setPool_jobs (s : State) (n : Nat) (p : PoolEnt) : (s.setPool n p).jobs = s.jobs := rfl
@[simp] theorem State.setPool_claims (s : State) (n : Nat) (p : PoolEnt) : (s.setPool n p).claims = s.claims := rfl
@[simp] theorem State.setPool_nextJob (s : State) (n : Nat) (p : PoolEnt) : (s.setPool n p).nextJob = s.nextJob := rfl
@[simp] theorem State.setPool_decFrozen (s : State) (n : Nat) (p : PoolEnt) : (s.setPool n p).decFrozen = s.decFrozen := rfl
@[simp] theorem State.setPool_rbgOk (s : State) (n : Nat) (p : PoolEnt) : (s.setPool n p).rbgOk = s.rbgOk := rfl
@[simp] theorem State.setPool_routines (s : State) (n : Nat) (p : PoolEnt) : (s.setPool n p).routines = s.routines := rfl
@[simp] theorem State.setPool_xfBytes (s : State) (n : Nat) (p : PoolEnt) : (s.setPool n p).xfBytes = s.xfBytes := rfl
@[simp] theorem State.setPool_xfMem (s : State) (n : Nat) (p : PoolEnt) : (s.setPool n p).xfMem = s.xfMem := rfl
@[simp] theorem State.setPool_linksDown (s : State) (n : Nat) (p : PoolEnt) : (s.setPool n p).linksDown = s.linksDown := rfl
@[simp] theorem State.setPool_links (s : State) (n : Nat) (p : PoolEnt) : (s.setPool n p).links = s.links := rfl
@[simp] theorem State.setPool_routes (s : State) (n : Nat) (p : PoolEnt) : (s.setPool n p).routes = s.routes := rfl
@[simp] theorem State.setPool_drives (s : State) (n : Nat) (p : PoolEnt) : (s.setPool n p).drives = s.drives := rfl
@[simp] theorem State.setPool_granted (s : State) (n : Nat) (p : PoolEnt) : (s.setPool n p).granted = s.granted := rfl
@[simp] theorem State.setPool_boot (s : State) (n : Nat) (p : PoolEnt) : (s.setPool n p).boot = s.boot := rfl
@[simp] theorem State.setPool_run (s : State) (n : Nat) (p : PoolEnt) : (s.setPool n p).run = s.run := rfl
@[simp] theorem State.setPool_fuses (s : State) (n : Nat) (p : PoolEnt) : (s.setPool n p).fuses = s.fuses := rfl
@[simp] theorem State.setPool_identity (s : State) (n : Nat) (p : PoolEnt) : (s.setPool n p).identity = s.identity := rfl
@[simp] theorem State.setPool_xfImages (s : State) (n : Nat) (p : PoolEnt) : (s.setPool n p).xfImages = s.xfImages := rfl

/-! `State.setFn` changes `fns` alone. -/
@[simp] theorem State.setFn_free (s : State) (n : Nat) (f : Fn) : (s.setFn n f).free = s.free := rfl
@[simp] theorem State.setFn_agenda (s : State) (n : Nat) (f : Fn) : (s.setFn n f).agenda = s.agenda := rfl
@[simp] theorem State.setFn_auto (s : State) (n : Nat) (f : Fn) : (s.setFn n f).auto = s.auto := rfl
@[simp] theorem State.setFn_ctx (s : State) (n : Nat) (f : Fn) : (s.setFn n f).ctx = s.ctx := rfl
@[simp] theorem State.setFn_now (s : State) (n : Nat) (f : Fn) : (s.setFn n f).now = s.now := rfl
@[simp] theorem State.setFn_core (s : State) (n : Nat) (f : Fn) : (s.setFn n f).core = s.core := rfl
@[simp] theorem State.setFn_cur (s : State) (n : Nat) (f : Fn) : (s.setFn n f).cur = s.cur := rfl
@[simp] theorem State.setFn_tasks (s : State) (n : Nat) (f : Fn) : (s.setFn n f).tasks = s.tasks := rfl
@[simp] theorem State.setFn_works (s : State) (n : Nat) (f : Fn) : (s.setFn n f).works = s.works := rfl
@[simp] theorem State.setFn_copies (s : State) (n : Nat) (f : Fn) : (s.setFn n f).copies = s.copies := rfl
@[simp] theorem State.setFn_nextTask (s : State) (n : Nat) (f : Fn) : (s.setFn n f).nextTask = s.nextTask := rfl
@[simp] theorem State.setFn_nextWork (s : State) (n : Nat) (f : Fn) : (s.setFn n f).nextWork = s.nextWork := rfl
@[simp] theorem State.setFn_nextCopy (s : State) (n : Nat) (f : Fn) : (s.setFn n f).nextCopy = s.nextCopy := rfl
@[simp] theorem State.setFn_serial (s : State) (n : Nat) (f : Fn) : (s.setFn n f).serial = s.serial := rfl
@[simp] theorem State.setFn_cores (s : State) (n : Nat) (f : Fn) : (s.setFn n f).cores = s.cores := rfl
@[simp] theorem State.setFn_dies (s : State) (n : Nat) (f : Fn) : (s.setFn n f).dies = s.dies := rfl
@[simp] theorem State.setFn_landing (s : State) (n : Nat) (f : Fn) : (s.setFn n f).landing = s.landing := rfl
@[simp] theorem State.setFn_queues (s : State) (n : Nat) (f : Fn) : (s.setFn n f).queues = s.queues := rfl
@[simp] theorem State.setFn_forks (s : State) (n : Nat) (f : Fn) : (s.setFn n f).forks = s.forks := rfl
@[simp] theorem State.setFn_pool (s : State) (n : Nat) (f : Fn) : (s.setFn n f).pool = s.pool := rfl
@[simp] theorem State.setFn_tensors (s : State) (n : Nat) (f : Fn) : (s.setFn n f).tensors = s.tensors := rfl
@[simp] theorem State.setFn_pages (s : State) (n : Nat) (f : Fn) : (s.setFn n f).pages = s.pages := rfl
@[simp] theorem State.setFn_mem (s : State) (n : Nat) (f : Fn) : (s.setFn n f).mem = s.mem := rfl
@[simp] theorem State.setFn_hostMem (s : State) (n : Nat) (f : Fn) : (s.setFn n f).hostMem = s.hostMem := rfl
@[simp] theorem State.setFn_nc (s : State) (n : Nat) (f : Fn) : (s.setFn n f).nc = s.nc := rfl
@[simp] theorem State.setFn_recipes (s : State) (n : Nat) (f : Fn) : (s.setFn n f).recipes = s.recipes := rfl
@[simp] theorem State.setFn_seqs (s : State) (n : Nat) (f : Fn) : (s.setFn n f).seqs = s.seqs := rfl
@[simp] theorem State.setFn_lastSeq (s : State) (n : Nat) (f : Fn) : (s.setFn n f).lastSeq = s.lastSeq := rfl
@[simp] theorem State.setFn_keys (s : State) (n : Nat) (f : Fn) : (s.setFn n f).keys = s.keys := rfl
@[simp] theorem State.setFn_exports (s : State) (n : Nat) (f : Fn) : (s.setFn n f).exports = s.exports := rfl
@[simp] theorem State.setFn_imports (s : State) (n : Nat) (f : Fn) : (s.setFn n f).imports = s.imports := rfl
@[simp] theorem State.setFn_ingress (s : State) (n : Nat) (f : Fn) : (s.setFn n f).ingress = s.ingress := rfl
@[simp] theorem State.setFn_fns (s : State) (n : Nat) (f : Fn) : (s.setFn n f).fns = Store.set Fn.init s.fns n f := rfl
@[simp] theorem State.setFn_ctxFn (s : State) (n : Nat) (f : Fn) : (s.setFn n f).ctxFn = s.ctxFn := rfl
@[simp] theorem State.setFn_ctxSys (s : State) (n : Nat) (f : Fn) : (s.setFn n f).ctxSys = s.ctxSys := rfl
@[simp] theorem State.setFn_tlto (s : State) (n : Nat) (f : Fn) : (s.setFn n f).tlto = s.tlto := rfl
@[simp] theorem State.setFn_bootstat (s : State) (n : Nat) (f : Fn) : (s.setFn n f).bootstat = s.bootstat := rfl
@[simp] theorem State.setFn_jobs (s : State) (n : Nat) (f : Fn) : (s.setFn n f).jobs = s.jobs := rfl
@[simp] theorem State.setFn_claims (s : State) (n : Nat) (f : Fn) : (s.setFn n f).claims = s.claims := rfl
@[simp] theorem State.setFn_nextJob (s : State) (n : Nat) (f : Fn) : (s.setFn n f).nextJob = s.nextJob := rfl
@[simp] theorem State.setFn_decFrozen (s : State) (n : Nat) (f : Fn) : (s.setFn n f).decFrozen = s.decFrozen := rfl
@[simp] theorem State.setFn_rbgOk (s : State) (n : Nat) (f : Fn) : (s.setFn n f).rbgOk = s.rbgOk := rfl
@[simp] theorem State.setFn_routines (s : State) (n : Nat) (f : Fn) : (s.setFn n f).routines = s.routines := rfl
@[simp] theorem State.setFn_xfBytes (s : State) (n : Nat) (f : Fn) : (s.setFn n f).xfBytes = s.xfBytes := rfl
@[simp] theorem State.setFn_xfMem (s : State) (n : Nat) (f : Fn) : (s.setFn n f).xfMem = s.xfMem := rfl
@[simp] theorem State.setFn_linksDown (s : State) (n : Nat) (f : Fn) : (s.setFn n f).linksDown = s.linksDown := rfl
@[simp] theorem State.setFn_links (s : State) (n : Nat) (f : Fn) : (s.setFn n f).links = s.links := rfl
@[simp] theorem State.setFn_routes (s : State) (n : Nat) (f : Fn) : (s.setFn n f).routes = s.routes := rfl
@[simp] theorem State.setFn_drives (s : State) (n : Nat) (f : Fn) : (s.setFn n f).drives = s.drives := rfl
@[simp] theorem State.setFn_granted (s : State) (n : Nat) (f : Fn) : (s.setFn n f).granted = s.granted := rfl
@[simp] theorem State.setFn_boot (s : State) (n : Nat) (f : Fn) : (s.setFn n f).boot = s.boot := rfl
@[simp] theorem State.setFn_run (s : State) (n : Nat) (f : Fn) : (s.setFn n f).run = s.run := rfl
@[simp] theorem State.setFn_fuses (s : State) (n : Nat) (f : Fn) : (s.setFn n f).fuses = s.fuses := rfl
@[simp] theorem State.setFn_identity (s : State) (n : Nat) (f : Fn) : (s.setFn n f).identity = s.identity := rfl
@[simp] theorem State.setFn_xfImages (s : State) (n : Nat) (f : Fn) : (s.setFn n f).xfImages = s.xfImages := rfl

/-! `State.setTensor` changes `tensors` alone. -/
@[simp] theorem State.setTensor_free (s : State) (t : Tensor) : (s.setTensor t).free = s.free := rfl
@[simp] theorem State.setTensor_agenda (s : State) (t : Tensor) : (s.setTensor t).agenda = s.agenda := rfl
@[simp] theorem State.setTensor_auto (s : State) (t : Tensor) : (s.setTensor t).auto = s.auto := rfl
@[simp] theorem State.setTensor_ctx (s : State) (t : Tensor) : (s.setTensor t).ctx = s.ctx := rfl
@[simp] theorem State.setTensor_now (s : State) (t : Tensor) : (s.setTensor t).now = s.now := rfl
@[simp] theorem State.setTensor_core (s : State) (t : Tensor) : (s.setTensor t).core = s.core := rfl
@[simp] theorem State.setTensor_cur (s : State) (t : Tensor) : (s.setTensor t).cur = s.cur := rfl
@[simp] theorem State.setTensor_tasks (s : State) (t : Tensor) : (s.setTensor t).tasks = s.tasks := rfl
@[simp] theorem State.setTensor_works (s : State) (t : Tensor) : (s.setTensor t).works = s.works := rfl
@[simp] theorem State.setTensor_copies (s : State) (t : Tensor) : (s.setTensor t).copies = s.copies := rfl
@[simp] theorem State.setTensor_nextTask (s : State) (t : Tensor) : (s.setTensor t).nextTask = s.nextTask := rfl
@[simp] theorem State.setTensor_nextWork (s : State) (t : Tensor) : (s.setTensor t).nextWork = s.nextWork := rfl
@[simp] theorem State.setTensor_nextCopy (s : State) (t : Tensor) : (s.setTensor t).nextCopy = s.nextCopy := rfl
@[simp] theorem State.setTensor_serial (s : State) (t : Tensor) : (s.setTensor t).serial = s.serial := rfl
@[simp] theorem State.setTensor_cores (s : State) (t : Tensor) : (s.setTensor t).cores = s.cores := rfl
@[simp] theorem State.setTensor_dies (s : State) (t : Tensor) : (s.setTensor t).dies = s.dies := rfl
@[simp] theorem State.setTensor_landing (s : State) (t : Tensor) : (s.setTensor t).landing = s.landing := rfl
@[simp] theorem State.setTensor_queues (s : State) (t : Tensor) : (s.setTensor t).queues = s.queues := rfl
@[simp] theorem State.setTensor_forks (s : State) (t : Tensor) : (s.setTensor t).forks = s.forks := rfl
@[simp] theorem State.setTensor_pool (s : State) (t : Tensor) : (s.setTensor t).pool = s.pool := rfl
@[simp] theorem State.setTensor_tensors (s : State) (t : Tensor) : (s.setTensor t).tensors = Store.put t.id t s.tensors := rfl
@[simp] theorem State.setTensor_pages (s : State) (t : Tensor) : (s.setTensor t).pages = s.pages := rfl
@[simp] theorem State.setTensor_mem (s : State) (t : Tensor) : (s.setTensor t).mem = s.mem := rfl
@[simp] theorem State.setTensor_hostMem (s : State) (t : Tensor) : (s.setTensor t).hostMem = s.hostMem := rfl
@[simp] theorem State.setTensor_nc (s : State) (t : Tensor) : (s.setTensor t).nc = s.nc := rfl
@[simp] theorem State.setTensor_recipes (s : State) (t : Tensor) : (s.setTensor t).recipes = s.recipes := rfl
@[simp] theorem State.setTensor_seqs (s : State) (t : Tensor) : (s.setTensor t).seqs = s.seqs := rfl
@[simp] theorem State.setTensor_lastSeq (s : State) (t : Tensor) : (s.setTensor t).lastSeq = s.lastSeq := rfl
@[simp] theorem State.setTensor_keys (s : State) (t : Tensor) : (s.setTensor t).keys = s.keys := rfl
@[simp] theorem State.setTensor_exports (s : State) (t : Tensor) : (s.setTensor t).exports = s.exports := rfl
@[simp] theorem State.setTensor_imports (s : State) (t : Tensor) : (s.setTensor t).imports = s.imports := rfl
@[simp] theorem State.setTensor_ingress (s : State) (t : Tensor) : (s.setTensor t).ingress = s.ingress := rfl
@[simp] theorem State.setTensor_fns (s : State) (t : Tensor) : (s.setTensor t).fns = s.fns := rfl
@[simp] theorem State.setTensor_ctxFn (s : State) (t : Tensor) : (s.setTensor t).ctxFn = s.ctxFn := rfl
@[simp] theorem State.setTensor_ctxSys (s : State) (t : Tensor) : (s.setTensor t).ctxSys = s.ctxSys := rfl
@[simp] theorem State.setTensor_tlto (s : State) (t : Tensor) : (s.setTensor t).tlto = s.tlto := rfl
@[simp] theorem State.setTensor_bootstat (s : State) (t : Tensor) : (s.setTensor t).bootstat = s.bootstat := rfl
@[simp] theorem State.setTensor_jobs (s : State) (t : Tensor) : (s.setTensor t).jobs = s.jobs := rfl
@[simp] theorem State.setTensor_claims (s : State) (t : Tensor) : (s.setTensor t).claims = s.claims := rfl
@[simp] theorem State.setTensor_nextJob (s : State) (t : Tensor) : (s.setTensor t).nextJob = s.nextJob := rfl
@[simp] theorem State.setTensor_decFrozen (s : State) (t : Tensor) : (s.setTensor t).decFrozen = s.decFrozen := rfl
@[simp] theorem State.setTensor_rbgOk (s : State) (t : Tensor) : (s.setTensor t).rbgOk = s.rbgOk := rfl
@[simp] theorem State.setTensor_routines (s : State) (t : Tensor) : (s.setTensor t).routines = s.routines := rfl
@[simp] theorem State.setTensor_xfBytes (s : State) (t : Tensor) : (s.setTensor t).xfBytes = s.xfBytes := rfl
@[simp] theorem State.setTensor_xfMem (s : State) (t : Tensor) : (s.setTensor t).xfMem = s.xfMem := rfl
@[simp] theorem State.setTensor_linksDown (s : State) (t : Tensor) : (s.setTensor t).linksDown = s.linksDown := rfl
@[simp] theorem State.setTensor_links (s : State) (t : Tensor) : (s.setTensor t).links = s.links := rfl
@[simp] theorem State.setTensor_routes (s : State) (t : Tensor) : (s.setTensor t).routes = s.routes := rfl
@[simp] theorem State.setTensor_drives (s : State) (t : Tensor) : (s.setTensor t).drives = s.drives := rfl
@[simp] theorem State.setTensor_granted (s : State) (t : Tensor) : (s.setTensor t).granted = s.granted := rfl
@[simp] theorem State.setTensor_boot (s : State) (t : Tensor) : (s.setTensor t).boot = s.boot := rfl
@[simp] theorem State.setTensor_run (s : State) (t : Tensor) : (s.setTensor t).run = s.run := rfl
@[simp] theorem State.setTensor_fuses (s : State) (t : Tensor) : (s.setTensor t).fuses = s.fuses := rfl
@[simp] theorem State.setTensor_identity (s : State) (t : Tensor) : (s.setTensor t).identity = s.identity := rfl
@[simp] theorem State.setTensor_xfImages (s : State) (t : Tensor) : (s.setTensor t).xfImages = s.xfImages := rfl

/-! `State.setPage` changes `pages` alone. -/
@[simp] theorem State.setPage_free (s : State) (e : Nat) (p : PageEnt) : (s.setPage e p).free = s.free := rfl
@[simp] theorem State.setPage_agenda (s : State) (e : Nat) (p : PageEnt) : (s.setPage e p).agenda = s.agenda := rfl
@[simp] theorem State.setPage_auto (s : State) (e : Nat) (p : PageEnt) : (s.setPage e p).auto = s.auto := rfl
@[simp] theorem State.setPage_ctx (s : State) (e : Nat) (p : PageEnt) : (s.setPage e p).ctx = s.ctx := rfl
@[simp] theorem State.setPage_now (s : State) (e : Nat) (p : PageEnt) : (s.setPage e p).now = s.now := rfl
@[simp] theorem State.setPage_core (s : State) (e : Nat) (p : PageEnt) : (s.setPage e p).core = s.core := rfl
@[simp] theorem State.setPage_cur (s : State) (e : Nat) (p : PageEnt) : (s.setPage e p).cur = s.cur := rfl
@[simp] theorem State.setPage_tasks (s : State) (e : Nat) (p : PageEnt) : (s.setPage e p).tasks = s.tasks := rfl
@[simp] theorem State.setPage_works (s : State) (e : Nat) (p : PageEnt) : (s.setPage e p).works = s.works := rfl
@[simp] theorem State.setPage_copies (s : State) (e : Nat) (p : PageEnt) : (s.setPage e p).copies = s.copies := rfl
@[simp] theorem State.setPage_nextTask (s : State) (e : Nat) (p : PageEnt) : (s.setPage e p).nextTask = s.nextTask := rfl
@[simp] theorem State.setPage_nextWork (s : State) (e : Nat) (p : PageEnt) : (s.setPage e p).nextWork = s.nextWork := rfl
@[simp] theorem State.setPage_nextCopy (s : State) (e : Nat) (p : PageEnt) : (s.setPage e p).nextCopy = s.nextCopy := rfl
@[simp] theorem State.setPage_serial (s : State) (e : Nat) (p : PageEnt) : (s.setPage e p).serial = s.serial := rfl
@[simp] theorem State.setPage_cores (s : State) (e : Nat) (p : PageEnt) : (s.setPage e p).cores = s.cores := rfl
@[simp] theorem State.setPage_dies (s : State) (e : Nat) (p : PageEnt) : (s.setPage e p).dies = s.dies := rfl
@[simp] theorem State.setPage_landing (s : State) (e : Nat) (p : PageEnt) : (s.setPage e p).landing = s.landing := rfl
@[simp] theorem State.setPage_queues (s : State) (e : Nat) (p : PageEnt) : (s.setPage e p).queues = s.queues := rfl
@[simp] theorem State.setPage_forks (s : State) (e : Nat) (p : PageEnt) : (s.setPage e p).forks = s.forks := rfl
@[simp] theorem State.setPage_pool (s : State) (e : Nat) (p : PageEnt) : (s.setPage e p).pool = s.pool := rfl
@[simp] theorem State.setPage_tensors (s : State) (e : Nat) (p : PageEnt) : (s.setPage e p).tensors = s.tensors := rfl
@[simp] theorem State.setPage_pages (s : State) (e : Nat) (p : PageEnt) : (s.setPage e p).pages = Store.put e p s.pages := rfl
@[simp] theorem State.setPage_mem (s : State) (e : Nat) (p : PageEnt) : (s.setPage e p).mem = s.mem := rfl
@[simp] theorem State.setPage_hostMem (s : State) (e : Nat) (p : PageEnt) : (s.setPage e p).hostMem = s.hostMem := rfl
@[simp] theorem State.setPage_nc (s : State) (e : Nat) (p : PageEnt) : (s.setPage e p).nc = s.nc := rfl
@[simp] theorem State.setPage_recipes (s : State) (e : Nat) (p : PageEnt) : (s.setPage e p).recipes = s.recipes := rfl
@[simp] theorem State.setPage_seqs (s : State) (e : Nat) (p : PageEnt) : (s.setPage e p).seqs = s.seqs := rfl
@[simp] theorem State.setPage_lastSeq (s : State) (e : Nat) (p : PageEnt) : (s.setPage e p).lastSeq = s.lastSeq := rfl
@[simp] theorem State.setPage_keys (s : State) (e : Nat) (p : PageEnt) : (s.setPage e p).keys = s.keys := rfl
@[simp] theorem State.setPage_exports (s : State) (e : Nat) (p : PageEnt) : (s.setPage e p).exports = s.exports := rfl
@[simp] theorem State.setPage_imports (s : State) (e : Nat) (p : PageEnt) : (s.setPage e p).imports = s.imports := rfl
@[simp] theorem State.setPage_ingress (s : State) (e : Nat) (p : PageEnt) : (s.setPage e p).ingress = s.ingress := rfl
@[simp] theorem State.setPage_fns (s : State) (e : Nat) (p : PageEnt) : (s.setPage e p).fns = s.fns := rfl
@[simp] theorem State.setPage_ctxFn (s : State) (e : Nat) (p : PageEnt) : (s.setPage e p).ctxFn = s.ctxFn := rfl
@[simp] theorem State.setPage_ctxSys (s : State) (e : Nat) (p : PageEnt) : (s.setPage e p).ctxSys = s.ctxSys := rfl
@[simp] theorem State.setPage_tlto (s : State) (e : Nat) (p : PageEnt) : (s.setPage e p).tlto = s.tlto := rfl
@[simp] theorem State.setPage_bootstat (s : State) (e : Nat) (p : PageEnt) : (s.setPage e p).bootstat = s.bootstat := rfl
@[simp] theorem State.setPage_jobs (s : State) (e : Nat) (p : PageEnt) : (s.setPage e p).jobs = s.jobs := rfl
@[simp] theorem State.setPage_claims (s : State) (e : Nat) (p : PageEnt) : (s.setPage e p).claims = s.claims := rfl
@[simp] theorem State.setPage_nextJob (s : State) (e : Nat) (p : PageEnt) : (s.setPage e p).nextJob = s.nextJob := rfl
@[simp] theorem State.setPage_decFrozen (s : State) (e : Nat) (p : PageEnt) : (s.setPage e p).decFrozen = s.decFrozen := rfl
@[simp] theorem State.setPage_rbgOk (s : State) (e : Nat) (p : PageEnt) : (s.setPage e p).rbgOk = s.rbgOk := rfl
@[simp] theorem State.setPage_routines (s : State) (e : Nat) (p : PageEnt) : (s.setPage e p).routines = s.routines := rfl
@[simp] theorem State.setPage_xfBytes (s : State) (e : Nat) (p : PageEnt) : (s.setPage e p).xfBytes = s.xfBytes := rfl
@[simp] theorem State.setPage_xfMem (s : State) (e : Nat) (p : PageEnt) : (s.setPage e p).xfMem = s.xfMem := rfl
@[simp] theorem State.setPage_linksDown (s : State) (e : Nat) (p : PageEnt) : (s.setPage e p).linksDown = s.linksDown := rfl
@[simp] theorem State.setPage_links (s : State) (e : Nat) (p : PageEnt) : (s.setPage e p).links = s.links := rfl
@[simp] theorem State.setPage_routes (s : State) (e : Nat) (p : PageEnt) : (s.setPage e p).routes = s.routes := rfl
@[simp] theorem State.setPage_drives (s : State) (e : Nat) (p : PageEnt) : (s.setPage e p).drives = s.drives := rfl
@[simp] theorem State.setPage_granted (s : State) (e : Nat) (p : PageEnt) : (s.setPage e p).granted = s.granted := rfl
@[simp] theorem State.setPage_boot (s : State) (e : Nat) (p : PageEnt) : (s.setPage e p).boot = s.boot := rfl
@[simp] theorem State.setPage_run (s : State) (e : Nat) (p : PageEnt) : (s.setPage e p).run = s.run := rfl
@[simp] theorem State.setPage_fuses (s : State) (e : Nat) (p : PageEnt) : (s.setPage e p).fuses = s.fuses := rfl
@[simp] theorem State.setPage_identity (s : State) (e : Nat) (p : PageEnt) : (s.setPage e p).identity = s.identity := rfl
@[simp] theorem State.setPage_xfImages (s : State) (e : Nat) (p : PageEnt) : (s.setPage e p).xfImages = s.xfImages := rfl

/-! `State.setWork` changes `works` alone. -/
@[simp] theorem State.setWork_free (s : State) (w : Work) : (s.setWork w).free = s.free := rfl
@[simp] theorem State.setWork_agenda (s : State) (w : Work) : (s.setWork w).agenda = s.agenda := rfl
@[simp] theorem State.setWork_auto (s : State) (w : Work) : (s.setWork w).auto = s.auto := rfl
@[simp] theorem State.setWork_ctx (s : State) (w : Work) : (s.setWork w).ctx = s.ctx := rfl
@[simp] theorem State.setWork_now (s : State) (w : Work) : (s.setWork w).now = s.now := rfl
@[simp] theorem State.setWork_core (s : State) (w : Work) : (s.setWork w).core = s.core := rfl
@[simp] theorem State.setWork_cur (s : State) (w : Work) : (s.setWork w).cur = s.cur := rfl
@[simp] theorem State.setWork_tasks (s : State) (w : Work) : (s.setWork w).tasks = s.tasks := rfl
@[simp] theorem State.setWork_copies (s : State) (w : Work) : (s.setWork w).copies = s.copies := rfl
@[simp] theorem State.setWork_nextTask (s : State) (w : Work) : (s.setWork w).nextTask = s.nextTask := rfl
@[simp] theorem State.setWork_nextWork (s : State) (w : Work) : (s.setWork w).nextWork = s.nextWork := rfl
@[simp] theorem State.setWork_nextCopy (s : State) (w : Work) : (s.setWork w).nextCopy = s.nextCopy := rfl
@[simp] theorem State.setWork_serial (s : State) (w : Work) : (s.setWork w).serial = s.serial := rfl
@[simp] theorem State.setWork_cores (s : State) (w : Work) : (s.setWork w).cores = s.cores := rfl
@[simp] theorem State.setWork_dies (s : State) (w : Work) : (s.setWork w).dies = s.dies := rfl
@[simp] theorem State.setWork_landing (s : State) (w : Work) : (s.setWork w).landing = s.landing := rfl
@[simp] theorem State.setWork_queues (s : State) (w : Work) : (s.setWork w).queues = s.queues := rfl
@[simp] theorem State.setWork_forks (s : State) (w : Work) : (s.setWork w).forks = s.forks := rfl
@[simp] theorem State.setWork_pool (s : State) (w : Work) : (s.setWork w).pool = s.pool := rfl
@[simp] theorem State.setWork_tensors (s : State) (w : Work) : (s.setWork w).tensors = s.tensors := rfl
@[simp] theorem State.setWork_pages (s : State) (w : Work) : (s.setWork w).pages = s.pages := rfl
@[simp] theorem State.setWork_mem (s : State) (w : Work) : (s.setWork w).mem = s.mem := rfl
@[simp] theorem State.setWork_hostMem (s : State) (w : Work) : (s.setWork w).hostMem = s.hostMem := rfl
@[simp] theorem State.setWork_nc (s : State) (w : Work) : (s.setWork w).nc = s.nc := rfl
@[simp] theorem State.setWork_recipes (s : State) (w : Work) : (s.setWork w).recipes = s.recipes := rfl
@[simp] theorem State.setWork_seqs (s : State) (w : Work) : (s.setWork w).seqs = s.seqs := rfl
@[simp] theorem State.setWork_lastSeq (s : State) (w : Work) : (s.setWork w).lastSeq = s.lastSeq := rfl
@[simp] theorem State.setWork_keys (s : State) (w : Work) : (s.setWork w).keys = s.keys := rfl
@[simp] theorem State.setWork_exports (s : State) (w : Work) : (s.setWork w).exports = s.exports := rfl
@[simp] theorem State.setWork_imports (s : State) (w : Work) : (s.setWork w).imports = s.imports := rfl
@[simp] theorem State.setWork_ingress (s : State) (w : Work) : (s.setWork w).ingress = s.ingress := rfl
@[simp] theorem State.setWork_fns (s : State) (w : Work) : (s.setWork w).fns = s.fns := rfl
@[simp] theorem State.setWork_ctxFn (s : State) (w : Work) : (s.setWork w).ctxFn = s.ctxFn := rfl
@[simp] theorem State.setWork_ctxSys (s : State) (w : Work) : (s.setWork w).ctxSys = s.ctxSys := rfl
@[simp] theorem State.setWork_tlto (s : State) (w : Work) : (s.setWork w).tlto = s.tlto := rfl
@[simp] theorem State.setWork_bootstat (s : State) (w : Work) : (s.setWork w).bootstat = s.bootstat := rfl
@[simp] theorem State.setWork_jobs (s : State) (w : Work) : (s.setWork w).jobs = s.jobs := rfl
@[simp] theorem State.setWork_claims (s : State) (w : Work) : (s.setWork w).claims = s.claims := rfl
@[simp] theorem State.setWork_nextJob (s : State) (w : Work) : (s.setWork w).nextJob = s.nextJob := rfl
@[simp] theorem State.setWork_decFrozen (s : State) (w : Work) : (s.setWork w).decFrozen = s.decFrozen := rfl
@[simp] theorem State.setWork_rbgOk (s : State) (w : Work) : (s.setWork w).rbgOk = s.rbgOk := rfl
@[simp] theorem State.setWork_routines (s : State) (w : Work) : (s.setWork w).routines = s.routines := rfl
@[simp] theorem State.setWork_xfBytes (s : State) (w : Work) : (s.setWork w).xfBytes = s.xfBytes := rfl
@[simp] theorem State.setWork_xfMem (s : State) (w : Work) : (s.setWork w).xfMem = s.xfMem := rfl
@[simp] theorem State.setWork_linksDown (s : State) (w : Work) : (s.setWork w).linksDown = s.linksDown := rfl
@[simp] theorem State.setWork_links (s : State) (w : Work) : (s.setWork w).links = s.links := rfl
@[simp] theorem State.setWork_routes (s : State) (w : Work) : (s.setWork w).routes = s.routes := rfl
@[simp] theorem State.setWork_drives (s : State) (w : Work) : (s.setWork w).drives = s.drives := rfl
@[simp] theorem State.setWork_granted (s : State) (w : Work) : (s.setWork w).granted = s.granted := rfl
@[simp] theorem State.setWork_boot (s : State) (w : Work) : (s.setWork w).boot = s.boot := rfl
@[simp] theorem State.setWork_run (s : State) (w : Work) : (s.setWork w).run = s.run := rfl
@[simp] theorem State.setWork_fuses (s : State) (w : Work) : (s.setWork w).fuses = s.fuses := rfl
@[simp] theorem State.setWork_identity (s : State) (w : Work) : (s.setWork w).identity = s.identity := rfl
@[simp] theorem State.setWork_xfImages (s : State) (w : Work) : (s.setWork w).xfImages = s.xfImages := rfl

/-! `State.setCopy` changes `copies` alone. -/
@[simp] theorem State.setCopy_free (s : State) (c : Copy) : (s.setCopy c).free = s.free := rfl
@[simp] theorem State.setCopy_agenda (s : State) (c : Copy) : (s.setCopy c).agenda = s.agenda := rfl
@[simp] theorem State.setCopy_auto (s : State) (c : Copy) : (s.setCopy c).auto = s.auto := rfl
@[simp] theorem State.setCopy_ctx (s : State) (c : Copy) : (s.setCopy c).ctx = s.ctx := rfl
@[simp] theorem State.setCopy_now (s : State) (c : Copy) : (s.setCopy c).now = s.now := rfl
@[simp] theorem State.setCopy_core (s : State) (c : Copy) : (s.setCopy c).core = s.core := rfl
@[simp] theorem State.setCopy_cur (s : State) (c : Copy) : (s.setCopy c).cur = s.cur := rfl
@[simp] theorem State.setCopy_tasks (s : State) (c : Copy) : (s.setCopy c).tasks = s.tasks := rfl
@[simp] theorem State.setCopy_works (s : State) (c : Copy) : (s.setCopy c).works = s.works := rfl
@[simp] theorem State.setCopy_nextTask (s : State) (c : Copy) : (s.setCopy c).nextTask = s.nextTask := rfl
@[simp] theorem State.setCopy_nextWork (s : State) (c : Copy) : (s.setCopy c).nextWork = s.nextWork := rfl
@[simp] theorem State.setCopy_nextCopy (s : State) (c : Copy) : (s.setCopy c).nextCopy = s.nextCopy := rfl
@[simp] theorem State.setCopy_serial (s : State) (c : Copy) : (s.setCopy c).serial = s.serial := rfl
@[simp] theorem State.setCopy_cores (s : State) (c : Copy) : (s.setCopy c).cores = s.cores := rfl
@[simp] theorem State.setCopy_dies (s : State) (c : Copy) : (s.setCopy c).dies = s.dies := rfl
@[simp] theorem State.setCopy_landing (s : State) (c : Copy) : (s.setCopy c).landing = s.landing := rfl
@[simp] theorem State.setCopy_queues (s : State) (c : Copy) : (s.setCopy c).queues = s.queues := rfl
@[simp] theorem State.setCopy_forks (s : State) (c : Copy) : (s.setCopy c).forks = s.forks := rfl
@[simp] theorem State.setCopy_pool (s : State) (c : Copy) : (s.setCopy c).pool = s.pool := rfl
@[simp] theorem State.setCopy_tensors (s : State) (c : Copy) : (s.setCopy c).tensors = s.tensors := rfl
@[simp] theorem State.setCopy_pages (s : State) (c : Copy) : (s.setCopy c).pages = s.pages := rfl
@[simp] theorem State.setCopy_mem (s : State) (c : Copy) : (s.setCopy c).mem = s.mem := rfl
@[simp] theorem State.setCopy_hostMem (s : State) (c : Copy) : (s.setCopy c).hostMem = s.hostMem := rfl
@[simp] theorem State.setCopy_nc (s : State) (c : Copy) : (s.setCopy c).nc = s.nc := rfl
@[simp] theorem State.setCopy_recipes (s : State) (c : Copy) : (s.setCopy c).recipes = s.recipes := rfl
@[simp] theorem State.setCopy_seqs (s : State) (c : Copy) : (s.setCopy c).seqs = s.seqs := rfl
@[simp] theorem State.setCopy_lastSeq (s : State) (c : Copy) : (s.setCopy c).lastSeq = s.lastSeq := rfl
@[simp] theorem State.setCopy_keys (s : State) (c : Copy) : (s.setCopy c).keys = s.keys := rfl
@[simp] theorem State.setCopy_exports (s : State) (c : Copy) : (s.setCopy c).exports = s.exports := rfl
@[simp] theorem State.setCopy_imports (s : State) (c : Copy) : (s.setCopy c).imports = s.imports := rfl
@[simp] theorem State.setCopy_ingress (s : State) (c : Copy) : (s.setCopy c).ingress = s.ingress := rfl
@[simp] theorem State.setCopy_fns (s : State) (c : Copy) : (s.setCopy c).fns = s.fns := rfl
@[simp] theorem State.setCopy_ctxFn (s : State) (c : Copy) : (s.setCopy c).ctxFn = s.ctxFn := rfl
@[simp] theorem State.setCopy_ctxSys (s : State) (c : Copy) : (s.setCopy c).ctxSys = s.ctxSys := rfl
@[simp] theorem State.setCopy_tlto (s : State) (c : Copy) : (s.setCopy c).tlto = s.tlto := rfl
@[simp] theorem State.setCopy_bootstat (s : State) (c : Copy) : (s.setCopy c).bootstat = s.bootstat := rfl
@[simp] theorem State.setCopy_jobs (s : State) (c : Copy) : (s.setCopy c).jobs = s.jobs := rfl
@[simp] theorem State.setCopy_claims (s : State) (c : Copy) : (s.setCopy c).claims = s.claims := rfl
@[simp] theorem State.setCopy_nextJob (s : State) (c : Copy) : (s.setCopy c).nextJob = s.nextJob := rfl
@[simp] theorem State.setCopy_decFrozen (s : State) (c : Copy) : (s.setCopy c).decFrozen = s.decFrozen := rfl
@[simp] theorem State.setCopy_rbgOk (s : State) (c : Copy) : (s.setCopy c).rbgOk = s.rbgOk := rfl
@[simp] theorem State.setCopy_routines (s : State) (c : Copy) : (s.setCopy c).routines = s.routines := rfl
@[simp] theorem State.setCopy_xfBytes (s : State) (c : Copy) : (s.setCopy c).xfBytes = s.xfBytes := rfl
@[simp] theorem State.setCopy_xfMem (s : State) (c : Copy) : (s.setCopy c).xfMem = s.xfMem := rfl
@[simp] theorem State.setCopy_linksDown (s : State) (c : Copy) : (s.setCopy c).linksDown = s.linksDown := rfl
@[simp] theorem State.setCopy_links (s : State) (c : Copy) : (s.setCopy c).links = s.links := rfl
@[simp] theorem State.setCopy_routes (s : State) (c : Copy) : (s.setCopy c).routes = s.routes := rfl
@[simp] theorem State.setCopy_drives (s : State) (c : Copy) : (s.setCopy c).drives = s.drives := rfl
@[simp] theorem State.setCopy_granted (s : State) (c : Copy) : (s.setCopy c).granted = s.granted := rfl
@[simp] theorem State.setCopy_boot (s : State) (c : Copy) : (s.setCopy c).boot = s.boot := rfl
@[simp] theorem State.setCopy_run (s : State) (c : Copy) : (s.setCopy c).run = s.run := rfl
@[simp] theorem State.setCopy_fuses (s : State) (c : Copy) : (s.setCopy c).fuses = s.fuses := rfl
@[simp] theorem State.setCopy_identity (s : State) (c : Copy) : (s.setCopy c).identity = s.identity := rfl
@[simp] theorem State.setCopy_xfImages (s : State) (c : Copy) : (s.setCopy c).xfImages = s.xfImages := rfl

/-! `State.arch` changes `cur` alone. -/
@[simp] theorem State.arch_free (s : State) (f : Arch → Arch) : (s.arch f).free = s.free := rfl
@[simp] theorem State.arch_agenda (s : State) (f : Arch → Arch) : (s.arch f).agenda = s.agenda := rfl
@[simp] theorem State.arch_auto (s : State) (f : Arch → Arch) : (s.arch f).auto = s.auto := rfl
@[simp] theorem State.arch_ctx (s : State) (f : Arch → Arch) : (s.arch f).ctx = s.ctx := rfl
@[simp] theorem State.arch_now (s : State) (f : Arch → Arch) : (s.arch f).now = s.now := rfl
@[simp] theorem State.arch_core (s : State) (f : Arch → Arch) : (s.arch f).core = s.core := rfl
@[simp] theorem State.arch_cur (s : State) (f : Arch → Arch) : (s.arch f).cur = { s.cur with arch := f s.cur.arch } := rfl
@[simp] theorem State.arch_tasks (s : State) (f : Arch → Arch) : (s.arch f).tasks = s.tasks := rfl
@[simp] theorem State.arch_works (s : State) (f : Arch → Arch) : (s.arch f).works = s.works := rfl
@[simp] theorem State.arch_copies (s : State) (f : Arch → Arch) : (s.arch f).copies = s.copies := rfl
@[simp] theorem State.arch_nextTask (s : State) (f : Arch → Arch) : (s.arch f).nextTask = s.nextTask := rfl
@[simp] theorem State.arch_nextWork (s : State) (f : Arch → Arch) : (s.arch f).nextWork = s.nextWork := rfl
@[simp] theorem State.arch_nextCopy (s : State) (f : Arch → Arch) : (s.arch f).nextCopy = s.nextCopy := rfl
@[simp] theorem State.arch_serial (s : State) (f : Arch → Arch) : (s.arch f).serial = s.serial := rfl
@[simp] theorem State.arch_cores (s : State) (f : Arch → Arch) : (s.arch f).cores = s.cores := rfl
@[simp] theorem State.arch_dies (s : State) (f : Arch → Arch) : (s.arch f).dies = s.dies := rfl
@[simp] theorem State.arch_landing (s : State) (f : Arch → Arch) : (s.arch f).landing = s.landing := rfl
@[simp] theorem State.arch_queues (s : State) (f : Arch → Arch) : (s.arch f).queues = s.queues := rfl
@[simp] theorem State.arch_forks (s : State) (f : Arch → Arch) : (s.arch f).forks = s.forks := rfl
@[simp] theorem State.arch_pool (s : State) (f : Arch → Arch) : (s.arch f).pool = s.pool := rfl
@[simp] theorem State.arch_tensors (s : State) (f : Arch → Arch) : (s.arch f).tensors = s.tensors := rfl
@[simp] theorem State.arch_pages (s : State) (f : Arch → Arch) : (s.arch f).pages = s.pages := rfl
@[simp] theorem State.arch_mem (s : State) (f : Arch → Arch) : (s.arch f).mem = s.mem := rfl
@[simp] theorem State.arch_hostMem (s : State) (f : Arch → Arch) : (s.arch f).hostMem = s.hostMem := rfl
@[simp] theorem State.arch_nc (s : State) (f : Arch → Arch) : (s.arch f).nc = s.nc := rfl
@[simp] theorem State.arch_recipes (s : State) (f : Arch → Arch) : (s.arch f).recipes = s.recipes := rfl
@[simp] theorem State.arch_seqs (s : State) (f : Arch → Arch) : (s.arch f).seqs = s.seqs := rfl
@[simp] theorem State.arch_lastSeq (s : State) (f : Arch → Arch) : (s.arch f).lastSeq = s.lastSeq := rfl
@[simp] theorem State.arch_keys (s : State) (f : Arch → Arch) : (s.arch f).keys = s.keys := rfl
@[simp] theorem State.arch_exports (s : State) (f : Arch → Arch) : (s.arch f).exports = s.exports := rfl
@[simp] theorem State.arch_imports (s : State) (f : Arch → Arch) : (s.arch f).imports = s.imports := rfl
@[simp] theorem State.arch_ingress (s : State) (f : Arch → Arch) : (s.arch f).ingress = s.ingress := rfl
@[simp] theorem State.arch_fns (s : State) (f : Arch → Arch) : (s.arch f).fns = s.fns := rfl
@[simp] theorem State.arch_ctxFn (s : State) (f : Arch → Arch) : (s.arch f).ctxFn = s.ctxFn := rfl
@[simp] theorem State.arch_ctxSys (s : State) (f : Arch → Arch) : (s.arch f).ctxSys = s.ctxSys := rfl
@[simp] theorem State.arch_tlto (s : State) (f : Arch → Arch) : (s.arch f).tlto = s.tlto := rfl
@[simp] theorem State.arch_bootstat (s : State) (f : Arch → Arch) : (s.arch f).bootstat = s.bootstat := rfl
@[simp] theorem State.arch_jobs (s : State) (f : Arch → Arch) : (s.arch f).jobs = s.jobs := rfl
@[simp] theorem State.arch_claims (s : State) (f : Arch → Arch) : (s.arch f).claims = s.claims := rfl
@[simp] theorem State.arch_nextJob (s : State) (f : Arch → Arch) : (s.arch f).nextJob = s.nextJob := rfl
@[simp] theorem State.arch_decFrozen (s : State) (f : Arch → Arch) : (s.arch f).decFrozen = s.decFrozen := rfl
@[simp] theorem State.arch_rbgOk (s : State) (f : Arch → Arch) : (s.arch f).rbgOk = s.rbgOk := rfl
@[simp] theorem State.arch_routines (s : State) (f : Arch → Arch) : (s.arch f).routines = s.routines := rfl
@[simp] theorem State.arch_xfBytes (s : State) (f : Arch → Arch) : (s.arch f).xfBytes = s.xfBytes := rfl
@[simp] theorem State.arch_xfMem (s : State) (f : Arch → Arch) : (s.arch f).xfMem = s.xfMem := rfl
@[simp] theorem State.arch_linksDown (s : State) (f : Arch → Arch) : (s.arch f).linksDown = s.linksDown := rfl
@[simp] theorem State.arch_links (s : State) (f : Arch → Arch) : (s.arch f).links = s.links := rfl
@[simp] theorem State.arch_routes (s : State) (f : Arch → Arch) : (s.arch f).routes = s.routes := rfl
@[simp] theorem State.arch_drives (s : State) (f : Arch → Arch) : (s.arch f).drives = s.drives := rfl
@[simp] theorem State.arch_granted (s : State) (f : Arch → Arch) : (s.arch f).granted = s.granted := rfl
@[simp] theorem State.arch_boot (s : State) (f : Arch → Arch) : (s.arch f).boot = s.boot := rfl
@[simp] theorem State.arch_run (s : State) (f : Arch → Arch) : (s.arch f).run = s.run := rfl
@[simp] theorem State.arch_fuses (s : State) (f : Arch → Arch) : (s.arch f).fuses = s.fuses := rfl
@[simp] theorem State.arch_identity (s : State) (f : Arch → Arch) : (s.arch f).identity = s.identity := rfl
@[simp] theorem State.arch_xfImages (s : State) (f : Arch → Arch) : (s.arch f).xfImages = s.xfImages := rfl

/-! `State.used` changes `free` alone. -/
@[simp] theorem State.used_free (s : State) : s.used.free = s.free + 1 := rfl
@[simp] theorem State.used_agenda (s : State) : s.used.agenda = s.agenda := rfl
@[simp] theorem State.used_auto (s : State) : s.used.auto = s.auto := rfl
@[simp] theorem State.used_ctx (s : State) : s.used.ctx = s.ctx := rfl
@[simp] theorem State.used_now (s : State) : s.used.now = s.now := rfl
@[simp] theorem State.used_core (s : State) : s.used.core = s.core := rfl
@[simp] theorem State.used_cur (s : State) : s.used.cur = s.cur := rfl
@[simp] theorem State.used_tasks (s : State) : s.used.tasks = s.tasks := rfl
@[simp] theorem State.used_works (s : State) : s.used.works = s.works := rfl
@[simp] theorem State.used_copies (s : State) : s.used.copies = s.copies := rfl
@[simp] theorem State.used_nextTask (s : State) : s.used.nextTask = s.nextTask := rfl
@[simp] theorem State.used_nextWork (s : State) : s.used.nextWork = s.nextWork := rfl
@[simp] theorem State.used_nextCopy (s : State) : s.used.nextCopy = s.nextCopy := rfl
@[simp] theorem State.used_serial (s : State) : s.used.serial = s.serial := rfl
@[simp] theorem State.used_cores (s : State) : s.used.cores = s.cores := rfl
@[simp] theorem State.used_dies (s : State) : s.used.dies = s.dies := rfl
@[simp] theorem State.used_landing (s : State) : s.used.landing = s.landing := rfl
@[simp] theorem State.used_queues (s : State) : s.used.queues = s.queues := rfl
@[simp] theorem State.used_forks (s : State) : s.used.forks = s.forks := rfl
@[simp] theorem State.used_pool (s : State) : s.used.pool = s.pool := rfl
@[simp] theorem State.used_tensors (s : State) : s.used.tensors = s.tensors := rfl
@[simp] theorem State.used_pages (s : State) : s.used.pages = s.pages := rfl
@[simp] theorem State.used_mem (s : State) : s.used.mem = s.mem := rfl
@[simp] theorem State.used_hostMem (s : State) : s.used.hostMem = s.hostMem := rfl
@[simp] theorem State.used_nc (s : State) : s.used.nc = s.nc := rfl
@[simp] theorem State.used_recipes (s : State) : s.used.recipes = s.recipes := rfl
@[simp] theorem State.used_seqs (s : State) : s.used.seqs = s.seqs := rfl
@[simp] theorem State.used_lastSeq (s : State) : s.used.lastSeq = s.lastSeq := rfl
@[simp] theorem State.used_keys (s : State) : s.used.keys = s.keys := rfl
@[simp] theorem State.used_exports (s : State) : s.used.exports = s.exports := rfl
@[simp] theorem State.used_imports (s : State) : s.used.imports = s.imports := rfl
@[simp] theorem State.used_ingress (s : State) : s.used.ingress = s.ingress := rfl
@[simp] theorem State.used_fns (s : State) : s.used.fns = s.fns := rfl
@[simp] theorem State.used_ctxFn (s : State) : s.used.ctxFn = s.ctxFn := rfl
@[simp] theorem State.used_ctxSys (s : State) : s.used.ctxSys = s.ctxSys := rfl
@[simp] theorem State.used_tlto (s : State) : s.used.tlto = s.tlto := rfl
@[simp] theorem State.used_bootstat (s : State) : s.used.bootstat = s.bootstat := rfl
@[simp] theorem State.used_jobs (s : State) : s.used.jobs = s.jobs := rfl
@[simp] theorem State.used_claims (s : State) : s.used.claims = s.claims := rfl
@[simp] theorem State.used_nextJob (s : State) : s.used.nextJob = s.nextJob := rfl
@[simp] theorem State.used_decFrozen (s : State) : s.used.decFrozen = s.decFrozen := rfl
@[simp] theorem State.used_rbgOk (s : State) : s.used.rbgOk = s.rbgOk := rfl
@[simp] theorem State.used_routines (s : State) : s.used.routines = s.routines := rfl
@[simp] theorem State.used_xfBytes (s : State) : s.used.xfBytes = s.xfBytes := rfl
@[simp] theorem State.used_xfMem (s : State) : s.used.xfMem = s.xfMem := rfl
@[simp] theorem State.used_linksDown (s : State) : s.used.linksDown = s.linksDown := rfl
@[simp] theorem State.used_links (s : State) : s.used.links = s.links := rfl
@[simp] theorem State.used_routes (s : State) : s.used.routes = s.routes := rfl
@[simp] theorem State.used_drives (s : State) : s.used.drives = s.drives := rfl
@[simp] theorem State.used_granted (s : State) : s.used.granted = s.granted := rfl
@[simp] theorem State.used_boot (s : State) : s.used.boot = s.boot := rfl
@[simp] theorem State.used_run (s : State) : s.used.run = s.run := rfl
@[simp] theorem State.used_fuses (s : State) : s.used.fuses = s.fuses := rfl
@[simp] theorem State.used_identity (s : State) : s.used.identity = s.identity := rfl
@[simp] theorem State.used_xfImages (s : State) : s.used.xfImages = s.xfImages := rfl

/-! `State.marked` changes `ctx` alone. -/
@[simp] theorem State.marked_free (s : State) : s.marked.free = s.free := rfl
@[simp] theorem State.marked_agenda (s : State) : s.marked.agenda = s.agenda := rfl
@[simp] theorem State.marked_auto (s : State) : s.marked.auto = s.auto := rfl
@[simp] theorem State.marked_ctx (s : State) : s.marked.ctx = { s.ctx with out := .ran } := rfl
@[simp] theorem State.marked_now (s : State) : s.marked.now = s.now := rfl
@[simp] theorem State.marked_core (s : State) : s.marked.core = s.core := rfl
@[simp] theorem State.marked_cur (s : State) : s.marked.cur = s.cur := rfl
@[simp] theorem State.marked_tasks (s : State) : s.marked.tasks = s.tasks := rfl
@[simp] theorem State.marked_works (s : State) : s.marked.works = s.works := rfl
@[simp] theorem State.marked_copies (s : State) : s.marked.copies = s.copies := rfl
@[simp] theorem State.marked_nextTask (s : State) : s.marked.nextTask = s.nextTask := rfl
@[simp] theorem State.marked_nextWork (s : State) : s.marked.nextWork = s.nextWork := rfl
@[simp] theorem State.marked_nextCopy (s : State) : s.marked.nextCopy = s.nextCopy := rfl
@[simp] theorem State.marked_serial (s : State) : s.marked.serial = s.serial := rfl
@[simp] theorem State.marked_cores (s : State) : s.marked.cores = s.cores := rfl
@[simp] theorem State.marked_dies (s : State) : s.marked.dies = s.dies := rfl
@[simp] theorem State.marked_landing (s : State) : s.marked.landing = s.landing := rfl
@[simp] theorem State.marked_queues (s : State) : s.marked.queues = s.queues := rfl
@[simp] theorem State.marked_forks (s : State) : s.marked.forks = s.forks := rfl
@[simp] theorem State.marked_pool (s : State) : s.marked.pool = s.pool := rfl
@[simp] theorem State.marked_tensors (s : State) : s.marked.tensors = s.tensors := rfl
@[simp] theorem State.marked_pages (s : State) : s.marked.pages = s.pages := rfl
@[simp] theorem State.marked_mem (s : State) : s.marked.mem = s.mem := rfl
@[simp] theorem State.marked_hostMem (s : State) : s.marked.hostMem = s.hostMem := rfl
@[simp] theorem State.marked_nc (s : State) : s.marked.nc = s.nc := rfl
@[simp] theorem State.marked_recipes (s : State) : s.marked.recipes = s.recipes := rfl
@[simp] theorem State.marked_seqs (s : State) : s.marked.seqs = s.seqs := rfl
@[simp] theorem State.marked_lastSeq (s : State) : s.marked.lastSeq = s.lastSeq := rfl
@[simp] theorem State.marked_keys (s : State) : s.marked.keys = s.keys := rfl
@[simp] theorem State.marked_exports (s : State) : s.marked.exports = s.exports := rfl
@[simp] theorem State.marked_imports (s : State) : s.marked.imports = s.imports := rfl
@[simp] theorem State.marked_ingress (s : State) : s.marked.ingress = s.ingress := rfl
@[simp] theorem State.marked_fns (s : State) : s.marked.fns = s.fns := rfl
@[simp] theorem State.marked_ctxFn (s : State) : s.marked.ctxFn = s.ctxFn := rfl
@[simp] theorem State.marked_ctxSys (s : State) : s.marked.ctxSys = s.ctxSys := rfl
@[simp] theorem State.marked_tlto (s : State) : s.marked.tlto = s.tlto := rfl
@[simp] theorem State.marked_bootstat (s : State) : s.marked.bootstat = s.bootstat := rfl
@[simp] theorem State.marked_jobs (s : State) : s.marked.jobs = s.jobs := rfl
@[simp] theorem State.marked_claims (s : State) : s.marked.claims = s.claims := rfl
@[simp] theorem State.marked_nextJob (s : State) : s.marked.nextJob = s.nextJob := rfl
@[simp] theorem State.marked_decFrozen (s : State) : s.marked.decFrozen = s.decFrozen := rfl
@[simp] theorem State.marked_rbgOk (s : State) : s.marked.rbgOk = s.rbgOk := rfl
@[simp] theorem State.marked_routines (s : State) : s.marked.routines = s.routines := rfl
@[simp] theorem State.marked_xfBytes (s : State) : s.marked.xfBytes = s.xfBytes := rfl
@[simp] theorem State.marked_xfMem (s : State) : s.marked.xfMem = s.xfMem := rfl
@[simp] theorem State.marked_linksDown (s : State) : s.marked.linksDown = s.linksDown := rfl
@[simp] theorem State.marked_links (s : State) : s.marked.links = s.links := rfl
@[simp] theorem State.marked_routes (s : State) : s.marked.routes = s.routes := rfl
@[simp] theorem State.marked_drives (s : State) : s.marked.drives = s.drives := rfl
@[simp] theorem State.marked_granted (s : State) : s.marked.granted = s.granted := rfl
@[simp] theorem State.marked_boot (s : State) : s.marked.boot = s.boot := rfl
@[simp] theorem State.marked_run (s : State) : s.marked.run = s.run := rfl
@[simp] theorem State.marked_fuses (s : State) : s.marked.fuses = s.fuses := rfl
@[simp] theorem State.marked_identity (s : State) : s.marked.identity = s.identity := rfl
@[simp] theorem State.marked_xfImages (s : State) : s.marked.xfImages = s.xfImages := rfl

/-! A table read after an update of it. -/
theorem State.stackOf_setStack_self (s : State) (n : Nat) (k : Stack) (h : Store.sorted s.dies = true) : (s.setStack n k).stackOf n = k :=
  Store.get_set_self _ _ _ _ h
theorem State.stackOf_setStack_other (s : State) (n m : Nat) (k : Stack) (h : m ≠ n) : (s.setStack n k).stackOf m = s.stackOf m :=
  Store.get_set_other _ _ _ _ _ h
theorem State.sorted_setStack (s : State) (n : Nat) (k : Stack) (h : Store.sorted s.dies = true) : Store.sorted (s.setStack n k).dies = true :=
  Store.sorted_set _ _ _ _ h
theorem State.coreOf_setCore_self (s : State) (n : Nat) (c : CoreSt) (h : Store.sorted s.cores = true) : (s.setCore n c).coreOf n = c :=
  Store.get_set_self _ _ _ _ h
theorem State.coreOf_setCore_other (s : State) (n m : Nat) (c : CoreSt) (h : m ≠ n) : (s.setCore n c).coreOf m = s.coreOf m :=
  Store.get_set_other _ _ _ _ _ h
theorem State.sorted_setCore (s : State) (n : Nat) (c : CoreSt) (h : Store.sorted s.cores = true) : Store.sorted (s.setCore n c).cores = true :=
  Store.sorted_set _ _ _ _ h
theorem State.keyOf_setKey_self (s : State) (n : Nat) (k : KeySlot) (h : Store.sorted s.keys = true) : (s.setKey n k).keyOf n = k :=
  Store.get_set_self _ _ _ _ h
theorem State.keyOf_setKey_other (s : State) (n m : Nat) (k : KeySlot) (h : m ≠ n) : (s.setKey n k).keyOf m = s.keyOf m :=
  Store.get_set_other _ _ _ _ _ h
theorem State.sorted_setKey (s : State) (n : Nat) (k : KeySlot) (h : Store.sorted s.keys = true) : Store.sorted (s.setKey n k).keys = true :=
  Store.sorted_set _ _ _ _ h
theorem State.queueOf_setQueue_self (s : State) (n : Nat) (q : OpQueue) (h : Store.sorted s.queues = true) : (s.setQueue n q).queueOf n = q :=
  Store.get_set_self _ _ _ _ h
theorem State.queueOf_setQueue_other (s : State) (n m : Nat) (q : OpQueue) (h : m ≠ n) : (s.setQueue n q).queueOf m = s.queueOf m :=
  Store.get_set_other _ _ _ _ _ h
theorem State.sorted_setQueue (s : State) (n : Nat) (q : OpQueue) (h : Store.sorted s.queues = true) : Store.sorted (s.setQueue n q).queues = true :=
  Store.sorted_set _ _ _ _ h
theorem State.poolOf_setPool_self (s : State) (n : Nat) (p : PoolEnt) (h : Store.sorted s.pool = true) : (s.setPool n p).poolOf n = p :=
  Store.get_set_self _ _ _ _ h
theorem State.poolOf_setPool_other (s : State) (n m : Nat) (p : PoolEnt) (h : m ≠ n) : (s.setPool n p).poolOf m = s.poolOf m :=
  Store.get_set_other _ _ _ _ _ h
theorem State.sorted_setPool (s : State) (n : Nat) (p : PoolEnt) (h : Store.sorted s.pool = true) : Store.sorted (s.setPool n p).pool = true :=
  Store.sorted_set _ _ _ _ h
theorem State.fnOf_setFn_self (s : State) (n : Nat) (f : Fn) (h : Store.sorted s.fns = true) : (s.setFn n f).fnOf n = f :=
  Store.get_set_self _ _ _ _ h
theorem State.fnOf_setFn_other (s : State) (n m : Nat) (f : Fn) (h : m ≠ n) : (s.setFn n f).fnOf m = s.fnOf m :=
  Store.get_set_other _ _ _ _ _ h
theorem State.sorted_setFn (s : State) (n : Nat) (f : Fn) (h : Store.sorted s.fns = true) : Store.sorted (s.setFn n f).fns = true :=
  Store.sorted_set _ _ _ _ h

/-! A table read after an update of another. -/
@[simp] theorem State.coreOf_setStack (s : State) (n : Nat) (k : Stack) (i : Nat) : (s.setStack n k).coreOf i = s.coreOf i := rfl
@[simp] theorem State.keyOf_setStack (s : State) (n : Nat) (k : Stack) (i : Nat) : (s.setStack n k).keyOf i = s.keyOf i := rfl
@[simp] theorem State.queueOf_setStack (s : State) (n : Nat) (k : Stack) (i : Nat) : (s.setStack n k).queueOf i = s.queueOf i := rfl
@[simp] theorem State.poolOf_setStack (s : State) (n : Nat) (k : Stack) (i : Nat) : (s.setStack n k).poolOf i = s.poolOf i := rfl
@[simp] theorem State.fnOf_setStack (s : State) (n : Nat) (k : Stack) (i : Nat) : (s.setStack n k).fnOf i = s.fnOf i := rfl
@[simp] theorem State.taskOf_setStack (s : State) (n : Nat) (k : Stack) (i : Nat) : (s.setStack n k).taskOf i = s.taskOf i := rfl
@[simp] theorem State.workOf_setStack (s : State) (n : Nat) (k : Stack) (i : Nat) : (s.setStack n k).workOf i = s.workOf i := rfl
@[simp] theorem State.copyOf_setStack (s : State) (n : Nat) (k : Stack) (i : Nat) : (s.setStack n k).copyOf i = s.copyOf i := rfl
@[simp] theorem State.tensor_setStack (s : State) (n : Nat) (k : Stack) (i : Nat) : (s.setStack n k).tensor i = s.tensor i := rfl
@[simp] theorem State.page_setStack (s : State) (n : Nat) (k : Stack) (i : Nat) : (s.setStack n k).page i = s.page i := rfl
@[simp] theorem State.allTasks_setStack (s : State) (n : Nat) (k : Stack) : (s.setStack n k).allTasks = s.allTasks := rfl
@[simp] theorem State.stackOf_setCore (s : State) (n : Nat) (c : CoreSt) (i : Nat) : (s.setCore n c).stackOf i = s.stackOf i := rfl
@[simp] theorem State.keyOf_setCore (s : State) (n : Nat) (c : CoreSt) (i : Nat) : (s.setCore n c).keyOf i = s.keyOf i := rfl
@[simp] theorem State.queueOf_setCore (s : State) (n : Nat) (c : CoreSt) (i : Nat) : (s.setCore n c).queueOf i = s.queueOf i := rfl
@[simp] theorem State.poolOf_setCore (s : State) (n : Nat) (c : CoreSt) (i : Nat) : (s.setCore n c).poolOf i = s.poolOf i := rfl
@[simp] theorem State.fnOf_setCore (s : State) (n : Nat) (c : CoreSt) (i : Nat) : (s.setCore n c).fnOf i = s.fnOf i := rfl
@[simp] theorem State.taskOf_setCore (s : State) (n : Nat) (c : CoreSt) (i : Nat) : (s.setCore n c).taskOf i = s.taskOf i := rfl
@[simp] theorem State.workOf_setCore (s : State) (n : Nat) (c : CoreSt) (i : Nat) : (s.setCore n c).workOf i = s.workOf i := rfl
@[simp] theorem State.copyOf_setCore (s : State) (n : Nat) (c : CoreSt) (i : Nat) : (s.setCore n c).copyOf i = s.copyOf i := rfl
@[simp] theorem State.tensor_setCore (s : State) (n : Nat) (c : CoreSt) (i : Nat) : (s.setCore n c).tensor i = s.tensor i := rfl
@[simp] theorem State.page_setCore (s : State) (n : Nat) (c : CoreSt) (i : Nat) : (s.setCore n c).page i = s.page i := rfl
@[simp] theorem State.allTasks_setCore (s : State) (n : Nat) (c : CoreSt) : (s.setCore n c).allTasks = s.allTasks := rfl
@[simp] theorem State.stackOf_setKey (s : State) (n : Nat) (k : KeySlot) (i : Nat) : (s.setKey n k).stackOf i = s.stackOf i := rfl
@[simp] theorem State.coreOf_setKey (s : State) (n : Nat) (k : KeySlot) (i : Nat) : (s.setKey n k).coreOf i = s.coreOf i := rfl
@[simp] theorem State.queueOf_setKey (s : State) (n : Nat) (k : KeySlot) (i : Nat) : (s.setKey n k).queueOf i = s.queueOf i := rfl
@[simp] theorem State.poolOf_setKey (s : State) (n : Nat) (k : KeySlot) (i : Nat) : (s.setKey n k).poolOf i = s.poolOf i := rfl
@[simp] theorem State.fnOf_setKey (s : State) (n : Nat) (k : KeySlot) (i : Nat) : (s.setKey n k).fnOf i = s.fnOf i := rfl
@[simp] theorem State.taskOf_setKey (s : State) (n : Nat) (k : KeySlot) (i : Nat) : (s.setKey n k).taskOf i = s.taskOf i := rfl
@[simp] theorem State.workOf_setKey (s : State) (n : Nat) (k : KeySlot) (i : Nat) : (s.setKey n k).workOf i = s.workOf i := rfl
@[simp] theorem State.copyOf_setKey (s : State) (n : Nat) (k : KeySlot) (i : Nat) : (s.setKey n k).copyOf i = s.copyOf i := rfl
@[simp] theorem State.tensor_setKey (s : State) (n : Nat) (k : KeySlot) (i : Nat) : (s.setKey n k).tensor i = s.tensor i := rfl
@[simp] theorem State.page_setKey (s : State) (n : Nat) (k : KeySlot) (i : Nat) : (s.setKey n k).page i = s.page i := rfl
@[simp] theorem State.allTasks_setKey (s : State) (n : Nat) (k : KeySlot) : (s.setKey n k).allTasks = s.allTasks := rfl
@[simp] theorem State.stackOf_setQueue (s : State) (n : Nat) (q : OpQueue) (i : Nat) : (s.setQueue n q).stackOf i = s.stackOf i := rfl
@[simp] theorem State.coreOf_setQueue (s : State) (n : Nat) (q : OpQueue) (i : Nat) : (s.setQueue n q).coreOf i = s.coreOf i := rfl
@[simp] theorem State.keyOf_setQueue (s : State) (n : Nat) (q : OpQueue) (i : Nat) : (s.setQueue n q).keyOf i = s.keyOf i := rfl
@[simp] theorem State.poolOf_setQueue (s : State) (n : Nat) (q : OpQueue) (i : Nat) : (s.setQueue n q).poolOf i = s.poolOf i := rfl
@[simp] theorem State.fnOf_setQueue (s : State) (n : Nat) (q : OpQueue) (i : Nat) : (s.setQueue n q).fnOf i = s.fnOf i := rfl
@[simp] theorem State.taskOf_setQueue (s : State) (n : Nat) (q : OpQueue) (i : Nat) : (s.setQueue n q).taskOf i = s.taskOf i := rfl
@[simp] theorem State.workOf_setQueue (s : State) (n : Nat) (q : OpQueue) (i : Nat) : (s.setQueue n q).workOf i = s.workOf i := rfl
@[simp] theorem State.copyOf_setQueue (s : State) (n : Nat) (q : OpQueue) (i : Nat) : (s.setQueue n q).copyOf i = s.copyOf i := rfl
@[simp] theorem State.tensor_setQueue (s : State) (n : Nat) (q : OpQueue) (i : Nat) : (s.setQueue n q).tensor i = s.tensor i := rfl
@[simp] theorem State.page_setQueue (s : State) (n : Nat) (q : OpQueue) (i : Nat) : (s.setQueue n q).page i = s.page i := rfl
@[simp] theorem State.allTasks_setQueue (s : State) (n : Nat) (q : OpQueue) : (s.setQueue n q).allTasks = s.allTasks := rfl
@[simp] theorem State.stackOf_setPool (s : State) (n : Nat) (p : PoolEnt) (i : Nat) : (s.setPool n p).stackOf i = s.stackOf i := rfl
@[simp] theorem State.coreOf_setPool (s : State) (n : Nat) (p : PoolEnt) (i : Nat) : (s.setPool n p).coreOf i = s.coreOf i := rfl
@[simp] theorem State.keyOf_setPool (s : State) (n : Nat) (p : PoolEnt) (i : Nat) : (s.setPool n p).keyOf i = s.keyOf i := rfl
@[simp] theorem State.queueOf_setPool (s : State) (n : Nat) (p : PoolEnt) (i : Nat) : (s.setPool n p).queueOf i = s.queueOf i := rfl
@[simp] theorem State.fnOf_setPool (s : State) (n : Nat) (p : PoolEnt) (i : Nat) : (s.setPool n p).fnOf i = s.fnOf i := rfl
@[simp] theorem State.taskOf_setPool (s : State) (n : Nat) (p : PoolEnt) (i : Nat) : (s.setPool n p).taskOf i = s.taskOf i := rfl
@[simp] theorem State.workOf_setPool (s : State) (n : Nat) (p : PoolEnt) (i : Nat) : (s.setPool n p).workOf i = s.workOf i := rfl
@[simp] theorem State.copyOf_setPool (s : State) (n : Nat) (p : PoolEnt) (i : Nat) : (s.setPool n p).copyOf i = s.copyOf i := rfl
@[simp] theorem State.tensor_setPool (s : State) (n : Nat) (p : PoolEnt) (i : Nat) : (s.setPool n p).tensor i = s.tensor i := rfl
@[simp] theorem State.page_setPool (s : State) (n : Nat) (p : PoolEnt) (i : Nat) : (s.setPool n p).page i = s.page i := rfl
@[simp] theorem State.allTasks_setPool (s : State) (n : Nat) (p : PoolEnt) : (s.setPool n p).allTasks = s.allTasks := rfl
@[simp] theorem State.stackOf_setFn (s : State) (n : Nat) (f : Fn) (i : Nat) : (s.setFn n f).stackOf i = s.stackOf i := rfl
@[simp] theorem State.coreOf_setFn (s : State) (n : Nat) (f : Fn) (i : Nat) : (s.setFn n f).coreOf i = s.coreOf i := rfl
@[simp] theorem State.keyOf_setFn (s : State) (n : Nat) (f : Fn) (i : Nat) : (s.setFn n f).keyOf i = s.keyOf i := rfl
@[simp] theorem State.queueOf_setFn (s : State) (n : Nat) (f : Fn) (i : Nat) : (s.setFn n f).queueOf i = s.queueOf i := rfl
@[simp] theorem State.poolOf_setFn (s : State) (n : Nat) (f : Fn) (i : Nat) : (s.setFn n f).poolOf i = s.poolOf i := rfl
@[simp] theorem State.taskOf_setFn (s : State) (n : Nat) (f : Fn) (i : Nat) : (s.setFn n f).taskOf i = s.taskOf i := rfl
@[simp] theorem State.workOf_setFn (s : State) (n : Nat) (f : Fn) (i : Nat) : (s.setFn n f).workOf i = s.workOf i := rfl
@[simp] theorem State.copyOf_setFn (s : State) (n : Nat) (f : Fn) (i : Nat) : (s.setFn n f).copyOf i = s.copyOf i := rfl
@[simp] theorem State.tensor_setFn (s : State) (n : Nat) (f : Fn) (i : Nat) : (s.setFn n f).tensor i = s.tensor i := rfl
@[simp] theorem State.page_setFn (s : State) (n : Nat) (f : Fn) (i : Nat) : (s.setFn n f).page i = s.page i := rfl
@[simp] theorem State.allTasks_setFn (s : State) (n : Nat) (f : Fn) : (s.setFn n f).allTasks = s.allTasks := rfl
@[simp] theorem State.stackOf_setTensor (s : State) (t : Tensor) (i : Nat) : (s.setTensor t).stackOf i = s.stackOf i := rfl
@[simp] theorem State.coreOf_setTensor (s : State) (t : Tensor) (i : Nat) : (s.setTensor t).coreOf i = s.coreOf i := rfl
@[simp] theorem State.keyOf_setTensor (s : State) (t : Tensor) (i : Nat) : (s.setTensor t).keyOf i = s.keyOf i := rfl
@[simp] theorem State.queueOf_setTensor (s : State) (t : Tensor) (i : Nat) : (s.setTensor t).queueOf i = s.queueOf i := rfl
@[simp] theorem State.poolOf_setTensor (s : State) (t : Tensor) (i : Nat) : (s.setTensor t).poolOf i = s.poolOf i := rfl
@[simp] theorem State.fnOf_setTensor (s : State) (t : Tensor) (i : Nat) : (s.setTensor t).fnOf i = s.fnOf i := rfl
@[simp] theorem State.taskOf_setTensor (s : State) (t : Tensor) (i : Nat) : (s.setTensor t).taskOf i = s.taskOf i := rfl
@[simp] theorem State.workOf_setTensor (s : State) (t : Tensor) (i : Nat) : (s.setTensor t).workOf i = s.workOf i := rfl
@[simp] theorem State.copyOf_setTensor (s : State) (t : Tensor) (i : Nat) : (s.setTensor t).copyOf i = s.copyOf i := rfl
@[simp] theorem State.page_setTensor (s : State) (t : Tensor) (i : Nat) : (s.setTensor t).page i = s.page i := rfl
@[simp] theorem State.allTasks_setTensor (s : State) (t : Tensor) : (s.setTensor t).allTasks = s.allTasks := rfl
@[simp] theorem State.stackOf_setPage (s : State) (e : Nat) (p : PageEnt) (i : Nat) : (s.setPage e p).stackOf i = s.stackOf i := rfl
@[simp] theorem State.coreOf_setPage (s : State) (e : Nat) (p : PageEnt) (i : Nat) : (s.setPage e p).coreOf i = s.coreOf i := rfl
@[simp] theorem State.keyOf_setPage (s : State) (e : Nat) (p : PageEnt) (i : Nat) : (s.setPage e p).keyOf i = s.keyOf i := rfl
@[simp] theorem State.queueOf_setPage (s : State) (e : Nat) (p : PageEnt) (i : Nat) : (s.setPage e p).queueOf i = s.queueOf i := rfl
@[simp] theorem State.poolOf_setPage (s : State) (e : Nat) (p : PageEnt) (i : Nat) : (s.setPage e p).poolOf i = s.poolOf i := rfl
@[simp] theorem State.fnOf_setPage (s : State) (e : Nat) (p : PageEnt) (i : Nat) : (s.setPage e p).fnOf i = s.fnOf i := rfl
@[simp] theorem State.taskOf_setPage (s : State) (e : Nat) (p : PageEnt) (i : Nat) : (s.setPage e p).taskOf i = s.taskOf i := rfl
@[simp] theorem State.workOf_setPage (s : State) (e : Nat) (p : PageEnt) (i : Nat) : (s.setPage e p).workOf i = s.workOf i := rfl
@[simp] theorem State.copyOf_setPage (s : State) (e : Nat) (p : PageEnt) (i : Nat) : (s.setPage e p).copyOf i = s.copyOf i := rfl
@[simp] theorem State.tensor_setPage (s : State) (e : Nat) (p : PageEnt) (i : Nat) : (s.setPage e p).tensor i = s.tensor i := rfl
@[simp] theorem State.allTasks_setPage (s : State) (e : Nat) (p : PageEnt) : (s.setPage e p).allTasks = s.allTasks := rfl
@[simp] theorem State.stackOf_setWork (s : State) (w : Work) (i : Nat) : (s.setWork w).stackOf i = s.stackOf i := rfl
@[simp] theorem State.coreOf_setWork (s : State) (w : Work) (i : Nat) : (s.setWork w).coreOf i = s.coreOf i := rfl
@[simp] theorem State.keyOf_setWork (s : State) (w : Work) (i : Nat) : (s.setWork w).keyOf i = s.keyOf i := rfl
@[simp] theorem State.queueOf_setWork (s : State) (w : Work) (i : Nat) : (s.setWork w).queueOf i = s.queueOf i := rfl
@[simp] theorem State.poolOf_setWork (s : State) (w : Work) (i : Nat) : (s.setWork w).poolOf i = s.poolOf i := rfl
@[simp] theorem State.fnOf_setWork (s : State) (w : Work) (i : Nat) : (s.setWork w).fnOf i = s.fnOf i := rfl
@[simp] theorem State.taskOf_setWork (s : State) (w : Work) (i : Nat) : (s.setWork w).taskOf i = s.taskOf i := rfl
@[simp] theorem State.copyOf_setWork (s : State) (w : Work) (i : Nat) : (s.setWork w).copyOf i = s.copyOf i := rfl
@[simp] theorem State.tensor_setWork (s : State) (w : Work) (i : Nat) : (s.setWork w).tensor i = s.tensor i := rfl
@[simp] theorem State.page_setWork (s : State) (w : Work) (i : Nat) : (s.setWork w).page i = s.page i := rfl
@[simp] theorem State.allTasks_setWork (s : State) (w : Work) : (s.setWork w).allTasks = s.allTasks := rfl
@[simp] theorem State.stackOf_setCopy (s : State) (c : Copy) (i : Nat) : (s.setCopy c).stackOf i = s.stackOf i := rfl
@[simp] theorem State.coreOf_setCopy (s : State) (c : Copy) (i : Nat) : (s.setCopy c).coreOf i = s.coreOf i := rfl
@[simp] theorem State.keyOf_setCopy (s : State) (c : Copy) (i : Nat) : (s.setCopy c).keyOf i = s.keyOf i := rfl
@[simp] theorem State.queueOf_setCopy (s : State) (c : Copy) (i : Nat) : (s.setCopy c).queueOf i = s.queueOf i := rfl
@[simp] theorem State.poolOf_setCopy (s : State) (c : Copy) (i : Nat) : (s.setCopy c).poolOf i = s.poolOf i := rfl
@[simp] theorem State.fnOf_setCopy (s : State) (c : Copy) (i : Nat) : (s.setCopy c).fnOf i = s.fnOf i := rfl
@[simp] theorem State.taskOf_setCopy (s : State) (c : Copy) (i : Nat) : (s.setCopy c).taskOf i = s.taskOf i := rfl
@[simp] theorem State.workOf_setCopy (s : State) (c : Copy) (i : Nat) : (s.setCopy c).workOf i = s.workOf i := rfl
@[simp] theorem State.tensor_setCopy (s : State) (c : Copy) (i : Nat) : (s.setCopy c).tensor i = s.tensor i := rfl
@[simp] theorem State.page_setCopy (s : State) (c : Copy) (i : Nat) : (s.setCopy c).page i = s.page i := rfl
@[simp] theorem State.allTasks_setCopy (s : State) (c : Copy) : (s.setCopy c).allTasks = s.allTasks := rfl
@[simp] theorem State.stackOf_arch (s : State) (f : Arch → Arch) (i : Nat) : (s.arch f).stackOf i = s.stackOf i := rfl
@[simp] theorem State.coreOf_arch (s : State) (f : Arch → Arch) (i : Nat) : (s.arch f).coreOf i = s.coreOf i := rfl
@[simp] theorem State.keyOf_arch (s : State) (f : Arch → Arch) (i : Nat) : (s.arch f).keyOf i = s.keyOf i := rfl
@[simp] theorem State.queueOf_arch (s : State) (f : Arch → Arch) (i : Nat) : (s.arch f).queueOf i = s.queueOf i := rfl
@[simp] theorem State.poolOf_arch (s : State) (f : Arch → Arch) (i : Nat) : (s.arch f).poolOf i = s.poolOf i := rfl
@[simp] theorem State.fnOf_arch (s : State) (f : Arch → Arch) (i : Nat) : (s.arch f).fnOf i = s.fnOf i := rfl
@[simp] theorem State.workOf_arch (s : State) (f : Arch → Arch) (i : Nat) : (s.arch f).workOf i = s.workOf i := rfl
@[simp] theorem State.copyOf_arch (s : State) (f : Arch → Arch) (i : Nat) : (s.arch f).copyOf i = s.copyOf i := rfl
@[simp] theorem State.tensor_arch (s : State) (f : Arch → Arch) (i : Nat) : (s.arch f).tensor i = s.tensor i := rfl
@[simp] theorem State.page_arch (s : State) (f : Arch → Arch) (i : Nat) : (s.arch f).page i = s.page i := rfl
@[simp] theorem State.stackOf_used (s : State) (i : Nat) : s.used.stackOf i = s.stackOf i := rfl
@[simp] theorem State.coreOf_used (s : State) (i : Nat) : s.used.coreOf i = s.coreOf i := rfl
@[simp] theorem State.keyOf_used (s : State) (i : Nat) : s.used.keyOf i = s.keyOf i := rfl
@[simp] theorem State.queueOf_used (s : State) (i : Nat) : s.used.queueOf i = s.queueOf i := rfl
@[simp] theorem State.poolOf_used (s : State) (i : Nat) : s.used.poolOf i = s.poolOf i := rfl
@[simp] theorem State.fnOf_used (s : State) (i : Nat) : s.used.fnOf i = s.fnOf i := rfl
@[simp] theorem State.taskOf_used (s : State) (i : Nat) : s.used.taskOf i = s.taskOf i := rfl
@[simp] theorem State.workOf_used (s : State) (i : Nat) : s.used.workOf i = s.workOf i := rfl
@[simp] theorem State.copyOf_used (s : State) (i : Nat) : s.used.copyOf i = s.copyOf i := rfl
@[simp] theorem State.tensor_used (s : State) (i : Nat) : s.used.tensor i = s.tensor i := rfl
@[simp] theorem State.page_used (s : State) (i : Nat) : s.used.page i = s.page i := rfl
@[simp] theorem State.allTasks_used (s : State) : s.used.allTasks = s.allTasks := rfl
@[simp] theorem State.stackOf_marked (s : State) (i : Nat) : s.marked.stackOf i = s.stackOf i := rfl
@[simp] theorem State.coreOf_marked (s : State) (i : Nat) : s.marked.coreOf i = s.coreOf i := rfl
@[simp] theorem State.keyOf_marked (s : State) (i : Nat) : s.marked.keyOf i = s.keyOf i := rfl
@[simp] theorem State.queueOf_marked (s : State) (i : Nat) : s.marked.queueOf i = s.queueOf i := rfl
@[simp] theorem State.poolOf_marked (s : State) (i : Nat) : s.marked.poolOf i = s.poolOf i := rfl
@[simp] theorem State.fnOf_marked (s : State) (i : Nat) : s.marked.fnOf i = s.fnOf i := rfl
@[simp] theorem State.taskOf_marked (s : State) (i : Nat) : s.marked.taskOf i = s.taskOf i := rfl
@[simp] theorem State.workOf_marked (s : State) (i : Nat) : s.marked.workOf i = s.workOf i := rfl
@[simp] theorem State.copyOf_marked (s : State) (i : Nat) : s.marked.copyOf i = s.copyOf i := rfl
@[simp] theorem State.tensor_marked (s : State) (i : Nat) : s.marked.tensor i = s.tensor i := rfl
@[simp] theorem State.page_marked (s : State) (i : Nat) : s.marked.page i = s.page i := rfl
@[simp] theorem State.allTasks_marked (s : State) : s.marked.allTasks = s.allTasks := rfl

end Sys2Proof.Machine
end

