-- ==== Sys2Proof/Tests/Slice0.lean ====
section
/-! SUPPORT. Tests against the tables and examples of the manual, and for every statement with premises a state and operands that
meet them. -/

namespace Sys2Proof.Tests
open Sys2Proof.Machine
set_option Elab.async false

/-! The checks of well-formedness: for every kind of check a term that breaks it and nothing else. -/

def on : Guard := ⟨false, 0⟩
def off : Guard := ⟨true, 0⟩
def v0 (et : ET) : VMode := ⟨.w1024, 0, et, false⟩
def f0 : FMode := ⟨.w1024, 0, false, false⟩

theorem test_wf_scalar_refuses : ([.add ⟨false, 16⟩ 1 2 3, .add on 64 2 3, .add on 1 64 3, .add on 1 2 64, .sel on 1 16 2 3,
    .cmp on .eq 16 1 2, .addi on 1 2 16384, .addi on 1 2 (-16385), .andi on 1 2 32768, .shli on 1 2 64, .cmpi on .eq 1 2 1024,
    .cmpi on .eq 1 2 (-1025), .ldi on 1 1048576, .ldi on 1 (-1048577), .ldih on 1 2097152, .lea on 1 2 2048 0, .lea on 1 2 0 8,
    .fma on 1 2 3 64, .fcmp on .eq 16 1 2, .fcvt on .i8 .fp32 1 2, .fcvt on .fp32 .e4m3 1 2, .qop on 16 1 2 0, .qop on 1 16 2 0,
    .qop on 1 2 16 0, .qop on 1 2 3 16, .qmov on 16 1, .movq on 64, .br on 1048576, .br on (-1048577), .call on 1048576, .jr on 64] : List Instr).all
    (fun i => !i.wf) = true := by decide +kernel

theorem test_wf_control_refuses : ([.loop 64 1 0 1 0 false, .loop 1 0 0 1 0 false, .loop 1 65 0 1 0 false, .loop 1 1 6 1 0 false,
    .loop 1 1 0 0 0 false, .loop 1 1 0 9 0 false, .loop 1 1 0 1 256 false, .ret ⟨false, 16⟩, .lbrk ⟨false, 16⟩, .rot ⟨true, 16⟩,
    .yld 16 0, .yld 0 1048576, .endTask ⟨false, 16⟩, .trap on 32768, .bgrd on 64 .bgi, .bgtop on 64 1, .bggive on 1 64 true, .estm on 64,
    .time on 64, .cyc on 64 .m, .srd on 1 0x004, .srd on 1 4096, .swr on 1 0x008, .swr on 1 0x01B, .swr on 64 0x000, .lnch on 1 16 2,
    .ljoin on 16 1, .enq on 16 1 2, .ddec on 64, .hint on 64 0, .hint on 0 32768, .seqf on 1 16 2, .seqe on 64, .tgrow on 16 1 2,
    .tdef on 1 16 2, .tfree on 16] : List Instr).all (fun i => !i.wf) = true := by decide +kernel

theorem test_wf_vector_refuses : ([.vadd ⟨.w256, 16, .i8, false⟩ 1 2 3, .vadd (v0 .i8) 512 2 3, .vadd (v0 .i8) 1 512 3,
    .vadd (v0 .i8) 1 2 512, .vadd (v0 .e4m3) 1 2 3, .vmulh (v0 .fp32) 1 2 3, .vfma (v0 .i32) 1 2 3, .vfma (v0 .e5m2) 1 2 3,
    .vcmp .w256 16 .i8 .eq 1 2 3, .vcmp .w256 0 .i8 .un 1 2 3, .vcmp .w256 0 .e4m3 .eq 1 2 3, .vcmp .w256 0 .i8 .eq 16 2 3,
    .vsel .w256 16 .i8 1 2 3, .vclass (v0 .i8) 1 2, .vpack (v0 .i64) 1 2 3, .vpack (v0 .fp32) 1 2 3, .vunpk (v0 .n64) 1 2 true,
    .vscl (v0 .fp32) 1 2 64, .vaddi (v0 .i8) 1 2 256, .vaddi (v0 .i8) 1 2 (-257), .vaddi (v0 .bf16) 1 2 0, .vshli (v0 .i8) 1 2 128,
    .vbc (v0 .i8) 1 64, .vldi (v0 .fp16) 1 0, .vext (v0 .i8) 64 1 2, .vins (v0 .i8) 1 64 2, .viota (v0 .fp32) 1,
    .vradd (v0 .e4m3) 1 2, .pand 16 1 2, .pnot 1 16, .pfirst .w256 .i8 16 1, .pcnt .w256 .i8 64 1, .plen .w256 .i8 1 64,
    .vpln (v0 .i8) 1 2 9, .vpln (v0 .i8) 1 2 1, .vpln (v0 .i8) 1 2 16, .vupln (v0 .i16) 1 2 8, .vpln ⟨.w256, 0, .i8, false⟩ 1 2 4,
    .vbsc (v0 .i8) 1 2, .vpop (v0 .i8) 1 8, .fexp2 ⟨.w256, 16, false, false⟩ 1 2, .fgelu f0 512 2, .fsin f0 1 512] : List Instr).all
    (fun i => !i.wf) = true := by decide +kernel

theorem test_wf_matrix_copy_refuses : ([.mma 8 0 0 1, .mma 0 16 0 1, .mmaz 0 0 16 1, .mmaw 0 0 0 128, .mmag 0 0 0 0,
    .mdrn 8 0 .fp32 false none none, .mdrn 0 8 .fp32 false none none, .mdrn 0 0 .fp32 false (some 32) none,
    .mdrn 0 0 .fp32 false (some (-33)) none, .mdrn 0 0 .fp32 false none (some 16), .mzero 8, .mdld 16 0, .mdld 0 134217728, .mwait 8,
    .mnest 0 134217728, .mqset 8 0, .mqset 0 65, .ldv on 512 1 0, .ldv on 1 1 512, .lds on 1 1 2048, .ldsGlobal on 1 16 1 none,
    .ldsGlobal on 1 1 1 (some 8), .sts on 1 1 2048, .ldvx on 1 1 512, .ldp on 16 1 0, .stp on 1 64 0, .cpin on 16 1 2 3 none,
    .cpout on 1 16 2 3 none, .cpmc on 1 1 64 3 none, .cpga on 1 1 2 64 none, .cpsc on 1 1 2 3 (some 8), .cpqo on 1 1 2 8 none,
    .cpqf on 1 2 8, .wdld on 1 2 16384, .wdld on 16 2 0, .waitk on 16, .testk on 16 1, .waitkx ⟨false, 16⟩ 1, .krel on 16,
    .ldg on 16 .b4 1 2 none, .amo on 1 .add 64 2 .core, .amoc on 1 .b8 1 3 .core, .amoc on 1 .b8 1 64 .core, .fence on .core 256 false,
    .binit on 1 0, .binit on 1 16384, .barv on 16 1, .bwait on 16, .bexp on 1 64, .gbar on 1 8, .gbar on 16 1, .cflush on 1 16 2 3] : List Instr).all
    (fun i => !i.wf) = true := by decide +kernel

theorem test_wf_accepts : ([.add ⟨true, 15⟩ 63 63 63, .addi on 1 2 (-16384), .addi on 1 2 16383, .loop 63 64 5 8 255 true, .yld 15 (-1048576),
    .swr on 1 0x046, .vadd (v0 .fp32) 511 511 511, .vcmp .w256 15 .i8 .ge 15 511 511, .vupln (v0 .i16) 1 2 16, .mma 7 15 15 127,
    .mdrn 7 7 .i8 true (some (-32)) (some 15), .mqset 7 64, .amoc on 1 .b4 1 62 .system, .binit on 15 16383, .gbar on 15 7] : List Instr).all
    (fun i => i.wf) = true := by decide +kernel

/-! Words written out from the tables of R94 to R108. One word for every slot operation: its fields at their bit places. -/

/-- The formats SR, SI, SL and SB of R94. -/
def sr (op gn q sd sa sb fn : Nat) : Nat := op * 2 ^ 32 + gn * 2 ^ 31 + q * 2 ^ 27 + sd * 2 ^ 21 + sa * 2 ^ 15 + sb * 2 ^ 9 + fn
def si (op gn q sd sa imm : Nat) : Nat := op * 2 ^ 32 + gn * 2 ^ 31 + q * 2 ^ 27 + sd * 2 ^ 21 + sa * 2 ^ 15 + imm
def sl (op gn q sd imm : Nat) : Nat := op * 2 ^ 32 + gn * 2 ^ 31 + q * 2 ^ 27 + sd * 2 ^ 21 + imm
/-- The layouts of the vector slots (R99), of F (R101) and of M (R102). -/
def vw (op w pg et vd va vb md : Nat) : Nat :=
  op * 2 ^ 39 + w * 2 ^ 37 + pg * 2 ^ 33 + et * 2 ^ 29 + vd * 2 ^ 20 + va * 2 ^ 11 + vb * 2 ^ 2 + md
def fw (op w pg et vd va md : Nat) : Nat := op * 2 ^ 26 + w * 2 ^ 24 + pg * 2 ^ 20 + et * 2 ^ 19 + vd * 2 ^ 10 + va * 2 + md
def mw (op ta da db kb rq mf : Nat) : Nat := op * 2 ^ 34 + ta * 2 ^ 31 + da * 2 ^ 27 + db * 2 ^ 23 + kb * 2 ^ 16 + rq * 2 ^ 13 + mf
/-- The formats CA, CV, CS and CB of R104. -/
def ca (op q gn h k sa sb cls cn : Nat) : Nat :=
  op * 2 ^ 29 + q * 2 ^ 25 + gn * 2 ^ 24 + h * 2 ^ 20 + k * 2 ^ 16 + sa * 2 ^ 10 + sb * 2 ^ 4 + cls * 2 + cn
def cv (op q gn vd sa imm : Nat) : Nat := op * 2 ^ 29 + q * 2 ^ 25 + gn * 2 ^ 24 + vd * 2 ^ 15 + sa * 2 ^ 9 + imm
def cs (op q gn sd sa imm : Nat) : Nat := op * 2 ^ 29 + q * 2 ^ 25 + gn * 2 ^ 24 + sd * 2 ^ 18 + sa * 2 ^ 12 + imm
def cb (op q gn k sa imm : Nat) : Nat := op * 2 ^ 29 + q * 2 ^ 25 + gn * 2 ^ 24 + k * 2 ^ 20 + sa * 2 ^ 14 + imm

/-- Every word decodes in the slot to the operation beside it. -/
def reads (x : Slot) (l : List (Nat × Instr)) : Bool := l.all fun p => (decodeSlot x p.1).toOption == some p.2
/-- No word decodes in the slot. -/
def illegal (x : Slot) (l : List Nat) : Bool := l.all fun w => (decodeSlot x w).toOption == none

def g5 : Guard := ⟨true, 5⟩

theorem test_decode_scalar : reads .s1 [(sr 0x01 1 5 3 1 2 0, .add g5 3 1 2), (sr 0x02 1 5 3 1 2 0, .sub g5 3 1 2),
    (sr 0x03 1 5 3 1 2 0, .mul g5 3 1 2), (sr 0x04 1 5 3 1 2 0, .mulh g5 3 1 2), (sr 0x05 1 5 3 1 2 0, .div g5 3 1 2),
    (sr 0x06 1 5 3 1 2 0, .rem g5 3 1 2), (sr 0x07 1 5 3 1 2 0, .min g5 3 1 2), (sr 0x08 1 5 3 1 2 0, .max g5 3 1 2),
    (sr 0x09 1 5 3 1 2 0, .and g5 3 1 2), (sr 0x0A 1 5 3 1 2 0, .or g5 3 1 2), (sr 0x0B 1 5 3 1 2 0, .xor g5 3 1 2),
    (sr 0x0C 1 5 3 1 2 0, .andn g5 3 1 2), (sr 0x0D 1 5 3 1 2 0, .shl g5 3 1 2), (sr 0x0E 1 5 3 1 2 0, .shr g5 3 1 2),
    (sr 0x0F 1 5 3 1 2 0, .sra g5 3 1 2), (sr 0x10 1 5 3 1 2 0, .rol g5 3 1 2), (sr 0x11 1 5 3 1 0 0, .clz g5 3 1),
    (sr 0x12 1 5 3 1 0 0, .ctz g5 3 1), (sr 0x13 1 5 3 1 0 0, .popc g5 3 1), (sr 0x14 1 5 3 1 2 0, .bfx g5 3 1 2),
    (sr 0x15 1 5 3 1 2 0, .bfi g5 3 1 2), (sr 0x16 1 5 3 1 2 9, .sel g5 3 9 1 2), (sr 0x17 1 5 3 1 2 9, .cmp g5 .geu 3 1 2),
    (si 0x20 1 5 3 1 0x7FFF, .addi g5 3 1 (-1)), (si 0x21 1 5 3 1 0x4000, .muli g5 3 1 (-16384)), (si 0x22 1 5 3 1 0x7FFF, .andi g5 3 1 32767),
    (si 0x23 1 5 3 1 5, .ori g5 3 1 5), (si 0x24 1 5 3 1 5, .xori g5 3 1 5), (si 0x25 1 5 3 1 63, .shli g5 3 1 63),
    (si 0x26 1 5 3 1 63, .shri g5 3 1 63), (si 0x27 1 5 3 1 63, .srai g5 3 1 63), (si 0x28 1 5 3 1 (2 * 2 ^ 11 + 0x7FF), .cmpi g5 .lt 3 1 (-1)),
    (sl 0x29 1 5 3 0x1FFFFF, .ldi g5 3 (-1)), (sl 0x2A 1 5 3 0x1FFFFF, .ldih g5 3 2097151), (si 0x2B 1 5 3 1 (3 * 2 ^ 12 + 0xFFF), .lea g5 3 1 (-1) 3),
    (sr 0x30 1 5 3 1 2 0, .fadd g5 3 1 2), (sr 0x31 1 5 3 1 2 0, .fsub g5 3 1 2), (sr 0x32 1 5 3 1 2 0, .fmul g5 3 1 2),
    (sr 0x33 1 5 3 1 2 61, .fma g5 3 1 2 61), (sr 0x34 1 5 3 1 2 0, .fmin g5 3 1 2), (sr 0x35 1 5 3 1 2 0, .fmax g5 3 1 2),
    (sr 0x36 1 5 3 1 2 6, .fcmp g5 .un 3 1 2), (sr 0x37 1 5 3 1 0 (10 * 16 + 3), .fcvt g5 .fp32 .i64 3 1), (sr 0x3C 1 5 3 1 2 6, .qop g5 3 1 2 6),
    (sr 0x3D 1 5 3 1 0 0, .qmov g5 3 1), (sr 0x3E 1 5 3 0 0 0, .movq g5 3), (0, .nop)] = true := by decide +kernel

theorem test_decode_control : reads .s0 [(sl 0x40 1 5 0 0x1FFFFF, .br g5 (-1)), (sl 0x42 1 5 0 7, .call g5 7), (sr 0x43 1 5 0 0 0 0, .ret g5),
    (sr 0x44 1 5 0 9 0 0, .jr g5 9), (0x45 * 2 ^ 32 + 9 * 2 ^ 21 + 63 * 2 ^ 15 + 5 * 2 ^ 12 + 7 * 2 ^ 9 + 255 * 2 + 1, .loop 9 64 5 8 255 true),
    (sr 0x47 1 5 0 0 0 0, .lbrk g5), (sr 0x48 1 5 0 0 0 0, .rot g5)] = true := by decide +kernel

theorem test_decode_system : reads .s1 [(sl 0x60 0 0 15 0x1FFFFF, .yld 15 (-1)), (sr 0x61 1 5 0 0 0 0, .endTask g5), (si 0x62 1 5 0 0 0x7FFF, .trap g5 32767),
    (sr 0x63 0 0 0 0 0 0, .retc), (sr 0x64 1 5 3 0 0 3, .bgrd g5 3 .span), (sr 0x65 1 5 0 1 2 0, .bgtop g5 1 2), (sr 0x66 1 5 0 1 2 1, .bggive g5 1 2 true),
    (sr 0x67 1 5 0 1 0 0, .estm g5 1), (sr 0x68 1 5 3 0 0 0, .time g5 3), (sr 0x69 1 5 3 0 0 2, .cyc g5 3 .k0), (si 0x6A 1 5 3 0 0x01B, .srd g5 3 0x01B),
    (si 0x6B 1 5 0 1 0x046, .swr g5 1 0x046), (sr 0x6C 1 5 3 1 0 7, .lnch g5 3 7 1), (sr 0x6D 1 5 0 1 0 7, .ljoin g5 7 1), (sr 0x6E 1 5 0 1 2 7, .enq g5 7 1 2),
    (sr 0x6F 1 5 0 1 0 0, .ddec g5 1), (si 0x70 1 5 0 1 0x7FFF, .hint g5 1 32767), (sr 0x71 1 5 3 1 0 7, .seqf g5 3 7 1), (sr 0x72 1 5 0 1 0 0, .seqe g5 1),
    (sr 0x73 1 5 0 1 0 (7 * 16 + 12), .tgrow g5 12 7 1), (sr 0x74 1 5 0 1 0 (7 * 16 + 12), .tdef g5 12 7 1), (sr 0x75 1 5 0 0 0 12, .tfree g5 12)] = true := by
  decide +kernel

/-- W 512 bits, p3, zeroing. -/
def vm (et : ET) : VMode := ⟨.w512, 3, et, true⟩
theorem test_decode_vector : reads .v1 [(vw 0x001 1 3 0 300 301 302 1, .vadd (vm .i8) 300 301 302), (vw 0x002 1 3 10 300 301 302 1, .vsub (vm .fp32) 300 301 302),
    (vw 0x003 1 3 7 300 301 302 1, .vmul (vm .n64) 300 301 302), (vw 0x004 1 3 1 300 301 302 1, .vmulh (vm .i16) 300 301 302),
    (vw 0x005 1 3 9 300 301 302 1, .vfma (vm .fp16) 300 301 302), (vw 0x006 1 3 8 300 301 302 1, .vfms (vm .bf16) 300 301 302),
    (vw 0x007 1 3 4 300 301 302 1, .vmin (vm .n8) 300 301 302), (vw 0x008 1 3 5 300 301 302 1, .vmax (vm .n16) 300 301 302),
    (vw 0x009 1 3 6 300 301 0 1, .vabs (vm .n32) 300 301), (vw 0x00A 1 3 2 300 301 0 1, .vneg (vm .i32) 300 301),
    (vw 0x00B 1 3 3 300 301 302 1, .vadds (vm .i64) 300 301 302), (vw 0x00C 1 3 0 300 301 302 1, .vsubs (vm .i8) 300 301 302),
    (vw 0x00D 1 3 0 300 301 302 1, .vavg (vm .i8) 300 301 302), (vw 0x010 1 3 11 300 301 302 1, .vand (vm .e4m3) 300 301 302),
    (vw 0x011 1 3 12 300 301 302 1, .vor (vm .e5m2) 300 301 302), (vw 0x012 1 3 0 300 301 302 1, .vxor (vm .i8) 300 301 302),
    (vw 0x013 1 3 0 300 301 302 1, .vandn (vm .i8) 300 301 302), (vw 0x014 1 3 0 300 301 0 1, .vnot (vm .i8) 300 301),
    (vw 0x015 1 3 0 300 301 302 1, .vshl (vm .i8) 300 301 302), (vw 0x016 1 3 0 300 301 302 1, .vshr (vm .i8) 300 301 302),
    (vw 0x017 1 3 0 300 301 302 1, .vsra (vm .i8) 300 301 302), (vw 0x018 1 3 0 300 301 0 1, .vclz (vm .i8) 300 301),
    (vw 0x019 1 3 0 300 301 0 1, .vpopc (vm .i8) 300 301), (vw 0x020 1 3 10 (7 * 16 + 15) 301 302 0, .vcmp .w512 3 .fp32 .or 15 301 302),
    (vw 0x021 1 3 12 300 301 302 0, .vsel .w512 3 .e5m2 300 301 302), (vw 0x022 1 3 10 300 301 0 1, .vclass (vm .fp32) 300 301),
    (vw 0x030 1 3 10 300 301 (11 * 32) 1, .vcvt (vm .fp32) .e4m3 300 301), (vw 0x031 1 3 0 300 301 (10 * 32) 1, .vcvts (vm .i8) .fp32 300 301),
    (vw 0x032 1 3 0 300 301 302 1, .vpack (vm .i8) 300 301 302), (vw 0x033 1 3 0 300 301 1 1, .vunpk (vm .i8) 300 301 true),
    (vw 0x034 1 3 10 300 301 63 1, .vscl (vm .fp32) 300 301 63), (vw 0x035 1 3 10 300 301 0 1, .vrnd (vm .fp32) 300 301),
    (vw 0x040 1 3 0 300 301 0x1FF 1, .vaddi (vm .i8) 300 301 (-1)), (vw 0x041 1 3 0 300 301 0x0FF 1, .vmuli (vm .i8) 300 301 255),
    (vw 0x042 1 3 0 300 301 127 1, .vshli (vm .i8) 300 301 127), (vw 0x043 1 3 0 300 301 1 1, .vshri (vm .i8) 300 301 1),
    (vw 0x044 1 3 0 300 301 1 1, .vsrai (vm .i8) 300 301 1), (vw 0x045 1 3 0 300 301 0x100 1, .vandi (vm .i8) 300 301 (-256)),
    (vw 0x046 1 3 0 300 0 63 1, .vbc (vm .i8) 300 63), (vw 0x047 1 3 0 300 0 0x1FF 1, .vldi (vm .i8) 300 (-1)),
    (vw 0x050 1 3 0 300 301 302 1, .vperm (vm .i8) 300 301 302), (vw 0x051 1 3 0 300 301 63 1, .vrot (vm .i8) 300 301 63),
    (vw 0x052 1 3 0 300 301 63 1, .vsld (vm .i8) 300 301 63), (vw 0x053 1 3 0 62 301 63 1, .vext (vm .i8) 62 301 63),
    (vw 0x054 1 3 0 300 62 63 1, .vins (vm .i8) 300 62 63), (vw 0x055 1 3 0 300 0 0 1, .viota (vm .i8) 300), (vw 0x056 1 3 0 300 301 0 1, .vcmpr (vm .i8) 300 301),
    (vw 0x057 1 3 0 300 301 0 1, .vxpnd (vm .i8) 300 301), (vw 0x060 1 3 0 300 301 0 1, .vradd (vm .i8) 300 301), (vw 0x061 1 3 0 300 301 0 1, .vrmax (vm .i8) 300 301),
    (vw 0x062 1 3 0 300 301 0 1, .vrmin (vm .i8) 300 301), (vw 0x064 1 3 0 300 301 302 1, .vdot (vm .i8) 300 301 302), (vw 0x070 0 0 0 15 14 13 0, .pand 15 14 13),
    (vw 0x071 0 0 0 15 14 13 0, .por 15 14 13), (vw 0x072 0 0 0 15 14 13 0, .pxor 15 14 13), (vw 0x073 0 0 0 15 14 0 0, .pnot 15 14),
    (vw 0x074 1 0 2 15 14 0 0, .pfirst .w512 .i32 15 14), (vw 0x075 1 0 2 62 14 0 0, .pcnt .w512 .i32 62 14), (vw 0x076 1 0 2 15 0 63 0, .plen .w512 .i32 15 63),
    (vw 0x080 1 3 0 300 301 8 1, .vpln (vm .i8) 300 301 8), (vw 0x081 2 3 1 300 301 16 1, .vupln ⟨.w1024, 3, .i16, true⟩ 300 301 16),
    (vw 0x082 1 3 10 300 301 0 1, .vbsc (vm .fp32) 300 301), (vw 0x090 1 3 0 300 7 0 1, .vpop (vm .i8) 300 7)] = true := by decide +kernel

theorem test_decode_special : reads .f [(fw 0x01 1 3 1 300 301 1, .fexp2 ⟨.w512, 3, true, true⟩ 300 301), (fw 0x02 1 3 1 300 301 1, .fexp ⟨.w512, 3, true, true⟩ 300 301),
    (fw 0x03 1 3 1 300 301 1, .flog2 ⟨.w512, 3, true, true⟩ 300 301), (fw 0x04 1 3 1 300 301 1, .fln ⟨.w512, 3, true, true⟩ 300 301),
    (fw 0x05 1 3 1 300 301 1, .frcp ⟨.w512, 3, true, true⟩ 300 301), (fw 0x06 1 3 1 300 301 1, .frsq ⟨.w512, 3, true, true⟩ 300 301),
    (fw 0x07 1 3 1 300 301 1, .fsqrt ⟨.w512, 3, true, true⟩ 300 301), (fw 0x08 1 3 1 300 301 1, .ftanh ⟨.w512, 3, true, true⟩ 300 301),
    (fw 0x09 1 3 1 300 301 1, .fsigm ⟨.w512, 3, true, true⟩ 300 301), (fw 0x0A 1 3 1 300 301 1, .ferf ⟨.w512, 3, true, true⟩ 300 301),
    (fw 0x0B 1 3 1 300 301 1, .fsin ⟨.w512, 3, true, true⟩ 300 301), (fw 0x0C 1 3 1 300 301 1, .fcos ⟨.w512, 3, true, true⟩ 300 301),
    (fw 0x0D 2 0 0 511 0 0, .fgelu ⟨.w1024, 0, false, false⟩ 511 0)] = true := by decide +kernel

theorem test_decode_matrix : reads .m [(mw 0x01 7 14 13 127 0 0, .mma 7 14 13 127), (mw 0x02 7 14 13 1 0 0, .mmaz 7 14 13 1), (mw 0x03 7 14 13 1 0 0, .mmaw 7 14 13 1),
    (mw 0x04 7 14 13 1 0 0, .mmag 7 14 13 1), (mw 0x05 7 14 0 0 6 (6 * 2 ^ 9 + 2 ^ 8 + 2 ^ 7 + 32 * 2 + 1), .mdrn 7 6 .i8 true (some (-32)) (some 14)),
    (mw 0x05 7 0 0 0 6 (1 * 2 ^ 9), .mdrn 7 6 .bf16 false none none), (mw 0x06 7 0 0 0 0 0, .mzero 7), (0x07 * 2 ^ 34 + 14 * 2 ^ 27 + 134217727, .mdld 14 134217727),
    (mw 0x08 7 0 0 0 0 0, .mwait 7), (0x09 * 2 ^ 34 + 14 * 2 ^ 27 + 3, .mnest 14 3), (mw 0x0A 0 0 0 0 6 64, .mqset 6 64)] = true := by decide +kernel

theorem test_decode_copy : reads .c1 [(cv 0x01 5 1 300 9 511, .ldv g5 300 9 511), (cv 0x02 5 1 300 9 511, .stv g5 300 9 511), (cs 0x03 5 1 62 9 2047, .lds g5 62 9 2047),
    (cs 0x03 5 1 62 9 (2 ^ 11 + 12 * 2 ^ 7 + 7 * 2 ^ 4 + 2 ^ 3), .ldsGlobal g5 62 12 9 (some 7)), (cs 0x04 5 1 62 9 2047, .sts g5 62 9 2047),
    (cv 0x05 5 1 300 9 301, .ldvx g5 300 9 301), (cv 0x06 5 1 300 9 301, .stvx g5 300 9 301), (cv 0x07 5 1 15 9 511, .ldp g5 15 9 511), (cv 0x08 5 1 15 9 511, .stp g5 15 9 511),
    (ca 0x10 5 1 12 11 9 8 7 1, .cpin g5 12 11 9 8 (some 7)), (ca 0x11 5 1 12 11 9 8 0 0, .cpout g5 12 11 9 8 none), (ca 0x12 5 1 12 11 9 8 7 1, .cpmc g5 12 11 9 8 (some 7)),
    (ca 0x13 5 1 12 11 9 8 7 1, .cpga g5 12 11 9 8 (some 7)), (ca 0x14 5 1 12 11 9 8 7 1, .cpsc g5 12 11 9 8 (some 7)), (ca 0x15 5 1 12 11 9 8 7 1, .cpxf g5 12 11 9 8 (some 7)),
    (ca 0x16 5 1 12 11 9 (7 * 8) 7 1, .cpqo g5 12 11 9 7 (some 7)), (ca 0x17 5 1 0 11 9 (7 * 8) 0 0, .cpqf g5 11 9 7), (ca 0x18 5 1 12 11 9 8 7 1, .cpfl g5 12 11 9 8 (some 7)),
    (cb 0x19 5 1 12 9 16383, .wdld g5 12 9 16383), (cb 0x20 5 1 12 0 0, .waitk g5 12), (cb 0x21 5 1 12 0 7, .testk g5 7 12), (cb 0x22 5 1 12 0 0, .waitkx g5 12),
    (cb 0x23 5 1 12 0 0, .krel g5 12), (ca 0x28 5 1 12 3 9 8 7 1, .ldg g5 12 .b8 9 8 (some 7)), (ca 0x29 5 1 12 0 9 8 0 0, .stg g5 12 .b1 9 8 none),
    (ca 0x2A 5 1 12 8 9 8 5 0, .amo g5 12 .xchg 9 8 .system), (ca 0x2B 5 1 12 1 9 8 2 0, .amoc g5 12 .b4 9 8 .stack), (cb 0x30 5 1 4 0 (2 ^ 8 + 255), .fence g5 .group 255 true),
    (cb 0x31 5 1 12 0 16383, .binit g5 12 16383), (cb 0x32 5 1 12 9 0, .barv g5 12 9), (cb 0x33 5 1 12 0 0, .bwait g5 12), (cb 0x34 5 1 12 9 0, .bexp g5 12 9),
    (cb 0x35 5 1 7 0 9, .gbar g5 9 7), (ca 0x3C 5 1 12 11 9 8 0 0, .cflush g5 12 11 9 8)] = true := by decide +kernel

/-- What R41, R93, R95 to R108 call illegal: a reserved field that is set, a reserved code, a forbidden guard, an operand out of its range. -/
theorem test_decode_illegal : illegal .s1 [sr 0 1 0 0 0 0 0, sr 0x01 0 0 3 1 2 1, sr 0x11 0 0 3 1 1 0, sr 0x17 0 0 16 1 2 0, sr 0x17 0 0 3 1 2 10, sr 0x36 0 0 3 1 2 8,
    sr 0x37 0 0 3 1 0 (10 * 16 + 11), si 0x25 0 0 3 1 64, si 0x28 0 0 3 1 (10 * 2 ^ 11), sr 0x33 0 0 3 1 2 64, si 0x6A 0 0 3 0 0x004, si 0x6B 0 0 0 1 0x008,
    si 0x6B 0 0 0 1 0x1000, sl 0x60 1 0 0 0, sl 0x60 0 1 0 0, sl 0x60 0 0 16 0, sr 0x63 0 1 0 0 0 0, sr 0x64 0 0 3 0 0 4, sl 0x40 0 0 0 1] = true ∧
    illegal .s0 [sr 0x61 0 0 0 0 0 0, 0x45 * 2 ^ 32 + 9 * 2 ^ 21 + 6 * 2 ^ 12, 0x45 * 2 ^ 32 + 2 ^ 27 + 9 * 2 ^ 21] = true ∧
    illegal .v0 [1, vw 0x001 0 0 0 1 2 3 2, vw 0x001 3 0 0 1 2 3 0, vw 0x001 0 0 11 1 2 3 0, vw 0x004 0 0 10 1 2 3 0, vw 0x009 0 0 0 1 2 1 0, vw 0x020 0 0 0 (6 * 16) 1 2 0,
      vw 0x020 0 0 10 (8 * 16) 1 2 0, vw 0x020 0 0 0 0 1 2 1, vw 0x032 0 0 3 1 2 3 0, vw 0x070 1 0 0 1 2 3 0, vw 0x080 2 0 0 1 2 9 0, vw 0x080 0 0 13 1 2 8 0] = true ∧
    illegal .f [fw 0 0 0 0 0 0 1, fw 0x01 3 0 0 1 2 0, fw 0x0E 0 0 0 1 2 0] = true ∧
    illegal .m [mw 0x01 0 0 0 0 0 0, mw 0x05 0 0 0 0 0 (7 * 2 ^ 9), mw 0x05 0 0 0 0 0 2, mw 0x05 0 1 0 0 0 0, mw 0x0A 0 0 0 0 0 65, mw 0x0B 0 0 0 0 0 0] = true ∧
    illegal .c0 [cs 0x04 0 0 1 2 2048, cs 0x03 0 0 1 2 (2 ^ 11 + 1), ca 0x10 0 0 1 2 3 4 1 0, ca 0x2B 0 0 1 0 2 3 0 0, ca 0x2B 0 0 1 2 2 4 0 0, ca 0x2A 0 0 1 9 2 3 0 0,
      ca 0x2A 0 0 1 0 2 3 6 0, ca 0x28 0 0 1 4 2 3 0 0, cb 0x30 0 0 6 0 0, cb 0x31 0 0 1 0 0, cb 0x35 0 0 8 0 1, ca 0x17 0 0 1 2 3 0 0 0, ca 0x3C 0 0 1 2 3 4 0 1] = true := by
  decide +kernel

/-- The worked leaf of R28: its 25 code words are a bundle with an ADD in S0 and a VADD in V0. -/
theorem test_decode_leaf : (decodeBundle (leafBundle ([0xA800, 0x0100, 0x6084, 0, 0, 0, 0x00A1, 0x4040, 0x2818] ++ List.replicate 15 0))).toOption =
    some ⟨true, false, [(.s0, .add ⟨false, 0⟩ 3 1 2), (.v0, .vadd ⟨.w512, 0, .fp32, false⟩ 4 5 6)]⟩ := by decide +kernel

/-! States to run one step on. -/

def hdr : Header := { leafHeader with plan := [16, 16, 8, 8, 4, 4, 4, 4], tv := true, trap := 7 }
/-- A running task of core 0, at its first dispatch. -/
def task : Task := { leafTask 1 0 with hdr := hdr, arch := Arch.start hdr [] 0 1 1000000 1000000, shadow := Arch.start hdr [] 0 1 1000000 1000000 }
def base : State := { State.reset with bootstat := 0, cur := task, nextTask := 2, cores := [(0, { CoreSt.init with task := 1 })] }
/-- A scalar register, and a vector register, with a value. -/
def withS (s : State) (i : Nat) (v : Word) : State := s.arch fun a => { a with s := Store.set 0 a.s i v }
def withV (s : State) (i : Nat) (v : VWord) : State := s.arch fun a => { a with v := Store.set 0 a.v i v }
/-- The state after an instruction, with every result in flight landed. -/
def after (s : State) (i : Instr) : Option State :=
  match exec i s with
  | .next t => some { t with cur := t.cur.settle 100 }
  | _ => none
/-- A scalar register after an instruction; a predicate; the low 64 bits of element i of size e of a vector register. -/
def sAfter (s : State) (i : Instr) (r : Nat) : Option Nat := (after s i).map fun t => (Store.get 0 t.cur.arch.s r).toNat
def qAfter (s : State) (i : Instr) (q : Nat) : Option Bool := (after s i).map fun t => t.cur.arch.q.getLsbD q
def vAfter (s : State) (i : Instr) (r e k : Nat) : Option Nat := (after s i).map fun t => elem (Store.get 0 t.cur.arch.v r) e k
/-- The cause that an instruction raises, and its words. -/
def raisedBy (s : State) (i : Instr) : Option (Nat × List Nat) :=
  match exec i s with
  | .next t => match t.ctx.out with
    | .raised r => some (r.cause, r.words)
    | _ => none
  | _ => none
def holdsAt (s : State) (i : Instr) : Bool :=
  match exec i s with
  | .next t => t.ctx.out == .held
  | _ => false

theorem base_roomS (n : Nat) : base.roomS n := .inr fun _ h => nomatch h
theorem base_roomQ (n : Nat) : base.roomQ n := .inr fun _ h => nomatch h
theorem base_roomP (n : Nat) : base.roomP n := .inr fun _ h => nomatch h
theorem base_roomV (n : Nat) : base.roomV n := fun _ h => nomatch h
theorem base_noTstat : base.noTstat := fun _ h => nomatch h
theorem base_guard : base.guardOn on = true ∧ base.guardOn off = false := by decide +kernel

/-! The device, the encodings and the code stream. -/

/-- SHA3-256 of no bytes and of "abc", from the examples that NIST publishes with FIPS 202. -/
theorem test_sha3 : (leNat ((leBytes (sha3 []).toNat 32).reverse) = 0xa7ffc6f8bf1ed76651c14756a061d662f580ff4de43b49fa82d80a4b80f8434a) ∧
    leNat ((leBytes (sha3 [0x61, 0x62, 0x63]).toNat 32).reverse) = 0x3a985da74fe225b2045c172d6bd390bd855f086e3e9d525b46bfe24511431532 := by decide +kernel

/-- The task in focus about to fetch a bundle with one operation, its core next. -/
def leafOf (s : State) (i : Instr) : State :=
  match encode i with
  | some ws => s.withFetchWord 400 (ws.foldr (fun w acc => acc * 2 ^ 16 + w.toNat) 0)
  | none => s

/-- The next turn is core n's, whose task is about to run `i`: every premise of StepRunsDecoded, with how the operation comes out. -/
def runsAs (s : State) (n : Nat) (i : Instr) (out : Ran → Bool) : Bool :=
  let s0 : State := { s with agenda := [] }
  let sf := (s0.focus n).settled_
  let pc := sf.cur.pc.toNat
  s.agenda == [.core n] && s.bootstat == 0 && (s0.focus n).cur.id != 0 && ((s0.focus n).coreOf n).issued != some (s0.focus n).clk &&
    sf.cur.met.isNone && sf.cur.redirect != .finish && decide (0 ≤ sf.cur.pc) && decide (sf.cur.pc < 2 ^ 32) && (sf.fetchMeet pc).isNone &&
    match sf.bundleAt pc with
    | some (b, k) => match decodeBundle b with
      | .ok d => (sf.legality d pc).isNone && match d.ops, (sf.enterBundle ⟨d, pc, pc + k⟩ false).before ⟨d, pc, pc + k⟩ with
        | [(x, j)], .done s1 =>
          let sc := (s1.enterBundle ⟨d, pc, pc + k⟩ d.ck).begun.charged d
          let st : State := { sc with free := s1.free + 1 }
          j == i && match exec i { st with ctx := { st.ctx with slot := x, out := .ran } } with
          | .next t => out t.ctx.out
          | _ => false
        | _, _ => false
      | .error _ => false
    | none => false

/-- The code position after a step, and a scalar register with what is in flight landed. -/
def stepPc (s : State) : Option Int := match step s with | .next t => some t.cur.pc | _ => none
def stepS (s : State) (r : Nat) : Option Nat := match step s with | .next t => some (Store.get 0 (t.cur.settle 100).arch.s r).toNat | _ => none

theorem witness_StepInvariant : State.reset.Inv ∧ step State.reset = .next State.reset.startUp ∧ (leafOf base (.add on 3 1 2)).Inv ∧
    stepPc (leafOf base (.add on 3 1 2)) = some 25 :=
  ⟨⟨rfl, rfl, by decide +kernel⟩, rfl, by unfold State.Inv; decide +kernel, by decide +kernel⟩

theorem witness_FirstDispatch : (0 : Nat) < 8 ∧ (7 : Nat) < 8 := by decide

theorem witness_SlotRoundTrip : (Instr.add on 63 1 2).wf = true ∧ (Instr.add on 63 1 2).slotOk .s0 = true ∧ (Instr.gbar on 15 7).wf = true ∧
    (Instr.gbar on 15 7).slotOk .c1 = true ∧ (Instr.vupln (v0 .i16) 511 511 16).wf = true ∧ (Instr.vupln (v0 .i16) 511 511 16).slotOk .v2 = true ∧
    (Instr.mqset 7 64).wf = true ∧ (Instr.mqset 7 64).slotOk .m = true ∧ (Instr.fgelu f0 0 511).wf = true ∧ (Instr.fgelu f0 0 511).slotOk .f = true := by
  decide +kernel

theorem witness_WordsRoundTrip : (Instr.yld 15 (-1)).wf = true ∧ (Instr.yld 15 (-1)).cls.isSome = true ∧
    cs 0x03 0 0 62 9 (2 ^ 11 + 12 * 2 ^ 7 + 5 * 2 ^ 4) < 2 ^ 36 ∧
    (decodeSlot .c1 (cs 0x03 0 0 62 9 (2 ^ 11 + 12 * 2 ^ 7 + 5 * 2 ^ 4))).toOption = some (.ldsGlobal on 62 12 9 none) := by decide +kernel

theorem witness_SlotNumbers : (match decodeSlots (2 ^ 200 * 2 ^ 168) Slot.all with | .ok l => l.isEmpty | .error _ => false) = true ∧ fld (2 ^ 200 * 2 ^ 168) 368 5 ≠ 0 ∧
    (match decodeSlots (2 ^ 200 * 2 ^ 172) Slot.all with | .ok l => l.isEmpty | .error _ => false) = true ∧ fld (2 ^ 200 * 2 ^ 172) 368 5 ≠ 0 := by decide +kernel

/-- Both ends of a run of unassigned opcodes in each class, and a bundle that carries the last of them in C1 beside a legal S0. -/
theorem witness_UnassignedRefused : fld (0x18 * 2 ^ 32) 32 8 = 0x18 ∧ fld (0xFF * 2 ^ 32) 32 8 = 0xFF ∧ fld (0x00E * 2 ^ 39) 39 9 = 0x00E ∧
    fld (0x1FF * 2 ^ 39) 39 9 = 0x1FF ∧ fld (0x0E * 2 ^ 26) 26 6 = 0x0E ∧ fld (0x0B * 2 ^ 34) 34 6 = 0x0B ∧ fld (0x3D * 2 ^ 29) 29 7 = 0x3D ∧
    (let b := 2 ^ 200 * 2 ^ 181 + sr 0x01 0 0 3 1 2 0 * 2 ^ 128 * 2 ^ 200 + 2 ^ 200 * 2 ^ 173 + 0x3D * 2 ^ 29
     Slot.c1.bitsOf b = (true, 0x3D * 2 ^ 29) ∧ (∀ y ∈ Slot.all, y.number < 8 → (match slotResult b y with | .ok _ => true | .error _ => false) = true) ∧
     (let s := base.withFetchWord 400 ((List.range 25).foldl (fun acc k => acc + (if k = 0 then 0xFFFF else fld b (384 - 16 * k) 16) * 2 ^ (16 * k)) 0)
      s.cur.pc = 0 ∧ (s.fetchMeet 0).isNone = true ∧ s.bundleAt 0 = some (b, 25))) := by decide +kernel

theorem witness_ScalarGuards : fld (sl 0x60 0 1 0 0) 32 8 = 0x60 ∧ fld (sl 0x60 0 1 0 0) 27 5 ≠ 0 ∧ fld (sr 0x63 1 0 0 0 0 0) 32 8 = 0x63 ∧
    fld (sr 0x63 1 0 0 0 0 0) 27 5 ≠ 0 ∧ fld (sl 0x45 0 15 0 0) 32 8 = 0x45 ∧ fld (sl 0x45 0 15 0 0) 27 5 ≠ 0 ∧
    (decodeSlot .s1 (sr 0x01 1 15 3 1 2 0)).toOption = some (.add ⟨true, 15⟩ 3 1 2) := by decide +kernel

/-- A task whose code tensor 1 holds the words given and whose blend tensor 2 holds one bundle. -/
def coded (ws : List Nat) : State :=
  let s := (base.setTensor (Tensor.make 1 0 [2 * ws.length] 0 0)).setTensor (Tensor.make 2 0 [48] 0 0)
  { s.writeId 1 0 ((ws.map fun w => leBytes w 2).flatten) with cur := { s.cur with hdr := { s.cur.hdr with code := 1, blend := 2 } } }
/-- A core that has loaded nothing of its code reads it as it stands. -/
theorem codeFresh_of_nil (s : State) (h : s.cur.img.code = []) (k : s.cur.img.blend = []) : s.codeFresh := by
  have hb : ∀ id place off n, s.fetchBytes [] id place off n = s.coreBytes id off n := fun id place off n => by
    cases n with
    | zero =>
      have : s.coreBytes id off 0 = [] := by unfold State.coreBytes; split <;> rfl
      simp [State.fetchBytes, this]
    | succ n => simp [State.fetchBytes]
  exact ⟨fun _ _ _ => by unfold State.codeNat State.coreNat; rw [h, hb], fun _ _ _ => by unfold State.blendNat State.coreNat; rw [k, hb]⟩
/-- A fetch that meets no poisoned tile and no key that is gone, on a core without an error in flight. -/
theorem coded_meet : (coded [0]).fetchMeet 0 = none := by
  have h : ∀ id off, (coded [0]).fetchError id off = none := fun _ _ => rfl
  unfold State.fetchMeet
  simp only [h, ite_self]
  exact Option.isNone_iff_eq_none.mp (by decide +kernel)
theorem witness_CodeWords : ((coded [0]).codeFresh ∧ (coded [0]).pinned 0 = none ∧ (coded [0]).fetchMeet 0 = none) ∧
    (coded [0]).sizeOf 1 = 2 ∧ (coded [0]).sizeOf 2 / 48 = 1 ∧ (coded [0]).coreNat 1 0 2 = 0 ∧ (coded [0]).bundleAt 1 = none ∧
    (coded [0, 1]).coreNat 1 2 2 = 1 ∧ (coded [0x1000]).coreNat 1 0 2 = 0x1000 ∧ (coded [0xFFFE]).coreNat 1 0 2 = 0xFFFE ∧
    (coded (0xFFFF :: List.replicate 24 0)).sizeOf 1 = 2 * 25 ∧ (coded (0xFFFF :: List.replicate 24 0)).coreNat 1 0 2 = 0xFFFF ∧
    (coded (0xFFFF :: List.replicate 23 0)).sizeOf 1 = 2 * 24 ∧ (coded (0xFFFF :: List.replicate 23 0)).coreNat 1 0 2 = 0xFFFF :=
  ⟨⟨codeFresh_of_nil _ rfl rfl, by decide +kernel, coded_meet⟩, by decide +kernel⟩
/-- Position 0 in the loop buffer while a loop runs. -/
theorem witness_CodeWords_pinned : (let s := base.arch fun a => { a with loops := [⟨[0], 1, 0, 2, 0, 2, 0, 1, 0⟩] }
    { s with cur := { s.cur with pins := [⟨0, some 0xFFFF, none⟩] } } : State).pinned 0 = some ⟨0, some 0xFFFF, none⟩ := by decide +kernel

/-- The premises of StepRunsDecoded for a slot that runs, one that holds and one that raises, and for a step of the device. -/
theorem witness_StepRunsDecoded : runsAs (leafOf base (.add on 3 1 2)) 0 (.add on 3 1 2) (· == .ran) = true ∧
    runsAs (leafOf (base.arch fun a => { a with b := [(2, BitVec.ofNat 128 (2 ^ 126 + 2 ^ 124 + 2 ^ 96))] }) (.bwait on 2)) 0 (.bwait on 2) (· == .held) = true ∧
    runsAs (leafOf base (.trap on 9)) 0 (.trap on 9) (· == .raised ⟨0x15, 1, [9, 0, 0, 0], none⟩) = true ∧
    (Instr.deviceReset).cls = none ∧ ({ base with agenda := [.event .deviceReset] } : State).agenda = [.event .deviceReset] := by decide +kernel

theorem test_step_add : stepS (leafOf (withS (withS base 1 5) 2 7) (.add on 3 1 2)) 3 = some 12 := by decide +kernel

/-- A bundle of one operation in a slot, fetched at position 0. -/
def sole (x : Slot) (i : Instr) : Fetched := ⟨⟨false, false, [(x, i)]⟩, 0, 25⟩
/-- The order of a bundle's slots, and the first of them run on a state, as BundleUnit runs them. -/
def orderOf (s : State) (f : Fetched) : List (Slot × Instr) := (s.enterBundle f f.bundle.ck).slotOrder f.bundle
def runOf (s : State) (f : Fetched) (l : List (Slot × Instr)) : Run :=
  l.foldl runSlot ⟨{ (s.enterBundle f f.bundle.ck).begun.charged f.bundle with free := s.free + 1 }, none, false, []⟩
def ranOf (s : State) (f : Fetched) : Run := runOf s f (orderOf s f)
/-- The cause that a slot raises behind the slots before it. -/
def raisedIn (s : State) (f : Fetched) (l : List (Slot × Instr)) (x : Slot × Instr) : Option Raise :=
  match exec x.2 { (runOf s f l).st with ctx := { (runOf s f l).st.ctx with slot := x.1, out := .ran } } with
  | .next t => match t.ctx.out with
    | .raised c => some c
    | _ => none
  | _ => none
/-- The slot behind `l` raises a cause, in the words of BundleUnit. -/
def RaisesIn (s : State) (f : Fetched) (l : List (Slot × Instr)) (x : Slot × Instr) (c : Raise) : Prop :=
  (∃ rest, orderOf s f = l ++ x :: rest) ∧ ((runOf s f l).cause = none ∨ isEnd x.2 = false) ∧
  ∃ t, exec x.2 { (runOf s f l).st with ctx := { (runOf s f l).st.ctx with slot := x.1, out := .ran } } = .next t ∧ t.ctx.out = .raised c
theorem raisedIn_iff (s : State) (f : Fetched) (l : List (Slot × Instr)) (x : Slot × Instr) (c : Raise) : raisedIn s f l x = some c ↔
    ∃ t, exec x.2 { (runOf s f l).st with ctx := { (runOf s f l).st.ctx with slot := x.1, out := .ran } } = .next t ∧ t.ctx.out = .raised c := by
  unfold raisedIn
  cases exec x.2 { (runOf s f l).st with ctx := { (runOf s f l).st.ctx with slot := x.1, out := .ran } } with
  | next t => cases h : t.ctx.out <;> simp [h]
  | fault => simp
  | refused => simp
/-- TRAP 9 in S0 beside TRAP 8 in S1. -/
def twoTraps : Fetched := ⟨⟨false, false, [(.s0, .trap on 9), (.s1, .trap on 8)]⟩, 0, 25⟩
theorem witness_BundleUnit_raises : (ranOf base twoTraps).held = false ∧ RaisesIn base twoTraps [] (.s0, .trap on 9) ⟨0x15, 0, [9, 0, 0, 0], none⟩ ∧
    ∀ l x c, RaisesIn base twoTraps l x c → l = [] ∨ 0 < c.slot := by
  have order : orderOf base twoTraps = [(.s0, .trap on 9), (.s1, .trap on 8)] := by decide +kernel
  refine ⟨by decide +kernel, ⟨⟨[(.s1, .trap on 8)], order⟩, .inl (by decide +kernel), (raisedIn_iff ..).mp (by decide +kernel)⟩, ?_⟩
  rintro l x c ⟨⟨rest, h⟩, -, e⟩
  rw [order] at h
  rcases l with _ | ⟨a, _ | ⟨b, l⟩⟩ <;> simp at h
  · exact .inl rfl
  · obtain ⟨rfl, rfl, -⟩ := h
    have := (raisedIn_iff ..).mpr e
    rw [show raisedIn base twoTraps [(.s0, .trap on 9)] (.s1, .trap on 8) = some ⟨0x15, 1, [8, 0, 0, 0], none⟩ by decide +kernel] at this
    exact .inr (by cases this; decide)
/-- A bundle that raises nothing and holds nothing. -/
theorem witness_BundleUnit_runs : (ranOf base (sole .s0 (.add on 3 1 2))).held = false ∧ ∀ l x c, ¬ RaisesIn base (sole .s0 (.add on 3 1 2)) l x c := by
  have order : orderOf base (sole .s0 (.add on 3 1 2)) = [(.s0, .add on 3 1 2)] := by decide +kernel
  refine ⟨by decide +kernel, ?_⟩
  rintro l x c ⟨⟨rest, h⟩, -, e⟩
  rw [order] at h
  rcases l with _ | ⟨a, l⟩ <;> simp at h
  obtain ⟨rfl, -⟩ := h
  have := (raisedIn_iff ..).mpr e
  rw [show raisedIn base (sole .s0 (.add on 3 1 2)) [] (.s0, .add on 3 1 2) = none by decide +kernel] at this
  cases this
/-- The state whose stage barrier 2 has a phase completed and not waited for. -/
def pended : State := base.arch fun a => { a with b := [(2, BitVec.ofNat 128 (2 ^ 126 + 2 ^ 124 + 2 ^ 96))] }
theorem witness_BundleUnit : (ranOf pended (sole .c0 (.bwait on 2))).held = true ∧ (ranOf pended (sole .c0 (.bwait on 2))).cause = none := by decide +kernel

theorem witness_FixedRegisters : base.rdS 0 = 0 ∧ base.rdQ 0 = true := by decide +kernel

/-- A result of bound 6 to s5, issued at clock 3, as seen at a clock of the control layer. -/
def inFlight (clk : Nat) : State :=
  let s := base.setStack 0 { Stack.init with c := { LayerSt.init with cyc := clk } }
  { s with cur := { s.cur with pend := [⟨3, 6, .s 5 77, 0, false, 0⟩] } }
theorem witness_ReadsAfterLanding : (5 : Nat) ≠ 0 ∧ base.cur.flight base.clk (0, sSlot base.cur.arch.rho 5) = [] ∧ (inFlight 9).clk = 9 ∧
    (inFlight 9).cur.flight 9 (0, sSlot (inFlight 9).cur.arch.rho 5) = [⟨3, 6, .s 5 77, 0, false, 0⟩] ∧ (3 + max 1 6 ≤ (inFlight 9).clk) ∧
    (inFlight 8).clk < (⟨3, 6, .s 5 77, 0, false, 0⟩ : Pend).last ∧ (⟨3, 6, .s 5 77, 0, false, 0⟩ : Pend).dest.key = some (0, 5) := by decide +kernel
theorem witness_ReadsAfterLanding_clear : base.clear (0, sSlot base.cur.arch.rho 5) := fun _ h => nomatch h

/-! The scalar operations. -/

theorem witness_ScalarArithmetic : base.guardOn on = true ∧ base.roomS 0 ∧ base.roomS 63 := ⟨base_guard.1, .inl rfl, base_roomS 63⟩
theorem witness_ScalarFields : base.guardOn on = true ∧ base.roomS 3 ∧ 2097151 < 2 ^ 21 ∧ 63 < 64 := ⟨base_guard.1, base_roomS 3, by decide, by decide⟩
theorem witness_ScalarPredicates : base.guardOn on = true ∧ base.roomQ 0 ∧ base.roomQ 15 ∧ sfits (-1024) 11 = true ∧ sfits 1023 11 = true :=
  ⟨base_guard.1, .inl rfl, base_roomQ 15, by decide, by decide⟩
/-- A NaN, the infinities, a zero, and a subnormal that DAZ does not reach. -/
theorem witness_ScalarFloat : (base.guardOn on = true ∧ base.roomS 3 ∧ base.roomQ 3 ∧ base.noTstat) ∧
    (fld 0x7F800001 23 8 = 255 ∧ fld 0x7F800001 0 23 ≠ 0) ∧ (fld 0x7F800000 0 31 = 0x7F800000 ∧ fld 0xFF800000 0 31 = 0x7F800000) ∧
    (0x7F800000#64).getLsbD 31 ≠ (0xFF800000#64).getLsbD 31 ∧ fld 0x80000000 0 31 = 0 ∧
    ¬ ((0 : Tctl).daz = true ∧ fld 1 23 8 = 0) ∧ ¬ (fld 1 23 8 = 255 ∧ fld 1 0 23 ≠ 0) :=
  ⟨⟨base_guard.1, base_roomS 3, base_roomQ 3, base_noTstat⟩, by decide, by decide, by decide, by decide, by decide, by decide⟩

/-- The operands of the special cases of binary32: a NaN, infinities of both signs, zeros and a subnormal under DAZ (TCTL bit 2); 1.5, 2^-20 + 2^-43 and 70000
of the conversions to the half formats, and the halves 0, 2^-24, 1, infinity and a NaN. -/
def isNan (x : Nat) : Bool := fld x 23 8 == 255 && fld x 0 23 != 0
def isInf (x : Nat) : Bool := fld x 0 31 == 0x7F800000
theorem witness_ScalarFloat_specials : isNan 0x7FC00001 = true ∧ isNan 0x3F800000 = false ∧ isInf 0x7F800000 = true ∧ isInf 0xFF800000 = true ∧
    (0x7F800000#64).getLsbD 31 ≠ (0xFF800000#64).getLsbD 31 ∧ fld 0x80000000 0 31 = 0 ∧ ((4 : Tctl).daz = true ∧ fld 1 23 8 = 0) ∧
    ¬ (isInf 0x3F800000 = true) ∧ (0 : Tctl).daz = false ∧ fld 0x3C00 10 5 = 15 ∧ fld 1 10 5 = 0 ∧ fld 1 0 10 ≠ 0 ∧ fld 0x7C00 10 5 = 31 ∧ fld 0x7C01 0 10 ≠ 0 := by decide +kernel
theorem witness_ScalarFloat_halves : (let e := fld 0x3FC00000 23 8; 0 < e ∧ 113 ≤ e ∧ e < 255) ∧ roundQuot (0 : Tctl).rm false 0x3FC00000 65536 < 0x7F80 ∧
    0x7F80 ≤ roundQuot (0 : Tctl).rm false 0x7F7FFFFF 65536 ∧ (let e := fld 0x35800001 23 8; 0 < e ∧ e < 113) ∧
    roundQuot (0 : Tctl).rm false (0x3FC00000 - 112 * 2 ^ 23) 8192 < 0x7C00 ∧ 0x7C00 ≤ roundQuot (0 : Tctl).rm false (0x4788B800 - 112 * 2 ^ 23) 8192 ∧
    (0 : Tctl).rm = .rne ∧ (0 : Tctl).satf = false := by decide +kernel
/-- R81: 1 as a half is 0x3C00; 70000 to fp16 overflows; the least subnormal half is 2^-24. -/
theorem test_halves : fCvt 0 .fp16 .fp32 0x3F800000 = (0x3C00, 0) ∧ fCvt 0 .fp16 .fp32 0x4788B800 = (0x7C00, Flags.ovf ||| Flags.nx) ∧
    fCvt 0 .fp32 .fp16 1 = (0x33800000, 0) ∧ fCvt 0 .bf16 .fp32 0x3F808000 = (0x3F80, Flags.nx) := by decide +kernel
/-- R114: 2^64 - 1 plus 2 wraps; the high half of (-1) × (-1) is 0; division by zero gives all ones, the remainder the dividend;
-2^63 / -1 gives -2^63. -/
theorem test_arith : sAfter (withS (withS base 1 (BitVec.allOnes 64)) 2 2) (.add on 3 1 2) 3 = some 1 ∧
    sAfter (withS base 1 (BitVec.allOnes 64)) (.mulh on 3 1 1) 3 = some 0 ∧ sAfter (withS base 1 9) (.div on 3 1 2) 3 = some (2 ^ 64 - 1) ∧
    sAfter (withS base 1 9) (.rem on 3 1 2) 3 = some 9 ∧ sAfter (withS (withS base 1 (BitVec.ofNat 64 (2 ^ 63))) 2 (BitVec.allOnes 64)) (.div on 3 1 2) 3 = some (2 ^ 63) ∧
    sAfter (withS (withS base 1 (BitVec.ofInt 64 (-7))) 2 2) (.rem on 3 1 2) 3 = some (2 ^ 64 - 1) := by decide +kernel
/-- R114: counts of 64 or more in shifts, a rotation, the counts of zero; a source that is the destination. -/
theorem test_shifts : sAfter (withS (withS base 1 1) 2 64) (.shl on 3 1 2) 3 = some 0 ∧
    sAfter (withS (withS base 1 (BitVec.ofNat 64 (2 ^ 63))) 2 64) (.sra on 3 1 2) 3 = some (2 ^ 64 - 1) ∧ sAfter (withS (withS base 1 3) 2 65) (.rol on 1 1 2) 1 = some 6 ∧
    sAfter base (.clz on 3 1) 3 = some 64 ∧ sAfter base (.ctz on 3 1) 3 = some 64 ∧ sAfter (withS base 1 0xFF) (.popc on 3 1) 3 = some 8 ∧
    sAfter (withS base 1 0x0FF) (.andn on 3 1 1) 3 = some 0 := by decide +kernel
/-- R115, R116: a field of 4 bits at 4, sign-extended; an insertion; LDIH; LEA; MOVQ with q0 alone true. -/
theorem test_fields : sAfter (withS (withS base 1 0xF80) 2 (0x10404)) (.bfx on 3 1 2) 3 = some (2 ^ 64 - 8) ∧
    sAfter (withS (withS (withS base 1 0xA) 2 0x0404) 3 0xFFFF) (.bfi on 3 1 2) 3 = some 0xFFAF ∧ sAfter (withS base 3 1) (.ldih on 3 5) 3 = some (2 ^ 21 + 5) ∧
    sAfter (withS base 1 1024) (.lea on 3 1 (-1) 7) 3 = some (1024 - 128) ∧ sAfter base (.movq on 3) 3 = some 1 ∧
    sAfter (withS base 1 5) (.add off 3 1 1) 3 = some 0 := by decide +kernel
/-- R117, R121: -1 is below 1 signed and above it natural; the truth table 0x6 is exclusive OR; q0 discards a result. -/
theorem test_predicates : qAfter (withS (withS base 1 (BitVec.allOnes 64)) 2 1) (.cmp on .lt 3 1 2) 3 = some true ∧
    qAfter (withS (withS base 1 (BitVec.allOnes 64)) 2 1) (.cmp on .ltu 3 1 2) 3 = some false ∧ qAfter base (.qop on 3 0 1 6) 3 = some true ∧
    qAfter base (.qmov on 3 1) 3 = some false ∧ qAfter base (.qmov on 0 1) 0 = some true ∧ qAfter (withS base 1 (BitVec.allOnes 64)) (.cmpi on .gtu 3 1 (-2)) 3 = some true := by
  decide +kernel
/-- R118, R120: 1 + 2 = 3; a NaN source gives the canonical NaN; the fused 3 × 3 - 9 = 0; -1 to n32 gives 0; 2^40 to i32 saturates; NE is true of a NaN. -/
theorem test_floats : sAfter (withS (withS base 1 0x3F800000) 2 0x40000000) (.fadd on 3 1 2) 3 = some 0x40400000 ∧
    sAfter (withS (withS base 1 0x7FC00001) 2 0x40000000) (.fmul on 3 1 2) 3 = some 0x7FC00000 ∧
    sAfter (withS (withS base 1 0x40400000) 2 0xC1100000) (.fma on 3 1 1 2) 3 = some 0 ∧ sAfter (withS base 1 (BitVec.ofInt 64 (-1))) (.fcvt on .n32 .i64 3 1) 3 = some 0 ∧
    sAfter (withS base 1 (BitVec.ofInt 64 (2 ^ 40))) (.fcvt on .i32 .i64 3 1) 3 = some (2 ^ 31 - 1) ∧ qAfter (withS base 1 0x7FC00000) (.fcmp on .ne 3 1 1) 3 = some true := by
  decide +kernel

/-! Control flow. -/

theorem witness_Guards : (Instr.add off 3 1 2).guard = some off ∧ base.guardOn off = false ∧ (Instr.br off 5).guard = some off ∧ isBranch (.br off 5) = true := by
  decide +kernel

/-- A loop of two bundles, at 4 and 5, that runs 3 iterations in 2 stages. -/
def loop2 : Loop := ⟨[4, 5], 6, 1, 3, 0, 3, 0, 2, 0⟩
theorem witness_Branches : base.guardOn on = true ∧ base.guardOn off = false ∧ base.roomS 63 ∧
    (let t : Task := { task with delay := 2, redirect := .jump 40 }; t.delay = 2 ∧ t.arch.loops = [] ∧ t.redirect = .jump 40) ∧
    (let t : Task := { task with delay := 2 }; t.arch.loops = [] ∧ t.redirect = .none) ∧
    (let t : Task := { task with delay := 2, redirect := .leave, arch := { task.arch with loops := [{ loop2 with body := [3, 4, 5] }] } }
     t.redirect = .leave ∧ ((t.advance 3 4 true).advance 4 5 false).arch.loops.head? = some { loop2 with body := [3, 4, 5] }) :=
  ⟨base_guard.1, base_guard.2, base_roomS 63, by decide +kernel⟩

/-- LOOP over the bundle at 0, with a count in s1; in a loop, the nested one. -/
def looping : State := base.arch fun a => { a with loops := [{ loop2 with body := [0, 25, 50] }] }
theorem witness_LoopStart : base.cur.arch.loops = [] ∧ (base.rdS 1).toNat % 2 ^ 32 = 0 ∧ ((withS base 1 1).rdS 1).toNat % 2 ^ 32 = 1 ∧
    (base.arch fun a => { a with lix := 4 }).cur.arch.lix.toNat = 4 ∧ looping.ctx.pos ∈ [0, 25, 50] ∧
    looping.cur.arch.loops.head? = some { loop2 with body := [0, 25, 50] } ∧ looping.cur.arch.loops.getLast? = some { loop2 with body := [0, 25, 50] } ∧
    (looping.rdS 1).toNat % 2 ^ 32 = 0 ∧ ((withS looping 1 1).rdS 1).toNat % 2 ^ 32 = 1 := by decide +kernel

/-- A task that a switch has kept in a loop, and that issues at 99, outside its body. -/
theorem witness_LoopStart_outside : (∀ o : Loop, base.cur.arch.loops.head? = some o → base.ctx.pos ∉ o.body) ∧
    ∀ o : Loop, ({ looping with ctx := { looping.ctx with pos := 99 } } : State).cur.arch.loops.head? = some o → 99 ∉ o.body :=
  ⟨fun _ h => (nomatch h), fun o h => by cases h; decide⟩
/-- The first pass of three, the last of four (three iterations in two stages), and a pass that ends early because a yield is pending. -/
def inLoop (k : Nat) (clip : Bool) : Task := { task with arch := { task.arch with loops := [{ loop2 with k := k }], clip := clip } }
theorem witness_LoopPasses : (inLoop 0 false).arch.loops = [{ loop2 with k := 0 }] ∧ (inLoop 0 false).delay = 0 ∧ (inLoop 0 false).redirect = .none ∧
    loop2.body.getLast? = some 5 ∧ 1 ≤ loop2.stages ∧ loop2.stages ≤ 8 ∧ (inLoop 0 false).yieldPending = false ∧ ¬ (inLoop 0 false).hdr.span ≤ 0 ∧
    0 + 1 < 3 + (2 - 1) ∧ 3 + (2 - 1) ≤ 3 + 1 ∧ (inLoop 0 true).yieldPending = true ∧ 0 < 0 + 1 ∧ 0 + 1 < 3 := by decide +kernel
/-- The same loop in an enclosing one that goes on at 6, or that ends with it. -/
def nested (k : Nat) (body : List Nat) : Task := { task with arch := { task.arch with loops := [{ loop2 with body := body }, { loop2 with k := k }] } }
theorem witness_LoopPasses_nested : (nested 0 [3, 4, 5, 6]).arch.loops = [{ loop2 with body := [3, 4, 5, 6] }, { loop2 with k := 0 }] ∧
    (nested 0 [3, 4, 5]).delay = 0 ∧ (nested 0 [3, 4, 5]).redirect = .none ∧ [3, 4, 5, 6].getLast? ≠ some 5 ∧ [3, 4, 5].getLast? = some 5 ∧
    2 + 1 < loop2.stop + (loop2.stages - 1) ∧ loop2.stop + (loop2.stages - 1) ≤ 3 + 1 := by decide +kernel
/-- Behind a LOOP that starts its body: no delay bundle is left, and the body is the innermost loop, from iteration 1 in two stages. -/
def entering : Task := { inLoop 1 false with redirect := .enter, arch := { task.arch with loops := [{ loop2 with k := 1, i0 := 1 }] } }
theorem witness_LoopPasses_first : entering.arch.loops = [] ++ [{ loop2 with k := 1, i0 := 1 }] ∧ entering.delay = 0 ∧ entering.redirect = .enter ∧ loop2.stages ≤ 8 ∧
    (nested 0 [3, 4, 5, 6]).arch.loops = [] ++ [{ loop2 with body := [3, 4, 5, 6] }, { loop2 with k := 0 }] ∧
    (let t := { nested 0 [3, 4, 5] with arch := { task.arch with loops := [loop2, { loop2 with body := [3, 4, 5] }, { loop2 with k := 3 }] } }
     t.arch.loops = [loop2] ++ [{ loop2 with body := [3, 4, 5] }, { loop2 with k := 3 }] ∧ loop2.stop + (loop2.stages - 1) ≤ 3 + 1) := by decide +kernel
/-- R128: at the start iteration 1 of two stages, q8 alone of q8 and q9 is 1, and lc of the level holds 1. -/
theorem test_loop_first : (let u := entering.advance 3 4 false
    (u.pc, (u.arch.q >>> 8 &&& 3).toNat, (Store.get 0 u.arch.lc 1).toNat, u.arch.rho)) = (4, 1, 1, entering.arch.rho) := by decide +kernel
theorem test_loop_nested : ((nested 3 [3, 4, 5, 6]).advance 5 6 false).pc = 6 ∧ ((nested 2 [3, 4, 5]).advance 5 6 false).pc = 4 ∧
    ((nested 3 [3, 4, 5]).advance 5 6 false).pc = 3 := by decide +kernel
theorem test_loop_pass : ((inLoop 0 false).advance 5 6 false).pc = 4 ∧ ((inLoop 0 false).advance 5 6 false).arch.q = 0x301 ∧
    ((inLoop 3 false).advance 5 6 false).pc = 6 ∧ ((inLoop 3 false).advance 5 6 false).arch.lix = 3 := by decide +kernel

theorem witness_Rotation : base.guardOn on = true ∧ (14 < 15 ∧ (39 < 40 ∨ 56 ≤ 39) ∧ (63 < 40 ∨ 56 ≤ 63)) ∧ 64 ≤ 64 ∧ 62 < 63 ∧ 512 ≤ 512 ∧ 447 < 512 - 64 := by
  decide +kernel
theorem test_rotation : sSlot 1 40 = 55 ∧ sSlot 1 41 = 40 ∧ vSlot 512 1 448 = 511 ∧ vSlot 512 1 449 = 448 ∧ sSlot 1 39 = 39 := by decide +kernel

/-! Traps, rollback, the system operations. -/

/-- A record of n bytes with values at their offsets (offset, bytes, value), the rest zero. -/
def fields (n : Nat) (l : List (Nat × Nat × Nat)) : List Byte :=
  l.foldl (fun acc x => acc.take x.1 ++ leBytes x.2.2 x.2.1 ++ acc.drop (x.1 + x.2.1)) (List.replicate n 0)
/-- The window of the task with bytes at an offset; the task with another header. -/
def withWin (s : State) (a : Nat) (bs : List Byte) : State := { s with cur := { s.cur with win := ⟨Memory.setBytes [] a bs, []⟩ } }
def withHdr (s : State) (f : Header → Header) : State := { s with cur := { s.cur with hdr := f s.cur.hdr } }
def withHeld (s : State) (n : Nat) : State := { s with cur := { s.cur with heldq := List.replicate n ⟨.nothing, 0⟩ } }

/-- The state a trap of `s` is taken in. -/
def rolled (s : State) (r : Raise) : State := ({ s with ctx := { s.ctx with out := .raised r } } : State).rollback
def trap15 : Raise := ⟨0x15, 1, [9, 0, 0, 0], none⟩
theorem witness_Traps : base.guardOn on = true ∧ trap15.cause = 0x15 ∧ (⟨0x0A, 7, [1, 2, 3, 4], none⟩ : Raise).cause = 0x0A ∧ trap15.pos = none ∧
    (rolled base trap15).cur.handler = false ∧ (rolled base trap15).cur.hdr.tv = true ∧
    (rolled base trap15).cur.arch.trapRec.toNat + 64 ≤ (rolled base trap15).cur.hdr.window ∧ base.cur.yieldPending = false ∧ trap15.slot < 256 ∧
    Memory.wf (rolled base trap15).cur.win.bytes = true ∧ (rolled { base with cur := { base.cur with handler := true } } trap15).cur.handler = true ∧
    (rolled (withHdr base fun h => { h with tv := false }) trap15).cur.hdr.tv = false ∧
    (let s := { base with cur := { base.cur with shadow := { base.cur.shadow with trapRec := 65536 } } }
     (rolled s trap15).cur.hdr.window < (rolled s trap15).cur.arch.trapRec.toNat + 64) ∧
    (let t : Task := { task with redirect := .back }; t.delay = 0 ∧ t.redirect = .back) := by decide +kernel
/-- R233, R257: TRAP 9 in S1 goes to the trap entry at 7 with the record at the top of the window; RETC without a handler is reason 2. -/
theorem test_trap : (match exec (.trap on 9) base with
      | .next t => t.cur.pc == 7 && t.cur.handler && t.cur.win.read 65472 4 == [0x15, 0, 1, 0] && leNat (t.cur.win.read 65504 8) == 9
      | _ => false) = true ∧ raisedBy base .retc = some (0x14, [2, 0, 0, 0]) := by decide +kernel

theorem witness_Rollback : base.cur.undo = [] ∧ Memory.wf base.cur.win.bytes = true ∧ base.cur.id ≠ 0 ∧
    (∃ b, barReady (base.cur.shadow.barrier b) = false) := ⟨rfl, rfl, by decide, 0, by decide +kernel⟩
theorem witness_Rollback_barriers : ∀ b, barReady (base.cur.shadow.barrier b) = false := fun b => by
  have : base.cur.shadow.barrier b = 0 := rfl
  rw [this]; decide

/-- A carry table with one record that carries nothing, in tensor 3; the yield bundle's checkpoint taken. -/
def carrying : State :=
  let s := base.setTensor (Tensor.make 3 0 [32] 0 0)
  { s.writeId 3 0 (List.replicate 32 0) with cur := { s.cur with hdr := { s.cur.hdr with carry := 3 } }, ctx := { s.ctx with ckpt := true } }
theorem witness_EndAndYield : base.guardOn on = true ∧ base.cur.heldq = [] ∧ base.cur.quiet base.clk = true ∧
    (base.copiesOf base.cur.id).all (fun c => c.st == .done) = true ∧ (base.drainAll base.cur.id).cur.met = none ∧ base.cur.id ≠ 0 ∧ (base.coreOf base.cur.core).task = base.cur.id ∧
    (let s := { base with cur := { base.cur with array := [⟨.zero, 3, 1, 0, false, 0, ⟨[], []⟩, [], [], 0, 0⟩] } }
     s.cur.quiet s.clk = false) := by decide +kernel
/-- The carry record at 0 names nothing; it passes, or with a yield pending or a stop asked for the task leaves. -/
theorem witness_EndAndYield_yield : carrying.ctx.ckpt = true ∧ carrying.carryRec 0 = some (List.replicate 32 0) ∧
    ((∀ g, g < 64 → (recF (List.replicate 32 0) 0 8).testBit g = false) ∧ (∀ k, k < 8 → (recF (List.replicate 32 0) 8 1).testBit k = false)) ∧
    (recF (List.replicate 32 0) 16 4 % 64 = 0 ∧ recF (List.replicate 32 0) 20 4 = 0) ∧ (∀ i, i < 8 → (carrying.cur.arch.queue i).occ = 0) ∧
    carrying.cur.yieldPending = false ∧ carrying.cur.stop = false ∧ carrying.targeted carrying.cur.id = false ∧ carrying.cur.id ≠ 0 ∧
    (carrying.coreOf carrying.cur.core).task = carrying.cur.id ∧ ({ carrying with cur := { carrying.cur with stop := true } } : State).cur.stop = true ∧
    (let s := { carrying with ctx := { carrying.ctx with ckpt := false } }; s.ctx.ckpt = false ∧ s.yldFault 1 = some ⟨3, 0, [3, 1, 0, 0], none⟩) := by decide +kernel
/-- The task holds one command back. -/
def holding1 (k : HeldKind) (s : State) : State := { s with cur := { s.cur with heldq := [⟨k, 5⟩] } }
/-- END with a command that is held, which its release fulfils; with a DDEC whose counter is 0, which meets an underflow (R239). -/
theorem witness_EndAndYield_held : (holding1 (.ddec (3 * 2 ^ 32)) base).release.2.isSome = true ∧ (holding1 .nothing base).release.2 = none ∧
    (let h := (holding1 .nothing base).release.1
     h.cur.quiet h.clk = true ∧ (h.copiesOf h.cur.id).all (fun c => c.st == .done) = true ∧ (h.drainAll h.cur.id).cur.met = none ∧ h.cur.id ≠ 0 ∧
       (h.coreOf h.cur.core).task = h.cur.id) ∧
    (let h := (holding1 .nothing { base with cur := { base.cur with array := [⟨.zero, 3, 1, 0, false, 0, ⟨[], []⟩, [], [], 0, 0⟩] } }).release.1
     h.cur.quiet h.clk = false) := by decide +kernel
/-- A carry record as it stands: groups, tiles, offset and length. The frame is of 64 registers of 512, the window of 65536 bytes. -/
def carried (groups tiles off len : Nat) : State :=
  let s := (carrying.writeId 3 0 (fields 32 [(0, 8, groups), (8, 1, tiles), (16, 4, off), (20, 4, len)]))
  { s with ctx := { s.ctx with ckpt := false } }
def small (s : State) : State := withHdr s fun h => { h with frame := 128, tiles := 3 }
def recOf (s : State) : List Byte := (s.carryRec 0).getD []
/-- The premises of the clauses of a YLD that its carry record turns away: groups 16 and 63 of a frame of 16 groups, tile 2 of tiles 0 and 1, each least; an
offset that is no multiple of 64; a range one line past the window, and the last that fits; a promised byte in queue 2; no carry tensor, and a table of one record. -/
theorem witness_EndAndYield_record : (small (carried 0 0 0 0)).ctx.ckpt = false ∧ (small (carried 0 0 0 0)).carryMeet 0 = none ∧
    (small (carried 0 0 0 0)).carryRec 0 ≠ none ∧ (small (carried 0 0 0 0)).cur.hdr.frame = 128 ∧ (small (carried 0 0 0 0)).cur.hdr.window = 65536 ∧
    (let r := recOf (small (carried (2 ^ 16 + 2 ^ 63 + 1) 0 0 0)); (recF r 0 8).testBit 16 = true ∧ 128 ≤ 8 * 16 ∧
      ∀ m, m < 16 → ¬ ((recF r 0 8).testBit m = true ∧ 128 ≤ 8 * m)) ∧
    (let r := recOf (small (carried (2 ^ 15) 7 0 0)); (∀ g, g < 64 → ¬ ((recF r 0 8).testBit g = true ∧ 128 ≤ 8 * g)) ∧ (recF r 8 1).testBit 2 = true ∧
      (3 : Nat).testBit 2 = false ∧ ∀ m, m < 2 → ¬ ((recF r 8 1).testBit m = true ∧ (3 : Nat).testBit m = false)) ∧
    (let r := recOf (small (carried 0 3 65472 128)); (∀ k, k < 8 → ¬ ((recF r 8 1).testBit k = true ∧ (3 : Nat).testBit k = false)) ∧ recF r 16 4 % 64 = 0 ∧
      recF r 20 4 % 64 = 0 ∧ recF r 20 4 ≠ 0 ∧ 65536 < recF r 16 4 + recF r 20 4) ∧
    (let r := recOf (small (carried 0 3 65472 64)); recF r 20 4 ≠ 0 ∧ recF r 16 4 + recF r 20 4 ≤ 65536) ∧ recF (recOf (small (carried 0 3 1 0))) 16 4 % 64 ≠ 0 ∧
    (let s := (small (carried 0 3 0 0)).arch fun a => { a with rq := [(2, ⟨65536, [], 16, 0⟩)] }; (s.cur.arch.queue 2).occ ≠ 0 ∧ s.carryRec 0 = (small (carried 0 3 0 0)).carryRec 0) ∧
    base.ctx.ckpt = false ∧ base.carryMeet 0 = none ∧ base.cur.hdr.carry = 0 ∧ (small (carried 0 0 0 0)).carryRec 1 = none ∧ (small (carried 0 0 0 0)).carryMeet 1 = none ∧
    (carrying.tensor 3).map (·.size) = some 32 := by decide +kernel
theorem test_end : (match exec (.endTask on) base with
    | .next t => t.cur.id == 0 && (t.coreOf 0).task == 0
    | _ => false) = true := by decide +kernel

theorem witness_BudgetsAndCounters : base.guardOn on = true ∧ base.roomS 3 ∧ base.cur.hdr.topup = true ∧
    (withHdr base fun h => { h with topup := false }).cur.hdr.topup = false ∧ ((withS base 1 65280).rdS 1).toNat + 256 ≤ base.cur.hdr.window ∧
    base.cur.hdr.window < ((withS base 1 65281).rdS 1).toNat + 256 ∧ base.cur.undo.length + 2 ≤ 4096 ∧ (0 : Int) < base.cur.arch.bgi + 0 ∧
    (base.arch fun a => { a with bgi := -5 }).cur.arch.bgi + 5 ≤ 0 :=
  ⟨base_guard.1, base_roomS 3, by decide +kernel⟩
/-- R234: BGTOP adds; BGGIVE moves no more than the budget left, and leaves the task at 0, where a yield is pending. -/
theorem test_budgets : (after (withS (withS base 1 5) 2 7) (.bgtop on 1 2)).map (fun t => (t.cur.arch.bgi, t.cur.arch.bgt)) = some (1000005, 1000007) ∧
    (after (withS (withS base 1 256) 2 2000000) (.bggive on 1 2 false)).map (fun t => (t.cur.arch.bgi, leNat (t.cur.win.read 264 8), t.cur.yieldPending)) =
      some (0, 1000000, true) ∧ sAfter base (.bgrd on 3 .span) 3 = some 65535 := by decide +kernel

theorem witness_SystemRegisters : base.guardOn on = true ∧ base.roomS 3 ∧ base.cur.pend = [] ∧ base.cur.hdr.sys = true ∧
    (withHdr base fun h => { h with sys := false }).cur.hdr.sys = false ∧ 0x030 ≤ 0x030 := ⟨base_guard.1, base_roomS 3, by decide +kernel, by decide +kernel, by decide +kernel, by decide⟩
/-- R57: SLICE at reset is 2^20, and a write of zero leaves it; TRAPREC drops its low six bits; the register lands in the next clock. -/
theorem test_system : sAfter base (.srd on 3 0x030) 3 = some (2 ^ 20) ∧ (after base (.swr on 1 0x030)).map (fun t => (t.stackOf 0).slice) = some (2 ^ 20) ∧
    (after (withS base 1 0x17F) (.swr on 1 0x003)).map (fun t => t.cur.arch.trapRec) = some 0x140#32 ∧
    raisedBy (withHdr base fun h => { h with sys := false }) (.swr on 1 0x030) = some (0x14, [1, 0x030, 0, 0]) := by decide +kernel

/-- A launch record for one instance of one level of domain 0 with the header in tensor 11, at offset 0 of the window, at depth d. -/
def launchRecord (d : Nat) : List Byte :=
  fields 256 [(0, 2, 1), (2, 1, d), (3, 1, 1), (4, 4, 11), (8, 8, 1), (16, 8, 1), (68, 4, 1)]
def launching (d : Nat) : State := withWin (base.setTensor (Tensor.make 11 0 [256] 0 0)) 0 (launchRecord d)
def aSeq : SeqRec := ⟨.live, 0, 9, 0, [9]⟩
theorem pick_isSome (s : State) (l : List Nat) (h : l ≠ []) : (s.pick l).isSome = true := by
  have : 0 < l.length := List.length_pos_iff.mpr h
  simp [State.pick, h, List.getElem?_eq_getElem (Nat.mod_lt _ this)]
theorem seqReserve_isSome (s : State) (owner parent : Nat) (h : (List.range 4096).filter (fun n => n != 0 && (s.keyOf n).st == .free &&
      s.seqs.all fun kv => kv.2.slot != n || kv.2.st == .ended) ≠ []) (hn : (s.nextSeq s.lastSeq 65537).isSome = true) (hr : s.rbgOk = true)
    (hl : s.seqs.length < 65536) : (s.seqReserve .reserved owner parent).isSome = true := by
  obtain ⟨k, hk⟩ := Option.isSome_iff_exists.mp (pick_isSome s _ h)
  obtain ⟨i, hi⟩ := Option.isSome_iff_exists.mp hn
  unfold State.seqReserve
  simp only [hk, hi]
  rw [if_neg (fun h => h.elim (fun h => by rw [hr] at h; cases h) (fun h => absurd hl (Nat.not_lt.mpr h)))]
  rfl
def withSeq : State := { base with seqs := [(5, aSeq)] }
theorem withSeq_reserve : ((withS withSeq 1 5).seqReserve .reserved aSeq.owner ((withS withSeq 1 5).rdS 1).toNat).isSome = true :=
  seqReserve_isSome _ _ _ (by decide +kernel) (by decide +kernel) (by decide +kernel) (by decide +kernel)
def own20 : Binding := ⟨⟨20, 0, 8, 3⟩, true⟩
theorem witness_HeldCommands : (base.guardOn on = true ∧ base.roomS 3 ∧ base.roomQ 3) ∧
    ((withS withSeq 1 5).seqReserve .reserved aSeq.owner ((withS withSeq 1 5).rdS 1).toNat).isSome = true ∧
    (∀ r, Store.look base.seqs (base.rdS 1).toNat = some r → base.forkable r = false ∨ base.seqReserve .reserved r.owner (base.rdS 1).toNat = none) ∧
    base.cur.heldq.length < 64 ∧ (withHeld base 63).cur.heldq.length < 64 ∧
    64 ≤ (withHeld base 64).cur.heldq.length ∧ base.cur.hdr.seq = true ∧ Store.look (withS withSeq 1 5).seqs ((withS withSeq 1 5).rdS 1).toNat = some aSeq ∧
    (withS withSeq 1 5).forkable aSeq = true ∧
    ((withS base 1 65408).rdS 1).toNat + 128 ≤ base.cur.hdr.window ∧ base.cur.hdr.window < ((withS base 1 65409).rdS 1).toNat + 128 ∧
    ((withS base 1 65280).rdS 1).toNat + 256 ≤ base.cur.hdr.window ∧ base.cur.hdr.window < ((withS base 1 65281).rdS 1).toNat + 256 :=
  ⟨⟨base_guard.1, base_roomS 3, base_roomQ 3⟩, withSeq_reserve, (fun _ h => nomatch h), by decide +kernel⟩
theorem witness_HeldCommands_launch : (launching 1).lnchFault ((launching 1).spad 0 256) = none ∧
    (launching 1).cur.level + 1 ≤ recDepth ((launching 1).spad 0 256) ∧
    recDepth (({ launching 1 with cur := { (launching 1).cur with level := 1 } } : State).spad 0 256) < 1 + 1 ∧
    ((launching 1).poolOf ((launching 1).core / 12 * 4096 + 0)).st = .free ∧ base.lnchFault (base.spad 0 256) = some 0 ∧
    (base.arch fun a => { a with h := [(4, some own20)] }).handleOf 4 = some own20 ∧ base.handleOf 4 = none ∧
    (withHdr base fun h => { h with seq := false }).cur.hdr.seq = false := by decide +kernel

/-- A launch in entry 0 of the pool. -/
def joinable (st : PoolSt) (ok : Bool) : State := withS (base.setPool 0 ⟨st, 1, 1, false, false, [], 0, ok, 30, 40⟩) 1 65536
theorem witness_LaunchJoin : base.guardOn on = true ∧ base.roomQ 3 ∧ base.launchOf (base.rdS 1).toNat = none ∧
    (joinable .reserved true).launchOf ((joinable .reserved true).rdS 1).toNat = some 0 ∧ ((joinable .reserved true).poolOf 0).st = .reserved ∧
    (joinable .live true).launchOf 65536 = some 0 ∧ ((joinable .live true).poolOf 0).st = .live ∧ (joinable .ended false).launchOf 65536 = some 0 ∧
    ((joinable .ended false).poolOf 0).ok = false ∧ (joinable .ended true).launchOf 65536 = some 0 ∧ ((joinable .ended true).poolOf 0).ok = true :=
  ⟨base_guard.1, base_roomQ 3, by decide +kernel⟩
theorem test_join : (after (joinable .ended true) (.ljoin on 3 1)).map (fun t => (t.cur.arch.bgi, t.cur.arch.bgt, t.cur.arch.q.getLsbD 3)) =
    some (1000030, 1000040, true) ∧ qAfter base (.ljoin on 3 1) 3 = some false := by decide +kernel

/-- The specification of an i32 tensor of 8 elements, at most 16, id 20, at offset 0. -/
def spec20 : List Byte := fields 64 [(0, 4, 20), (4, 1, 2), (5, 1, 1), (6, 1, 3), (8, 4, 8), (32, 4, 16)]
def defining : State := withWin base 0 spec20
def t20 : Tensor := { Tensor.make 20 2 [8] 0 0 with cap0 := 16, tdef := true, holds := 1 }
def owning : State := (base.setTensor t20).arch fun a => { a with h := [(4, some own20)], made := [(20, 8)] }
theorem roomH_of {s : State} {h : Nat} (e : s.cur.pend = []) : s.roomH h := by intro p hp; rw [e] at hp; cases hp
theorem witness_TensorCommands_handles : defining.roomH 4 ∧ owning.roomH 4 ∧ (base.arch fun a => { a with h := [(4, some own20)] }).roomH 4 :=
  ⟨roomH_of (by decide +kernel), roomH_of (by decide +kernel), roomH_of (by decide +kernel)⟩
theorem witness_TensorCommands : (base.guardOn on = true ∧ base.roomQ 3) ∧ Store.sorted base.dies = true ∧ base.cur.hdr.window < ((withS base 1 65473).rdS 1).toNat + 64 ∧
    ((withS base 1 65472).rdS 1).toNat + 64 ≤ base.cur.hdr.window ∧ base.tdefTensor 4 (base.spad 0 64) = none ∧
    (defining.tdefTensor 4 (defining.spad 0 64)).isSome = true ∧ owning.handleOf 4 = some own20 ∧ owning.tensor 20 = some t20 ∧
    own20.own = true ∧ t20.id = own20.hold.id ∧ 2 ≤ own20.hold.mode ∧ t20.e0 ≤ ((withS owning 1 16).rdS 1).toNat ∧ ((withS owning 1 16).rdS 1).toNat ≤ t20.cap0 ∧
    wholePages (fmtSize t20.fmt (16 * t20.rest)) ≤ owning.hbmFree (homeOf t20.id) + wholePages t20.size ∧ t20.cap0 < ((withS owning 1 17).rdS 1).toNat ∧
    (owning.rdS 1).toNat < t20.e0 ∧
    (let r := defining.spad 0 64
     recF r 0 4 = 20 ∧ specOk r = true ∧ defining.cur.seq = 0 ∧ defining.handleOf 4 = none ∧ Store.look defining.tensors 20 = none ∧ defining.homed (homeOf 20) < 2 ^ 18 ∧
       wholePages (Tensor.make 20 (recF r 4 1) ((List.range (recF r 5 1)).map fun i => recF r (8 + 4 * i) 4) 0 0).size ≤ defining.hbmFree (homeOf 20)) :=
  ⟨⟨base_guard.1, base_roomQ 3⟩, by decide +kernel⟩
/-- Room without a victim: pages and entries left on the home of tensor 20. A tensor that the task has made, and one that it has not. -/
theorem witness_TensorCommands_room : (let x := Tensor.make 20 2 [8] 0 0
      wholePages x.size ≤ defining.hbmFree (homeOf 20) ∧ wholePages x.size / 65536 ≤ defining.entriesLeft (homeOf 20) ∧ defining.homed (homeOf 20) < 2 ^ 18) ∧
    (defining.roomAt 20 (wholePages 32) (wholePages 32 / 65536)).isSome = true ∧ owning.cur.arch.made = [(20, 8)] ∧ own20.hold.id = 20 ∧ t20.id = 20 ∧
    (let more := wholePages (fmtSize t20.fmt (16 * t20.rest)) - wholePages t20.size
     more ≤ owning.hbmFree (homeOf 20) ∧ more / 65536 ≤ owning.entriesLeft (homeOf 20)) ∧ (∀ kv ∈ base.cur.arch.made, kv.1 ≠ t20.id) := by decide +kernel
theorem witness_HeldCommands_made : owning.handleOf 4 = some own20 ∧ own20.own = true ∧ owning.cur.arch.made = [(own20.hold.id, 8)] ∧ owning.cur.heldq.length < 64 := by decide +kernel
theorem test_tgrow : qAfter (withS owning 1 17) (.tgrow on 4 3 1) 3 = some false ∧ qAfter (withS owning 1 16) (.tgrow on 4 3 1) 3 = some true := by decide +kernel

/-! The vector and the special-function operations. -/

theorem witness_VectorIntegers : ET.i8.isInt = true ∧ ET.n64.isInt = true ∧ base.roomV 511 := ⟨rfl, rfl, base_roomV 511⟩
theorem witness_VectorBits : base.roomV 0 := base_roomV 0
theorem witness_VectorFloats : (∃ f, ET.fmt ET.bf16 = some f) ∧ (∃ f, ET.fmt ET.fp16 = some f) ∧ (∃ f, ET.fmt ET.fp32 = some f) ∧ base.roomV 511 ∧ base.noTstat :=
  ⟨⟨_, rfl⟩, ⟨_, rfl⟩, ⟨_, rfl⟩, base_roomV 511, base_noTstat⟩
theorem witness_VectorConversions : (base.roomV 7 ∧ base.noTstat) ∧ ET.fmt .bf16 = some Fmt.bf16 ∧ Fmt.bf16.hasInf = true ∧ ET.n64.isInt = true ∧ ET.i8.isInt = true ∧
    0x3F80 < 2 ^ 16 ∧ fld 0x3F80 7 8 ≠ 0 ∧ fld 0x3F80 7 8 ≠ 255 := ⟨⟨base_roomV 7, base_noTstat⟩, rfl, rfl, rfl, rfl, by decide, by decide, by decide⟩
/-- R81: 2^31 and -2^40 to i32 saturate, with NV; 2.5 to n8 is 2, with NX; a NaN gives 0, with NV; -1 to n32 gives 0, with NV; 2^24 + 1 to binary32 is rounded. -/
theorem test_conversions : convert 0 true false .i32 .fp32 0x4F000000 = (2 ^ 31 - 1, Flags.nv) ∧ convert 0 true false .i32 .fp32 0xD3800000 = (2 ^ 31, Flags.nv) ∧
    convert 0 true false .n8 .fp32 0x40200000 = (2, Flags.nx) ∧ convert 0 true false .i16 .fp32 0x7FC00000 = (0, Flags.nv) ∧
    convert 0 true false .n32 .fp32 0xBF800000 = (0, Flags.nv) ∧ convert 0 true false .fp32 .i32 (2 ^ 24 + 1) = (0x4B800000, Flags.nx) := by decide +kernel
theorem witness_VectorPredicates : base.roomP 0 ∧ base.roomP 15 ∧ base.roomS 63 ∧ base.roomV 511 ∧ ET.i16.isInt = true :=
  ⟨.inl rfl, base_roomP 15, base_roomS 63, base_roomV 511, rfl⟩
theorem witness_VectorPredicates_floats : ET.fmt .fp16 = some Fmt.fp16 ∧ Fmt.fp16.w = 16 ∧ Fmt.fp16.hasInf = true ∧
    (let z := 0x7C01; z < 2 ^ 16 ∧ fld z Fmt.fp16.fb Fmt.fp16.eb = 2 ^ Fmt.fp16.eb - 1 ∧ fld z 0 Fmt.fp16.fb ≠ 0) ∧
    (let z := 0x7C00; fld z 0 Fmt.fp16.fb = 0) ∧ fld 0x3C00 Fmt.fp16.fb Fmt.fp16.eb ≠ 2 ^ Fmt.fp16.eb - 1 := by decide +kernel
theorem witness_VectorMoves : (base.roomV 511 ∧ base.roomS 0) ∧ (v0 .i8).et = .i8 ∧ 2 ≤ 8 ∧ (v0 .i16).et = .i16 ∧ 15 < 16 ∧ 1 < elemCount .w1024 8 / 64 :=
  ⟨⟨base_roomV 511, .inl rfl⟩, by decide⟩

/-- A result queue 2 with n landed bytes and m promised ones. -/
def queued (n m : Nat) : State := base.arch fun a => { a with rq := [(2, ⟨65536, List.replicate n 7, m, 0⟩)] }
theorem witness_VectorReductions : base.roomV 4 ∧ ET.i8.isInt = true ∧ (31 < elemCount .w256 8 ∧ active (base.rdP 0) 8 31 = true) ∧ base.noTstat ∧
    ((queued 16 15).cur.arch.queue 2).data.length + ((queued 16 15).cur.arch.queue 2).promised < Width.w256.bytes ∧
    Width.w256.bytes ≤ ((queued 16 16).cur.arch.queue 2).data.length + ((queued 16 16).cur.arch.queue 2).promised ∧
    ((queued 16 16).cur.arch.queue 2).data.length < Width.w256.bytes ∧ Width.w256.bytes ≤ ((queued 32 0).cur.arch.queue 2).data.length :=
  ⟨base_roomV 4, rfl, by decide +kernel, base_noTstat, by decide +kernel⟩
theorem witness_SpecialFunctions : base.roomV 4 ∧ base.noTstat ∧ 0x7F800001 < 2 ^ 32 ∧ fld 0x7F800001 23 8 = 255 ∧ fld 0x7F800001 0 23 ≠ 0 ∧
    0x80800000 ≤ 0x80800000 ∧ 0x80800000 < 0xFF800000 ∧ 0xFF7FFFFF < 0xFF800000 := ⟨base_roomV 4, base_noTstat, by decide, by decide, by decide, by decide, by decide, by decide⟩

/-- A largest active element, an infinity, and zeros alone, for VBSC. -/
def finOr (v : FVal) (p : Bool → Nat → Int → Bool) : Bool := match v with | .fin n m e => p n m e | _ => false
theorem finOr_iff {v : FVal} {p : Bool → Nat → Int → Bool} (h : finOr v p = true) : ∃ n m e, v = .fin n m e ∧ p n m e = true := by
  cases v with
  | fin n m e => exact ⟨n, m, e, rfl, h⟩
  | _ => cases h
theorem witness_VectorReductions_scale : ET.fmt .fp32 = some Fmt.fp32 ∧ (Fmt.fp32.decode 0x7F800000).isInf = true ∧ (Fmt.fp32.decode 0x7FC00000).isNan = true ∧
    (∀ i, i < 32 → (dazV base.tctl (Fmt.fp32.decode (elem (base.rdV 1) 32 i))).isZero = true) ∧
    (let s := withV base 1 (BitVec.ofNat 1024 (0x41000000 * 2 ^ 64 + 0xBF800000))
     let x := fun i => dazV s.tctl (Fmt.fp32.decode (elem (s.rdV 1) 32 i))
     finOr (x 2) (fun _ m e => m != 0 && (List.range 32).all fun j => finOr (x j) fun _ mj ej =>
       decide (mj * 2 ^ (ej + 300).toNat ≤ m * 2 ^ (e + 300).toNat)) = true ∧ active (s.rdP 0) 32 2 = true) := by decide +kernel
/-- R162: a largest element of 8 gives 3 + 128; nothing but zeros, 0; an infinity, 0xFF. -/
theorem test_scale_code : vAfter (withV base 1 (BitVec.ofNat 1024 (0x41000000 * 2 ^ 64 + 0xBF800000))) (.vbsc (v0 .fp32) 3 1) 3 8 0 = some 131 ∧
    vAfter base (.vbsc (v0 .fp32) 3 1) 3 8 0 = some 0 ∧ vAfter (withV base 1 0x7F800000) (.vbsc (v0 .fp32) 3 1) 3 8 0 = some 0xFF := by decide +kernel
/-- The finite values whose bounds SpecialBounds states: a reciprocal, a root, an exponential and a sine of a small and of a large argument, of which neither
R166 nor R167 gives the value. -/
def isFin (v : FVal) : Bool := match v with | .fin _ _ _ => true | _ => false
def inexactOf (op : FOp) (x : Nat) : Bool := match srcF .fp32 0 x with
  | .fin n m e => m != 0 && (fSpecial op (.fin n m e)).isNone && (fExact op n m e).isNone && match fCompute op n m e with
    | .fin _ ym ye => decide (ym * 2 ^ (ye + 2000).toNat ≤ (2 ^ 24 - 1) * 2 ^ 2104)
    | _ => false
  | _ => false
def largeAngle (x : Nat) : Bool := match srcF .fp32 0 x with | .fin _ m e => decide (2 ^ 15 * fxPi < fxOf false m e) | _ => false
theorem witness_SpecialBounds : isFin (srcF .fp32 0 0x40400000) = true ∧ 0x40400000 % 2 ^ 16 = 0 ∧ inexactOf .exp 0x40400000 = true ∧ inexactOf .rsq 0x40400000 = true ∧
    inexactOf .gelu 0xC0400000 = true ∧ inexactOf .sin 0x40400000 = true ∧ largeAngle 0x40400000 = false ∧ inexactOf .cos 0x48400000 = true ∧ largeAngle 0x48400000 = true ∧
    (match srcF .fp32 0 0x40400000 with | .fin n m e => (fDeliver .rcp 0 (.fin n m e) (bitsOf .fp32 (.fin n m e))).2 &&& Flags.ovf == 0 && !n | _ => false) = true := by decide +kernel
/-- R139, R140: the bytes 0x7F and 1 of v1 and v2: VADD wraps, VADDS saturates, VAVG rounds up; VMULH is the high byte. -/
theorem test_vector_int : let s := withV (withV base 1 0x7F) 2 1
    vAfter s (.vadd (v0 .i8) 3 1 2) 3 8 0 = some 0x80 ∧ vAfter s (.vadds (v0 .i8) 3 1 2) 3 8 0 = some 0x7F ∧ vAfter s (.vavg (v0 .i8) 3 1 2) 3 8 0 = some 0x40 ∧
    vAfter s (.vmulh (v0 .i8) 3 1 1) 3 8 0 = some 0x3F ∧ vAfter s (.vneg (v0 .i8) 3 2) 3 8 0 = some 0xFF ∧ vAfter s (.vsubs (v0 .n8) 3 2 1) 3 8 0 = some 0 := by decide +kernel
/-- R48, R136: element 0 inactive keeps its bytes in the merging mode and is zeroed in the zeroing mode; elements beyond W stay. -/
theorem test_vector_modes : let s := (withV (withV base 1 5) 3 9).arch fun a => { a with p := Store.set 0 a.p 4 (BitVec.allOnes 128 <<< 1) }
    vAfter s (.vadd ⟨.w256, 4, .i8, false⟩ 3 1 1) 3 8 0 = some 9 ∧ vAfter s (.vadd ⟨.w256, 4, .i8, true⟩ 3 1 1) 3 8 0 = some 0 ∧
    vAfter (withV s 3 (BitVec.ofNat 1024 (9 * 2 ^ 256))) (.vldi ⟨.w256, 0, .i8, false⟩ 3 1) 3 8 32 = some 9 := by decide +kernel
/-- R149, R154, R155, R156: VRND of 2.5 to even is 2; VSLD reads zero beyond the last element; VIOTA counts; VRADD adds signed bytes. -/
theorem test_vector_more : vAfter (withV base 1 0x40200000) (.vrnd (v0 .fp32) 3 1) 3 32 0 = some 0x40000000 ∧
    vAfter (withS (withV base 1 5) 2 1) (.vsld (v0 .i32) 3 1 2) 3 32 31 = some 0 ∧ vAfter base (.viota (v0 .i16) 3) 3 16 63 = some 63 ∧
    vAfter (withV base 1 0xFFFF) (.vradd (v0 .i8) 3 1) 3 64 0 = some (2 ^ 64 - 2) ∧ vAfter base (.vbc (v0 .i16) 3 58) 3 16 5 = some 0 ∧
    vAfter (withS base 2 3) (.vins (v0 .i16) 3 2 2) 3 16 3 = some 3 := by decide +kernel
/-- R82: 65 elements of NP16 take two blocks. R90: under FTZ, VRMAX of a subnormal and minus infinity is +0. -/
theorem test_reviewed : fmtSize 0x20 65 = 256 ∧ fmtSize 0x20 64 = 128 ∧
    vAfter ((withV base 1 (BitVec.ofNat 1024 ((List.range 32).foldl (fun acc i => acc + (if i = 0 then 1 else 0xFF800000) * 2 ^ (32 * i)) 0))).arch fun a =>
      { a with tctl := 8 }) (.vrmax (v0 .fp32) 3 1) 3 32 0 = some 0 := by decide +kernel
/-- R166: FRCP of 2 is 0.5; FSQRT of 4 is 2; FEXP2 of 0 is 1; the root of -1 is a NaN with NV. -/
theorem test_special : vAfter (withV base 1 0x40000000) (.frcp f0 3 1) 3 32 0 = some 0x3F000000 ∧ vAfter (withV base 1 0x40800000) (.fsqrt f0 3 1) 3 32 0 = some 0x40000000 ∧
    vAfter base (.fexp2 f0 3 1) 3 32 0 = some 0x3F800000 ∧ vAfter (withV base 1 0xBF800000) (.fsqrt f0 3 1) 3 32 0 = some 0x7FC00000 := by decide +kernel

/-! The matrix engine. -/

/-- An operand descriptor of kind k, two planes stored and read, unit scales, rows and planes 8 bytes apart, with the mode and the base. -/
def desc (k mode at_ : Nat) : BitVec 512 :=
  BitVec.ofNat 512 (k + mode * 2 ^ 4 + 2 * 2 ^ 6 + 2 * 2 ^ 11 + 2 ^ 16 + at_ * 2 ^ 32 + (if mode = 1 then 0 else 8 * 2 ^ 64) + 8 * 2 ^ 128)
def gatherDesc : BitVec 512 := desc 1 2 0 + BitVec.ofNat 512 (200 * 2 ^ 208 + 4096 * 2 ^ 224)
def aNest : BitVec 512 := BitVec.ofNat 512 (4 + 64 * 2 ^ 16 + 4 * 2 ^ 32 + 64 * 2 ^ 48 + 2 ^ 64 + 2 ^ 72 + 2 ^ 80 + 2 ^ 88 + 2 ^ 96 + 2 ^ 104 + 2 ^ 128)
/-- Descriptors 0 to 3 hold an A operand of each mode, with the nest of a replay, 4 a B operand. -/
def armed : State := base.arch fun a => { a with
  od := [(0, some (desc 1 0 0)), (1, some (desc 1 1 0)), (2, some gatherDesc), (4, some (desc 2 0 0))], nest := [(1, some aNest)] }
def busyTile : State := { armed with cur := { armed.cur with array := [⟨.zero, 3, 1, 0, false, 0, ⟨[], []⟩, [], [], 0, 0⟩] } }
theorem witness_MatrixIssue : busyTile.cur.busy 3 = true ∧ armed.cur.busy 3 = false ∧ armed.mmaCheck 0 0 4 1 = none ∧ armed.mmaCheck 1 1 4 1 = none ∧
    armed.mmaCheck 2 2 4 1 = none ∧ armed.mmaCheck 0 5 4 1 = some ⟨0x0D, 0, [5, 1, 0, 0], none⟩ ∧ armed.drainCheck 0 .fp32 none = none ∧
    armed.drainCheck 0 .fp32 (some 5) = some ⟨0x0D, 0, [5, 1, 0, 0], none⟩ := by decide +kernel

theorem witness_MatrixChecks : Store.get none armed.cur.arch.od 0 = some (desc 1 0 0) ∧ Store.get none armed.cur.arch.od 5 = none ∧
    Store.get none armed.cur.arch.od 4 = some (desc 2 0 0) ∧ odKind (desc 2 0 0) ≠ 1 ∧ odKind (desc 1 0 0) = 1 ∧ odKind (desc 1 0 0) ≠ 2 ∧ odKind (desc 2 0 0) = 2 ∧
    odMode (desc 1 0 0) ≠ 1 ∧ odMode (desc 1 1 0) = 1 ∧ Store.get none (armed.arch fun a => { a with nest := [] }).cur.arch.nest 1 = none ∧
    odSU (desc 1 0 0) = true ∧ odSU (desc 2 0 0) = true ∧ 1 ≤ 1 ∧
    (let d := desc 1 0 64504; odBase d + 127 * odRstride d + (1 - 1) * odBstride d + (odQ d - 1) * odPstride d + 8 = armed.cur.hdr.window) ∧
    (let q := armed.cur.arch.queue 0; q.data.length + q.promised + q.retained + drainBytes .fp32 = q.cap) ∧
    (let q := armed.cur.arch.queue 2; q.cap < q.data.length + q.promised + q.retained + drainBytes .fp32) := by decide +kernel
/-- Scales at 16384 in one column of 32 blocks; at an offset that is no multiple of 1024; at the end of the window; and the index list: its entry 5 is 200. -/
def scaled (at_ cols : Nat) : BitVec 512 := desc 1 0 0 - BitVec.ofNat 512 (2 ^ 16) + BitVec.ofNat 512 (at_ * 2 ^ 160 + cols * 2 ^ 192)
def listed : State := withWin armed 4096 [0, 0, 0, 0, 0, 0, 0, 0, 0, 0, 200, 0]
/-- The planes of an operand, as MatrixChecks names them. -/
def planesOf_ (d : BitVec 512) (addr : Nat → Nat → Option Nat) (kb : Nat) : List Nat :=
  ((List.range 128).map fun r => ((List.range kb).map fun k => match addr r k with
    | some p => (List.range (odQ d)).map fun j => p + j * odPstride d
    | none => []).flatten).flatten
theorem witness_MatrixChecks_operands : (let d := gatherDesc + BitVec.ofNat 512 (61185 * 2 ^ 224)
      odKind d = 1 ∧ odMode d = 2 ∧ armed.cur.hdr.window < odAux d + 256) ∧ odAux gatherDesc + 256 ≤ armed.cur.hdr.window ∧ odMode (desc 1 0 0) ≠ 1 ∧
    (let n := aNest; bf n 64 8 * bf n 72 8 * bf n 128 16 < 2 ∧ 1 ≤ bf n 64 8 * bf n 72 8 * bf n 128 16) ∧ Store.get none armed.cur.arch.nest 1 = some aNest ∧
    (let l := listed.indexList gatherDesc
     l.getD 5 0 ≠ 0xFFFF ∧ odRows gatherDesc ≤ l.getD 5 0 ∧ ∀ j, j < 5 → l.getD j 0 = 0xFFFF ∨ l.getD j 0 < odRows gatherDesc) ∧
    (let l := armed.indexList gatherDesc; ∀ i, i < 128 → l.getD i 0 = 0xFFFF ∨ l.getD i 0 < odRows gatherDesc) ∧
    odSU (scaled 16385 1) = false ∧ odScale (scaled 16385 1) % 1024 ≠ 0 ∧
    (odScale (scaled 16384 0) % 1024 = 0 ∧ odScols (scaled 16384 0) < (1 + 31) / 32) ∧
    (let d := scaled 62464 1; odScale d % 1024 = 0 ∧ (32 + 31) / 32 ≤ odScols d ∧ armed.cur.hdr.window < odScale d + 4096 * odScols d) ∧
    (let d := scaled 61440 1; odScale d % 1024 = 0 ∧ (32 + 31) / 32 ≤ odScols d ∧ odScale d + 4096 * odScols d ≤ armed.cur.hdr.window) ∧
    (odKind (desc 3 0 65024) = 3 ∧ odBase (desc 3 0 65024) + 512 ≤ armed.cur.hdr.window ∧ armed.cur.hdr.window < odBase (desc 3 0 65025) + 512) := by decide +kernel
/-- The planes of an A operand at the end of the window, and one byte further, where the byte behind the window is the only one read beyond it. -/
theorem witness_MatrixChecks_planes : (∀ p ∈ planesOf_ (desc 1 0 64504) (aAddr (desc 1 0 64504) none []) 1, p + 8 ≤ 65536) ∧
    (∀ p ∈ planesOf_ (desc 1 0 64505) (aAddr (desc 1 0 64505) none []) 1, p + 8 ≤ 65537) ∧ 65529 ∈ planesOf_ (desc 1 0 64505) (aAddr (desc 1 0 64505) none []) 1 := by decide +kernel
/-- A descriptor at offset 64 of the window: one that keeps R170, one of kind 0, one of kind 4; the nest; the queues. -/
def described (d : BitVec 512) : State := withWin base 64 (leBytes d.toNat 64)
def readDesc (s : State) (off : Nat) : BitVec 512 := BitVec.ofNat 512 (leNat (s.spad (64 * off) 64))
theorem witness_MatrixChecks_load : 64 * 1023 + 64 ≤ base.cur.hdr.window ∧ base.cur.hdr.window < 64 * 1024 + 64 ∧
    odFault (readDesc (described (desc 1 0 0)) 1) = none ∧ odFault (readDesc (described (desc 4 0 0)) 1) = some 0 ∧ odKind (readDesc base 1) = 0 ∧ odFault (readDesc base 1) = none ∧
    nestFault (readDesc (described aNest) 1) = none ∧ nestFault (readDesc base 1) = some 0 ∧
    (let q := (queued 1 0).cur.arch.queue 2; 0 < q.data.length + q.promised + q.retained) ∧ (let q := base.cur.arch.queue 2; q.data.length + q.promised + q.retained = 0) ∧
    (let others := (((List.range 8).filter (· ≠ 2)).map fun i => (base.cur.arch.queue i).cap).sum
     base.cur.hdr.allot < others + 4096 * 9 ∧ others + 4096 * 8 ≤ base.cur.hdr.allot) := by decide +kernel

def arrayOp (k : ArrayKind) (clocks done : Nat) (started : Bool) : ArrayOp := ⟨k, 3, clocks, done, started, 0, ⟨[], []⟩, [], [], 0, 0⟩
/-- An operation of the array of core 0, alone. -/
def arrayed (k : ArrayKind) (clocks done : Nat) (started : Bool) : State :=
  { base with cur := { base.cur with array := [arrayOp k clocks done started] } }
theorem witness_MatrixArray : (arrayed .zero 1 0 false).runner 0 = some (arrayed .zero 1 0 false).cur ∧ (arrayed .zero 1 1 true).runner 0 = some (arrayed .zero 1 1 true).cur ∧
    (let o := arrayOp (.mma false 0 4 1 none (desc 1 0 0) (desc 2 0 0) []) 2 2 true; o.started = true ∧ o.clocks ≤ o.done) ∧
    (let o := arrayOp (.drain 0 .bf16 false none none) 32 32 true; o.started = true ∧ o.clocks ≤ o.done) ∧
    (let o := arrayOp (.drain 0 .bf16 false none none) 32 0 true; o.started = true ∧ o.clocks = 32 ∧ o.done = 0 ∧ o.rest = [] ∧ o.flags = 0 ∧ o.mids = [] ∧
      o.snap = (arrayed (.drain 0 .bf16 false none none) 32 0 true).cur.win) ∧
    Store.sorted base.cur.arch.rq = true := by decide +kernel

/-- The values of the block arithmetic: an accumulator of 1, infinity and a NaN, a zero and a finite product; a block with an infinity, one of zeros, one of 1 and 0. -/
theorem witness_BlockArithmetic : (254 < 0xFF ∧ 1 ≤ 2 ∧ 2 ≤ 16) ∧ (FVal.fin false 0 0).isZero = true ∧ (FVal.fin true 3 (-600)).isZero = false ∧
    isFin (srcF .fp32 0 0x3F800000) = true ∧ srcF .fp32 0 0x7F800000 = .inf false ∧ srcF .fp32 0 0x7FC00000 = .nan ∧ (2 ≤ 8 ∧ 8 ≤ 16) ∧
    (∃ v, v ∈ [FVal.inf true, .fin false 1 0] ∧ (v.isNan = true ∨ v.isInf = true)) ∧
    (∀ v, v ∈ [FVal.fin false 0 0, .fin true 0 0].map (dazV 0) → v.isZero = true) ∧
    ((∃ v, v ∈ [FVal.fin false 1 0, .fin true 0 0].map (dazV 0) ∧ v.isZero = false) ∧ ∀ v ∈ [FVal.fin false 1 0, .fin true 0 0], v.isNan = false ∧ v.isInf = false) := by decide +kernel

/-! The window. -/

theorem witness_WindowLoads : base.guardOn on = true ∧ base.roomV 1 ∧ base.roomS 1 ∧ base.roomP 1 ∧ base.cur.races.alts = [] ∧ (base.rdS 1).toNat + 128 * 511 + 128 = base.cur.hdr.window ∧
    base.cur.hdr.window < ((withS base 1 1).rdS 1).toNat + 128 * 511 + 128 ∧ ((withS base 1 63481).rdS 1).toNat + 2047 + 8 = base.cur.hdr.window ∧
    base.cur.hdr.window < ((withS base 1 63482).rdS 1).toNat + 2047 + 8 ∧ ((withS base 1 112).rdS 1).toNat + 128 * 511 + 16 = base.cur.hdr.window ∧
    base.cur.hdr.window < ((withS base 1 113).rdS 1).toNat + 128 * 511 + 16 :=
  ⟨base_guard.1, base_roomV 1, base_roomS 1, base_roomP 1, by decide +kernel⟩
/-- Offsets of 32 elements in v2: all 0 beside a base at the last word, and element 3 one byte further. -/
theorem witness_WindowLoads_indexed : (let s := withS base 1 65532; ∀ i, i < 32 → (s.rdS 1).toNat + elem (s.rdV 2) 32 i + 4 ≤ s.cur.hdr.window) ∧
    (let s := withS (withV base 2 (BitVec.ofNat 1024 (2 ^ 96))) 1 65532
     s.cur.hdr.window < (s.rdS 1).toNat + elem (s.rdV 2) 32 3 + 4 ∧
     ∀ j, j < 32 → s.cur.hdr.window < (s.rdS 1).toNat + elem (s.rdV 2) 32 j + 4 →
       max ((s.rdS 1).toNat + elem (s.rdV 2) 32 3) s.cur.hdr.window ≤ max ((s.rdS 1).toNat + elem (s.rdV 2) 32 j) s.cur.hdr.window) := by decide +kernel
/-- A window descriptor: 8 elements of 4 bytes, one dimension. -/
def wd8 : BitVec 512 := BitVec.ofNat 512 (8 + 2 ^ 445 + 2 * 2 ^ 448)
theorem witness_WindowLoads_descriptor : (let s := withWin base 64 (leBytes wd8.toNat 64)
      (s.rdS 1).toNat + 64 * 1 + 64 ≤ s.cur.hdr.window ∧ wdFault (readDesc s 1) = none) ∧ wdFault (readDesc base 1) = some 445 ∧
    base.cur.hdr.window < (base.rdS 1).toNat + 64 * 1024 + 64 := by decide +kernel

theorem witness_WindowStores : Memory.wf base.cur.win.bytes = true ∧ task.races = Races.init ∧ base.guardOn on = true ∧
    base.cur.hdr.window < ((withS base 1 63482).rdS 1).toNat + 2047 + (leBytes 0 8).length ∧ ((withS base 1 63481).rdS 1).toNat + 2047 + (leBytes 0 8).length ≤ base.cur.hdr.window ∧
    base.cur.undo.length + (base.cur.newLines (linesOf 0 8)).length ≤ 4096 ∧
    (let s := { base with cur := { base.cur with undo := (List.range 4096).map fun k => ⟨k + 1, []⟩ } }
     4096 < s.cur.undo.length + (s.cur.newLines (linesOf 0 8)).length) ∧
    (let s := withS base 1 65532; ∀ i, i < 32 → (s.rdS 1).toNat + elem (s.rdV 2) 32 i + 4 ≤ s.cur.hdr.window) ∧ base.cur.undo.length + 64 ≤ 4096 := by decide +kernel
/-- STVX of 32 words at one offset: one line more than the log holds, and one line fewer. -/
def logged (n : Nat) : State := withS { base with cur := { base.cur with undo := (List.range n).map fun k => ⟨k, []⟩ } } 1 65532
def stvxLines (s : State) : Nat := s.cur.undo.length + (s.cur.newLines ((List.range 32).flatMap fun i => linesOf ((s.rdS 1).toNat + elem (s.rdV 2) 32 i) 4)).length
theorem witness_WindowStores_full : (∀ i, i < 32 → ((logged 4096).rdS 1).toNat + elem ((logged 4096).rdV 2) 32 i + 4 ≤ (logged 4096).cur.hdr.window) ∧
    (logged 1000).rdV 2 = 0 ∧ stvxLines (logged 1000) = 1001 := by decide +kernel
/-- R194, R196: STS then LDS of the same word; a store at the last word is in, one byte further is a window fault. -/
theorem test_window : ((after (withS (withS base 1 8) 2 0x1122334455667788) (.sts on 2 1 0)).bind fun t => sAfter t (.lds on 3 1 0) 3) = some 0x1122334455667788 ∧
    ((after (withS (withS base 1 8) 2 0x1122334455667788) (.sts on 2 1 0)).map fun t => (t.cur.win.byte 8, t.cur.undo)) = some (0x88, [⟨0, List.replicate 64 0⟩]) ∧
    raisedBy (withS base 1 65529) (.sts on 2 1 0) = some (4, [65536, 65536, 0xFF, 0]) := by decide +kernel

/-! Global accesses, copies, tokens and barriers. -/

/-- Tensor 10: 64 elements of 4 bytes, of which element k is k + 1, on a page of its own, bound to h4 for reading and writing. -/
def bound : Binding := ⟨⟨10, 0, 64, 3⟩, false⟩
def stored : State :=
  let s := (base.setTensor (Tensor.make 10 2 [64] 0 0)).writeId 10 0 ((List.range 64).map fun k => leBytes (k + 1) 4).flatten
  s.arch fun a => { a with h := [(4, some bound)] }
def tensor10 : Tensor := (stored.tensor 10).getD (Tensor.make 0 0 [] 0 0)
theorem some_getD {α : Type} {o : Option α} {d : α} (h : o.isSome = true) : o = some (o.getD d) := by cases o <;> simp_all
theorem tensor10_eq : stored.tensor 10 = some tensor10 := some_getD (by decide +kernel)
def page10 : PageEnt := (stored.page (tensor10.entry 0)).getD ⟨0, false, false, 0, 0, 0, 0, 0, [], 0⟩
theorem page10_eq : stored.page (tensor10.entry 0) = some page10 := some_getD (by decide +kernel)
theorem tensor10_of {s : State} (h : s.tensors = stored.tensors) : s.tensor 10 = some tensor10 := by
  rw [← tensor10_eq, State.tensor, State.tensor, h]
theorem page10_of {s : State} (h : s.pages = stored.pages) : s.page (tensor10.entry 0) = some page10 := by
  rw [← page10_eq, State.page, State.page, h]
def holdMode (m : Nat) : State := stored.arch fun a => { a with h := [(4, some ⟨⟨10, 0, 64, m⟩, false⟩)] }
/-- The page in another coherence class. -/
def inClass (c : Nat) : State := stored.setPage (tensor10.entry 0) { page10 with coh := c }
def bound1 : Binding := ⟨⟨10, 0, 64, 1⟩, false⟩
def bound2 : Binding := ⟨⟨10, 0, 64, 2⟩, false⟩
theorem witness_GlobalFaults : base.guardOn on = true ∧ stored.tensor 10 = some tensor10 ∧
    (∃ b, (holdMode 1).handleOf 4 = some b ∧ b.hold.mode &&& 3 ≠ 3 ∧ b.hold.mode &&& 2 ≠ 2 ∧ b.hold.mode &&& 1 = 1) ∧
    (∃ b, (holdMode 2).handleOf 4 = some b ∧ b.hold.mode &&& 1 ≠ 1) ∧
    base.handleOf 4 = none ∧ stored.handleOf 4 = some bound ∧ bound.hold.mode &&& 3 = 3 ∧ elemBytes (stored.fmtOf 10) = 4 ∧
    (let x := ((withS stored 1 64).rdS 1).toNat; 64 * 4 < x * 4 + 1) ∧ (let x := ((withS stored 1 63).rdS 1).toNat; x * 4 + 4 ≤ 64 * 4 ∧ x * 4 % 4 = 0 ∧ 64 * 4 < x * 4 + 8) ∧
    (let x := ((withS stored 1 61).rdS 1).toNat; x * 4 + 8 ≤ 64 * 4 ∧ x * 4 % 8 ≠ 0) ∧
    (inClass 0).pageClass tensor10 0 = 0 ∧ (inClass 1).pageClass tensor10 0 = 1 ∧ (inClass 2).pageClass tensor10 0 = 2 ∧
    (stored.coreOf stored.core).early.isNone = true ∧ bound.hold.count ≤ ((withS stored 1 64).rdS 1).toNat ∧ ((withS stored 1 63).rdS 1).toNat < bound.hold.count ∧
    (let s := (base.setTensor (Tensor.make 10 1 [64] 0 0)).arch fun a => { a with h := [(4, some bound)] }
     (s.rdS 1).toNat < bound.hold.count ∧ elemBytes (s.fmtOf 10) ≠ 4 ∧ elemBytes (s.fmtOf 10) ≠ 8) :=
  ⟨base_guard.1, tensor10_eq, ⟨bound1, by decide +kernel⟩, ⟨bound2, by decide +kernel⟩, by decide +kernel⟩

theorem roomS_of {s : State} {n : Nat} (h : s.cur.pend = []) : s.roomS n := .inr fun p hp => by rw [h] at hp; cases hp
theorem witness_GlobalAccesses : stored.roomS 2 ∧ stored.tensor bound.hold.id = some tensor10 ∧ stored.page (tensor10.entry 0) = some page10 ∧
    stored.guardOn on = true ∧ stored.cur.stores = [] ∧ stored.nc = [] ∧ (stored.coreOf stored.core).meets = none ∧
    (stored.coreOf stored.core).early.isNone = true ∧ stored.handleOf 4 = some bound ∧
    Memory.wf stored.mem = true ∧ isProxy bound.hold.id = false ∧ tensor10.entry 0 ≠ 0 ∧ page10.coh ≠ 0 ∧ stored.meet tensor10 0 8 = none ∧ bound.hold.mode &&& 3 = 3 ∧
    (let x := ((withS stored 1 62).rdS 1).toNat; x * 4 + 8 ≤ 64 * 4 ∧ x * 4 % 8 = 0 ∧ x * 4 % tensor10.pageBytes + 8 ≤ tensor10.pageBytes) ∧
    (let x := ((withS stored 1 63).rdS 1).toNat; x * 4 + 4 ≤ 64 * 4 ∧ x * 4 % 4 = 0 ∧ x * 4 % tensor10.pageBytes + 4 ≤ tensor10.pageBytes) ∧
    stored.classOf none = 0 ∧ stored.classOf (some 7) ≠ 0 ∧ atomicOk page10.coh .package true = true ∧ atomicOk 2 .system true = true ∧ elemBytes tensor10.fmt = 4 :=
  ⟨roomS_of (by decide +kernel), tensor10_eq, page10_eq, by decide +kernel⟩
/-- A store of stack 0 on an NC page, at 64; a store of class 1 to element 2, still to come; a window of another device, whose proxy h4 names. -/
def ncStore : NcStore := ⟨64, [9], 0, 2, 1, none⟩
def comes : PStore := ⟨1, 0, 10, 8, leBytes 77 4, 0, 0, 0⟩
def coming : State := { stored with cur := { stored.cur with stores := [comes] } }
/-- R223: an AMOC that compares unequal on an NC page leaves another stack's store there alone. R245, R292: a byte at +192 is named as such. -/
theorem test_amoc_fails : (let s := { withS (withS (inClass 0) 1 5) 2 7 with nc := [ncStore] }
      (after s (.amoc on 4 .b4 1 2 .core)).map fun t => (t.nc, (Store.get 0 t.cur.arch.s 2).toNat)) = some ([ncStore], 6) ∧
    (launching 1).launchFault (fields 256 [(0, 2, 1), (2, 1, 1), (3, 1, 1), (4, 4, 11), (8, 8, 1), (16, 8, 1), (68, 4, 1), (200, 1, 1)]) = some 192 := by decide +kernel
def proxyId : Nat := 3 * 2 ^ 28 + 2
def through (perms : Nat) : State :=
  { (base.arch fun a => { a with h := [(4, some ⟨⟨proxyId, 0, 16, 3⟩, false⟩)] }) with imports := [(2, ⟨1, 0, 0, 16, 2, perms, 4, 1, 1⟩)] }
theorem witness_GlobalAccesses_forms : (({ stored with nc := [ncStore] } : State).nc = [] ++ [ncStore] ∧ ncStore.addr ≤ 64 ∧ 64 < ncStore.addr + ncStore.bytes.length ∧
      (Agent.onStack 0).stack = some ncStore.stack ∧ (Agent.onStack 1).stack ≠ some ncStore.stack ∧ ¬ (Agent.onStack 1).scope ≤ ncStore.reach) ∧
    ((inClass 0).page (tensor10.entry 0)).map (·.coh) = some 0 ∧ (inClass 0).cur.stores = [] ∧ (inClass 0).nc = [] ∧
    (coming.cur.stores = [comes] ∧ coming.cur.fences = [] ∧ coming.cur.id ≠ 0 ∧ coming.nc = [] ∧ comes.tensor = bound.hold.id ∧
      (coming.page (tensor10.entry (comes.offset / tensor10.pageBytes))).map (·.coh) = some page10.coh ∧
      comes.offset % tensor10.pageBytes + comes.bytes.length ≤ tensor10.pageBytes ∧ coming.meet tensor10 comes.offset comes.bytes.length = none ∧
      coming.classOf none = 0 ∧ coming.classOf (some 1) = comes.cls ∧ coming.classOf (some 2) ≠ 0 ∧ coming.classOf (some 2) ≠ comes.cls) ∧
    (isProxy proxyId = true ∧ (through 4).tensor proxyId = none ∧ Store.look (through 4).imports (importKey proxyId) = some ⟨1, 0, 0, 16, 2, 4, 4, 1, 1⟩ ∧
      (4 : Nat).testBit 2 = true ∧ (3 : Nat).testBit 2 = false ∧ elemBytes 2 = 4 ∧ (through 4).cur.stores = [] ∧
      (let x := ((through 4).rdS 1).toNat; x * 4 + 4 ≤ 16 * 4 ∧ x * 4 % 4 = 0)) := by decide +kernel
/-- R267, R271: the load of the store's own class sees it; that of another class, the older value. R346: an atomic without permission. -/
theorem test_global_order : sAfter (withS coming 1 2) (.ldg on 4 .b4 1 2 (some 1)) 2 = some 77 ∧ sAfter (withS coming 1 2) (.ldg on 4 .b4 1 2 (some 2)) 2 = some 3 ∧
    raisedBy (through 3) (.amo on 4 .add 1 2 .core) = some (0x10, [proxyId, 0, 5, 0]) := by decide +kernel
/-- R221, R222: LDG of element 5; AMO ADD gives the old value and leaves the sum; AMOC that compares equal stores; a range of 64 ends at 64. -/
theorem test_global : sAfter (withS stored 1 5) (.ldg on 4 .b4 1 2 none) 2 = some 6 ∧
    ((after (withS (withS stored 1 5) 2 10) (.amo on 4 .add 1 2 .core)).map fun t => ((Store.get 0 t.cur.arch.s 2).toNat, leNat (t.idBytes 10 20 4))) = some (6, 16) ∧
    ((after (withS (withS (withS stored 1 5) 2 6) 3 99) (.amoc on 4 .b4 1 2 .core)).map fun t => leNat (t.idBytes 10 20 4)) = some 99 ∧
    raisedBy (withS stored 1 64) (.ldg on 4 .b4 1 2 none) = some (0x0B, [4, 64, 3, 0]) := by decide +kernel

theorem witness_AtomicsAndFences : 0 < 32 ∧ 2 ^ 32 - 1 < 2 ^ 32 ∧ 0 < 2 ^ 32 ∧ base.guardOn on = true ∧ (128 : Nat).testBit 7 = true := by decide +kernel
/-- R222: -1 is the signed minimum and the natural maximum of -1 and 1. -/
theorem test_amo : amoNew .min 32 (2 ^ 32 - 1) 1 = 2 ^ 32 - 1 ∧ amoNew .minu 32 (2 ^ 32 - 1) 1 = 1 ∧ amoNew .add 32 (2 ^ 32 - 1) 1 = 0 := by decide +kernel

/-- A fence of class 1 behind a store of class 1; a store of a stack on an NC page, on its way to the reach of the fence. -/
theorem witness_Fences : (comes.place < (({ coming with cur := { coming.cur with place := 1 } } : State)).cur.place ∧ (2 : Nat).testBit comes.cls = true) ∧
    comes.before (coming.cur.fences ++ [⟨1, 2⟩]) 2 1 = true ∧ (stored.cur.stores = [] ∧ Memory.wf stored.mem = true ∧ stored.cur.id ≠ 0) ∧ (Agent.onStack 0).scope ≤ 5 ∧
    (let s := { stored with nc := [{ ncStore with task := 1 }] }; ∀ n ∈ s.nc, n.task = s.cur.id ∧ n.copy = none) := by decide +kernel

/-- The descriptors of the copies in wd1: 8 elements; in wd2, 8 rows of 1 element by an index list of zeros; in wd3, to core 0. -/
def wdRows : BitVec 512 := BitVec.ofNat 512 (1 + 8 * 2 ^ 20 + 2 ^ 120 + 4 * 2 ^ 280 + 2 * 2 ^ 445 + 2 * 2 ^ 448)
def wdCore0 : BitVec 512 := wd8 + BitVec.ofNat 512 (2 ^ 464)
/-- A transform chain of one block at 4096: the bilinear resize of 8 by 4 bytes to 4 by 2, the last link. -/
def chainBlock : List Byte := fields 64 [(0, 2, 1), (2, 2, 1), (8, 4, 16), (16, 4, 8), (20, 4, 4), (24, 4, 4), (28, 4, 2), (32, 4, 1), (36, 4, 4)]
/-- The task is the only instance of a launch of one level on core 0. -/
def work1 : Work := {
  id := 7, kind := .lane 0, record := [], launch := launchRecord 1, total := 1, prio := 0, est := 0, queue := 0, entry := 0, owner := 0, permit := 0, level := 0,
  depth := 1, bound := none, seq := 0, counter := 0, waiting := false, head := true, age := 0, ended := 0, failed := false, passed := false, retired := false, epochs := [], broken := [],
  gangRec := [], targets := [], waiters := [], unusedI := 0, unusedT := 0, homes := [], after := [] }
def copying : State :=
  let s := withWin (stored.arch fun a => { a with wd := [(1, some wd8), (2, some wdRows), (3, some wdCore0)], rq := [(2, ⟨65536, List.replicate 32 7, 0, 0⟩)] }) 4096 chainBlock
  { s with cur := { s.cur with work := 7 }, works := [work1], routines := [1, 2, 0x10, 0x20, 0x30] }
/-- The checks of a copy pass: descriptor k, window offset a, second operand b, element offset o. -/
def passes (s : State) (kind : CopyKind) (k a b o : Nat) : Bool :=
  (s.copyDesc kind k b (s.copyRange kind 4)).isNone && (s.copyWin kind ((Store.get none s.cur.arch.wd k).getD 0) a b).isNone &&
    (s.copyHold kind ((Store.get none s.cur.arch.wd k).getD 0) 4 o).isNone
/-- The last element range and the last window range pass; one further does not, and the lowest element or byte outside is named. -/
theorem witness_CopyIssue : copying.guardOn on = true ∧ Store.sorted copying.cur.arch.k = true ∧ passes copying .cpin 1 65504 0 56 = true ∧
    passes copying .cpout 1 65504 0 56 = true ∧ passes copying .cpmc 3 65504 0 56 = true ∧ passes copying .cpga 2 65504 0 0 = true ∧
    passes copying .cpsc 2 65504 0 0 = true ∧ passes copying .cpxf 1 8192 4096 56 = true ∧ passes copying .cpfl 1 0 0 56 = true ∧
    passes copying .cpqo 1 0 0 56 = true ∧ passes copying .cpqf 3 65504 0 0 = true ∧ copying.placeFault = none ∧ (copying.coreOf copying.core).walkFrozen = false ∧
    (copying.coreOf copying.core).xfFrozen = false := by decide +kernel
theorem witness_CopyIssue_faults : (copying.copyDesc .cpin 5 0 (copying.copyRange .cpin 4)) = some ⟨0x0D, 0, [21, 1, 0, 0], none⟩ ∧
    copying.copyWin .cpin wd8 65505 0 = some ⟨4, 0, [65536, 65536, 0xFF, 0], none⟩ ∧ copying.copyHold .cpin wd8 4 57 = some ⟨0x0B, 0, [4, 64, 3, 0], none⟩ ∧
    (withHeld copying 64).placeFault = some ⟨9, 0, [2, 64, 64, 0], none⟩ ∧
    (let q := copying.cur.arch.queue 2; wdBytes wd8 ≤ q.data.length) ∧ (let q := copying.cur.arch.queue 3; q.data.length + q.promised < wdBytes wd8) ∧
    (let q := (queued 31 1).cur.arch.queue 2; wdBytes wd8 ≤ q.data.length + q.promised ∧ q.data.length < wdBytes wd8) ∧ 64 ≤ (withHeld copying 64).cur.heldq.length ∧
    copying.cur.arch.handle 5 = none ∧ copying.cur.arch.handle 4 = some bound ∧ bound.hold.count < 57 + 8 ∧ 56 + 8 ≤ bound.hold.count := by decide +kernel

/-- Descriptors for the steps of R203: wd4 has rows of 65537 entries, wd5 names core 0 at level 1, wd6 core 5, wd7 elements of 8 bytes, wd8 no core. -/
def issuing : State :=
  let s := copying.arch fun a => { a with wd := [(1, some wd8), (2, some wdRows), (3, some wdCore0), (4, some (wdRows + BitVec.ofNat 512 (65529 * 2 ^ 20))),
    (5, some (wdCore0 + BitVec.ofNat 512 (2 ^ 461))), (6, some (wd8 + BitVec.ofNat 512 (2 ^ 469))), (7, some (wd8 + BitVec.ofNat 512 (2 ^ 448)))] }
  withHdr s fun h => { h with window := 2 ^ 20 }
def rowed (l : List (Nat × Nat)) (s : State) : State := { s with cur := { s.cur with win := ⟨l.foldl (fun m x => Memory.setBytes m x.1 (leBytes x.2 4)) s.cur.win.bytes, []⟩ } }
def issueWords (s : State) (kind : CopyKind) (k sb : Nat) : Option (Nat × List Nat) := (s.copyDesc kind k sb (s.copyRange kind 4)).map fun r => (r.cause, r.words)
/-- What breaks each step, in their order: no chain, no descriptor, a list beyond the window, one dimension, too many rows, row 2 beyond the range, no target, a
level that the launch has not, no task on core 5, another element size, and a block 0 whose output is empty. -/
theorem witness_CopyIssue_descriptors : issueWords issuing .cpxf 1 (2 ^ 20) = some (4, [2 ^ 20, 2 ^ 20, 0xFF, 0]) ∧ issueWords issuing .cpin 9 0 = some (0x0D, [25, 1, 0, 0]) ∧
    issueWords issuing .cpga 2 (2 ^ 20 - 31) = some (4, [2 ^ 20, 2 ^ 20, 0xFF, 0]) ∧ issueWords issuing .cpga 1 0 = some (0x0D, [17, 3, 445, 0]) ∧
    issueWords issuing .cpsc 4 0 = some (0x0D, [20, 3, 20, 0]) ∧ issueWords (rowed [(0, 0xFFFFFFFF), (4, 63), (8, 64), (12, 99)] issuing) .cpga 2 0 = some (0x0D, [18, 5, 2, 0]) ∧
    issueWords issuing .cpmc 1 0 = some (0x0D, [17, 7, 464, 0]) ∧ issueWords issuing .cpmc 5 0 = some (0x0D, [21, 7, 461, 0]) ∧
    issueWords issuing .cpmc 6 0 = some (0x0D, [22, 7, 469, 0]) ∧ issueWords issuing .cpin 7 0 = some (0x0D, [23, 8, 448, 0]) ∧
    issueWords (rowed [(4104, 0)] issuing) .cpxf 1 4096 = some (0x0D, [17, 9, 0, 0]) ∧ issueWords issuing .cpxf 1 4096 = none := by decide +kernel
/-- The descriptors, by the fields that CopyIssue names. -/
def extOf (d : BitVec 512) (k : Nat) : Nat := bf d (20 * k) 20
def countOf (d : BitVec 512) : Nat := (List.range (bf d 445 3)).foldl (fun a k => a * extOf d k) 1
def spadOf (d : BitVec 512) (n : Nat) : Nat :=
  ((List.range (bf d 445 3)).map fun k => n / (List.range k).foldl (fun a j => a * extOf d j) 1 % extOf d k * if k = 0 then 2 ^ bf d 448 3 else bf d (280 + 24 * (k - 1)) 24).sum
def tensOf (d : BitVec 512) (n : Nat) : Nat :=
  ((List.range (bf d 445 3)).map fun k => n / (List.range k).foldl (fun a j => a * extOf d j) 1 % extOf d k * if k = 0 then 1 else bf d (120 + 32 * (k - 1)) 32).sum
/-- A list that ends with the window; row 2 is the first of those beyond the range; a full list of rows, none of which is. -/
theorem witness_CopyIssue_rows : let s := rowed [(0, 0xFFFFFFFF), (4, 63), (8, 64), (12, 99)] issuing
    let far := fun (j : Nat) => j < extOf wdRows 1 ∧ s.spadNat (0 + 4 * j) 4 ≠ 0xFFFFFFFF ∧ 64 < s.spadNat (0 + 4 * j) 4 * bf wdRows 120 32 + extOf wdRows 0
    0 + 4 * extOf wdRows 1 ≤ s.cur.hdr.window ∧ bf wdRows 445 3 = 2 ∧ extOf wdRows 1 ≤ 65536 ∧ (s.copyRange .cpga 4).map (·.count) = some 64 ∧
      far 2 ∧ (∀ j, j < 2 → ¬ far j) ∧ (∀ j, j < 8 → ¬ 64 < issuing.spadNat (0 + 4 * j) 4 * bf wdRows 120 32 + extOf wdRows 0) := by decide +kernel
/-- The lowest byte of a copy that lies beyond the window, for one of the task alone and for a target; the window of a chain's output; a hold without the mode, and the
lowest element beyond a range. Nothing lies beyond with operands one element lower. -/
theorem witness_CopyIssue_windows : let a := 2 ^ 20 - 30
    (7 < countOf wd8 ∧ a + spadOf wd8 7 ≤ 2 ^ 20 ∧ 2 ^ 20 < a + spadOf wd8 7 + 4) ∧ issuing.cur.hdr.window = 2 ^ 20 ∧
    (∀ n, n < countOf wd8 → 2 ^ 20 - 32 + spadOf wd8 n + 4 ≤ 2 ^ 20) ∧ (issuing.targetsOf wdCore0).map (fun t => (t.id, t.hdr.window)) = [(1, 2 ^ 20)] ∧
    (match issuing.chainAt 4096 8 with | .inr [b] => recF b 8 4 == 16 | _ => false) = true ∧ 2 ^ 20 < (2 ^ 20 - 15) + 16 ∧
    issuing.handleOf 5 = none ∧ issuing.handleOf 4 = some bound ∧ ((holdMode 1).handleOf 4).map (·.hold.mode.testBit 1) = some false ∧
    (64 ≤ 57 + tensOf wd8 7 ∧ 57 + tensOf wd8 7 = 64 ∧ ∀ n, n < countOf wd8 → ¬ 64 ≤ 56 + tensOf wd8 n) ∧ bound.hold.count = 64 := by decide +kernel
/-- A chain of two links at 0 and 4096; one that leads beyond the window; blocks that are malformed each in one way, and one that is not. -/
def twoLinks : State := { issuing with cur := { issuing.cur with win := ⟨Memory.setBytes issuing.cur.win.bytes 0 (fields 64 [(0, 2, 1), (4, 4, 4096), (8, 4, 8)]), []⟩ } }
theorem witness_CopyIssue_chains : twoLinks.cur.hdr.window = 2 ^ 20 ∧ (recF (twoLinks.spad 0 64) 2 2).testBit 0 = false ∧ (recF (twoLinks.spad 4096 64) 2 2).testBit 0 = true ∧
    (match twoLinks.chainAt (recF (twoLinks.spad 0 64) 4 4) 7 with | .inr l => l.length == 1 | _ => false) = true ∧
    (match issuing.chainAt (2 ^ 20 - 63) 7 with | .inl r => r.cause == 4 | _ => false) = true ∧
    (let b := chainBlock; (recF b 2 2).testBit 0 = true ∧ ¬ 1 < recF b 2 2 ∧ recF b 12 4 = 0 ∧ recF b 8 4 ≠ 0 ∧ recF b 0 2 ∈ issuing.routines ∧ routineRejects b 32 = false ∧
      routineRejects b 33 = true) ∧
    (let b := fields 64 [(8, 4, 262145)]; (recF b 2 2).testBit 0 = false ∧ 262144 < recF b 8 4 ∧ recF b 0 2 ∉ issuing.routines) ∧
    1 < recF (fields 64 [(2, 2, 2)]) 2 2 ∧ recF (fields 64 [(12, 4, 1)]) 12 4 ≠ 0 := by decide +kernel
/-- The accesses: behind the last element, the last, and in a list of rows one that names no row beside one that does. -/
theorem witness_CopyIssue_lists : countOf wd8 = 8 ∧ countOf wdRows = 8 ∧ 7 / extOf wdRows 0 < extOf wdRows 1 ∧
    (rowed [(28, 0xFFFFFFFF)] issuing).spadNat (0 + 4 * (7 / extOf wdRows 0)) 4 = 0xFFFFFFFF ∧ issuing.spadNat (0 + 4 * (7 / extOf wdRows 0)) 4 ≠ 0xFFFFFFFF := by decide +kernel

/-- Copy 1 of the task: one element left, or none. -/
def copy1 (kind : CopyKind) (todo : List (Nat × Access)) : Copy := {
  id := 1, num := 1, kind := kind, st := .active, task := 1, core := 0, pos := 0, slot := 7, hold := bound.hold, cls := 0, esz := 4, todo := todo, targets := [], barrier := none,
  bytes := 4, lat := 0, xf := 0, promise := 0, fresh := false, chain := [], read := [], order := 0, dest := 0, forkAt := 0, sent := [], links := 0 }
def elem0 : Access := ⟨some 0, some 64, []⟩
def moving (c : Copy) : State := { stored with copies := [c], nextCopy := 2, cur := { stored.cur with arch := { stored.cur.arch with k := [(1, ⟨.pending, [1], 0⟩)] } } }
theorem witness_CopyMoves : (moving (copy1 .cpin [(0, elem0)])).tensor 10 = some tensor10 ∧ (moving (copy1 .cpin [(0, elem0)])).taskOf 1 = some (moving (copy1 .cpin [(0, elem0)])).cur ∧
    elem0.tens = some 0 ∧ elem0.spad = some 64 ∧ stored.meet tensor10 0 4 = none ∧ (moving (copy1 .cpin [(0, elem0)])).cur.races = Races.init ∧
    (copy1 .cpin [(0, elem0)]).fresh = false ∧ (moving (copy1 .cpin [])).copyOf 1 = some (copy1 .cpin []) ∧ (copy1 .cpin []).st = .active ∧ (copy1 .cpin []).todo = [] ∧
    (copy1 .cpin []).barrier = none ∧ (∀ b ∈ (moving (copy1 .cpin [])).copies, b.id = 1 → b = copy1 .cpin []) ∧ (moving (copy1 .cpin [])).cur.id = 1 ∧
    (1, (⟨.pending, [1], 0⟩ : Token)) ∈ (moving (copy1 .cpin [])).cur.arch.k ∧ (∀ x ∈ ([1] : List Nat), x = 1 ∨ (moving (copy1 .cpin [])).incomplete x = false) :=
  ⟨tensor10_of (by rw [moving]), by decide +kernel⟩
/-- R199, R209: the access puts element 0 at 64; the copy, then without an access left, completes, and its token is DONE. -/
theorem test_copy : leNat (((moving (copy1 .cpin [(0, elem0)])).copyStep (copy1 .cpin [(0, elem0)]) 0 elem0).cur.win.read 64 4) = 1 ∧
    ((after (moving (copy1 .cpin [])) (.copyComplete 1)).map fun t => (t.cur.arch.token 1).st) = some .done := by decide +kernel

/-- Copies of the interval: a copy-in, that a rollback discards, and a CFLUSH, that runs on; a copy that is held. -/
def freshCopy (k : CopyKind) : Copy := { copy1 k [] with fresh := true }
theorem witness_Rollback_copies : (let s := moving (freshCopy .cpin); s.cur.id ≠ 0 ∧ s.copies = [freshCopy .cpin] ∧ s.rollback.copies = [] ∧ (freshCopy .cpin).task = s.cur.id) ∧
    (let s := moving (freshCopy .cflush); s.rollback.copies = [freshCopy .cflush]) ∧
    (let s := holding1 (.copy 1) (moving { copy1 .cpin [] with st := .held }); s.rollback.copies = [] ∧ s.copies ≠ []) ∧
    (stored.rollback.page (65536 * tensor10.entry 0 / 65536)).isSome = true ∧ (base.cur.shadow.token 1).st = .free ∧
    (let s := { moving (copy1 .cpin []) with cur := { (moving (copy1 .cpin [])).cur with shadow := { base.cur.shadow with k := [(1, ⟨.pending, [1], 0⟩)] } } }
     (s.cur.shadow.token 1).st = .pending ∧ (∀ b ∈ [0, 2], barReady (s.cur.shadow.barrier b) = false) ∧ ∀ y ∈ s.rollback.copies, y.id = 1 ∧ y.st ≠ .done) := by decide +kernel

/-- A chain whose window has been read: one shipped link, with room or with none for its output; then a link of another image. -/
def chained (blocks : List (List Byte)) : State := moving { copy1 .cpxf [] with chain := blocks, read := [(0, List.replicate 32 9)] }
def roomFor (n : Nat) : List Byte := chainBlock.take 8 ++ leBytes n 4 ++ chainBlock.drop 12
def otherBlock : List Byte := leBytes 0x100 2 ++ chainBlock.drop 2
theorem witness_TransformCore : (let c := { copy1 .cpxf [] with chain := [chainBlock], read := [(0, List.replicate 32 9)] }
      (chained [chainBlock]).copyOf 1 = some c ∧ c.st = .active ∧ c.kind = .cpxf ∧ c.todo = [] ∧ c.chain = [chainBlock] ∧ c.links = 0) ∧
    ((chained [chainBlock]).coreOf 0).xf.run = none ∧ leNat (chainBlock.take 2) = 1 ∧ leNat (otherBlock.take 2) = 0x100 ∧
    (routineRun (chained [chainBlock]).free chainBlock (List.replicate 32 9)).length = 8 ∧ leNat ((chainBlock.drop 8).take 4) = 16 ∧
    (routineRun (chained [chainBlock]).free (roomFor 7) (List.replicate 32 9)).length = 8 ∧ leNat (((roomFor 7).drop 8).take 4) = 7 ∧
    ({ copy1 .cpxf [] with links := 1 } : Copy).links ≠ 0 := by decide +kernel
/-- A routine that runs on core 0, at the head of the instruction memory, which holds a word. -/
def xfOn (s : State) (x : XfCore) (m : List Byte) : State := { s.setCore 0 { s.coreOf 0 with xf := x } with xfMem := m }
def xfRuns (w pc : Nat) (x : XfCore) : State := xfOn (chained [otherBlock]) { x with pc := pc, run := some ⟨1, otherBlock, [], []⟩ } (leBytes w 4)
theorem xfOn_xf (s : State) (x : XfCore) (m : List Byte) (h : Store.sorted s.cores = true) : ((xfOn s x m).coreOf 0).xf = x :=
  congrArg CoreSt.xf (State.coreOf_setCore_self s 0 _ h)
theorem xfBase_room (k : Nat) : xfBase k + 64 ≤ 2 ^ 64 := by unfold xfBase; omega
theorem xfPlace_zero (j : Nat) (h : j < 64) : xfPlace (xfBase 0 + j) = some (0, j) := by
  have := xfBase_room 0
  have e : (xfBase 0 + j) % 2 ^ 64 = xfBase 0 + j := Nat.mod_eq_of_lt (by omega)
  have l : List.range 5 = 0 :: [1, 2, 3, 4] := rfl
  rw [xfPlace, l, List.findSome?_cons, e, if_pos ⟨by omega, show xfBase 0 + j < xfBase 0 + 32768 by omega⟩, Nat.add_sub_cancel_left]
/-- Buffers of 2^18 bytes, one fewer than addresses that lie 2^20 apart, leave one of the addresses out: each holds one at most. -/
def inBuffer (b a : Nat) : Bool := decide (b ≤ a) && decide (a < b + 2 ^ 18)
theorem covers_one (b : Nat) (l : List Nat) (p : l.Pairwise fun a c => a + 2 ^ 20 ≤ c) : l.length ≤ (l.filter fun a => !inBuffer b a).length + 1 := by
  induction l with
  | nil => exact Nat.zero_le _
  | cons a l ih =>
    obtain ⟨pa, pl⟩ := List.pairwise_cons.mp p
    cases ha : inBuffer b a with
    | true =>
      have e : l.filter (fun a => !inBuffer b a) = l := List.filter_eq_self.mpr fun c hc => by
        have := pa c hc
        simp [inBuffer] at ha ⊢
        omega
      refine Nat.le_of_eq ?_
      rw [List.filter_cons_of_neg (by simp [ha]), e, List.length_cons]
    | false =>
      rw [List.filter_cons_of_pos (by simp [ha]), List.length_cons, List.length_cons]
      exact Nat.succ_le_succ (ih pl)
theorem covers (bs : List Nat) : ∀ l : List Nat, bs.length < l.length → l.Pairwise (fun a c => a + 2 ^ 20 ≤ c) → ∃ a ∈ l, ∀ b ∈ bs, inBuffer b a = false := by
  induction bs with
  | nil => exact fun l h _ => match l, h with | a :: _, _ => ⟨a, List.mem_cons_self, fun b hb => nomatch hb⟩
  | cons b bs ih =>
    intro l h p
    have := covers_one b l p
    obtain ⟨a, ha, hb⟩ := ih (l.filter fun a => !inBuffer b a) (by rw [List.length_cons] at h; omega) (p.filter _)
    obtain ⟨h1, h2⟩ := List.mem_filter.mp ha
    exact ⟨a, h1, fun c hc => (List.mem_cons.mp hc).elim (fun e => by rw [e]; simpa using h2) (hb c)⟩
/-- An address within 2^64 that lies in no buffer of the core. -/
theorem xfPlace_none : ∃ a, a < 2 ^ 64 ∧ xfPlace a = none := by
  obtain ⟨a, ha, h⟩ := covers ((List.range 5).map xfBase) ((List.range 6).map (· * 2 ^ 20)) (by decide) (by decide)
  obtain ⟨n, hn, e⟩ := List.mem_map.mp ha
  have lt : a < 2 ^ 64 := by have := List.mem_range.mp hn; omega
  refine ⟨a, lt, ?_⟩
  rw [xfPlace, List.findSome?_eq_none_iff]
  intro k hk
  rw [if_neg]
  intro c
  have := h (xfBase k) (List.mem_map.mpr ⟨k, hk, rfl⟩)
  have : xfSpan k ≤ 2 ^ 18 := by unfold xfSpan; split <;> (try split) <;> decide
  rw [Nat.mod_eq_of_lt lt] at c
  simp [inBuffer] at *
  omega
theorem leBytes_at (b w : Nat) : (List.range 4).map (fun i => (leBytes w 4).getD (b + i - b) 0) = leBytes w 4 := by
  simp [Nat.add_sub_cancel_left, List.range, List.range.loop, leBytes]
/-- The word stands at the pc of a core that runs a routine, whatever its registers hold: the first premises of a step of it. -/
theorem witness_TransformCore_runs (w : Nat) (x : XfCore) : let s := xfRuns w (xfBase 5) x
    (s.coreOf 0).xf = { x with pc := xfBase 5, run := some ⟨1, otherBlock, [], []⟩ } ∧ (s.copyOf 1).map (·.st) = some .active ∧ xfBase 5 + 4 ≤ 2 ^ 64 ∧
      (List.range 4).map (fun i => s.xfMem.getD (xfBase 5 + i - xfBase 5) 0) = leBytes w 4 := by
  have := xfBase_room 5
  refine ⟨?_, rfl, by omega, ?_⟩
  · exact xfOn_xf _ _ _ (by decide +kernel)
  · exact leBytes_at (xfBase 5) w
/-- A pc outside the instruction memory; a load at the first bytes of stream buffer 0, and one at an address of no buffer; four elements of 32 bits. -/
theorem witness_TransformCore_forms : (∃ pc, (pc < xfBase 5 ∨ xfBase 5 + 65536 ≤ pc) ∧ pc < 2 ^ 64) ∧
    (∀ j, j < 8 → xfPlace ((((BitVec.ofNat 64 (xfBase 0)).toInt + (BitVec.ofNat 12 0).toInt) % 2 ^ 64).toNat + j) = some (0, 0 + j)) ∧
    (∃ a : Word, ∃ j, j < 8 ∧ xfPlace (((a.toInt + (BitVec.ofNat 12 0).toInt) % 2 ^ 64).toNat + j) = none) ∧
    (0 < 4 ∧ 16 < 2 ^ 8 ∧ 16 % 8 = 0 ∧ 16 / 8 % 8 < 4 ∧ 4 ≤ 512 / (8 * 2 ^ (16 / 8 % 8))) := by
  have at_ (n : Nat) (h : n < 2 ^ 64) : (((BitVec.ofNat 64 n).toInt + (BitVec.ofNat 12 0).toInt) % 2 ^ 64).toNat = n := by
    simp only [BitVec.toInt_eq_toNat_bmod, BitVec.toNat_ofNat, Nat.mod_eq_of_lt h, Nat.zero_mod, Int.bmod]
    omega
  refine ⟨⟨if xfBase 5 = 0 then 65536 else 0, by split <;> omega⟩, fun j h => ?_, ?_, by decide⟩
  · have := xfBase_room 0
    rw [at_ _ (by omega), Nat.zero_add]
    exact xfPlace_zero j (by omega)
  · obtain ⟨a, h, e⟩ := xfPlace_none
    exact ⟨BitVec.ofNat 64 a, 0, by decide, by rw [at_ a h]; exact e⟩
/-- RISC-V unprivileged specification: the words of add x3, x1, x2, of vadd.vv v1, v2, v3 and of vsetvli x10, x11, e32, m1; c.addi x2, -16 is addi x2, x2, -16;
x3 of 5 and 7 is 12; four elements of 32 bits are set. -/
def xf57 : XfCore := { XfCore.init with x := [(1, 5), (2, 7), (11, 4)] }
theorem test_riscv : (match rvScalar xf57 0x002081B3 4 with | .next x => (x.reg 3).toNat == 12 && x.pc == 4 | _ => false) = true ∧
    rvExpand 0x1141 = some 0xFF010113 ∧ (match rvVector 0 xf57 0x0D05F557 with | .next x => x.vl == 4 && x.vtype == 0xD0 && (x.reg 10).toNat == 4 | _ => false) = true := by decide +kernel

/-- The token pends on a held copy; or on an active one, whose promise lies at 5. -/
def heldCopy : State := moving { copy1 .cpout [] with st := .held }
def waiting (now : Nat) : State := { moving { copy1 .cpin [(0, elem0)] with promise := 5 } with now := now * quantaPerNs }
theorem witness_TokenWaits : base.guardOn on = true ∧ base.roomQ 3 ∧ (base.cur.arch.token 1).st ≠ .pending ∧
    (let s := moving { copy1 .cpin [] with st := .done }; (s.cur.arch.token 1).st = .pending ∧ ∀ c ∈ (s.cur.arch.token 1).copies, s.incomplete c = false) ∧
    ((heldCopy.cur.arch.token 1).st = .pending ∧ ¬ (∀ c ∈ (heldCopy.cur.arch.token 1).copies, heldCopy.incomplete c = false) ∧
      ∃ c ∈ heldCopy.copies, c.id ∈ (heldCopy.cur.arch.token 1).copies ∧ c.st = .held) ∧
    (¬ (∀ c ∈ ((waiting 4).cur.arch.token 1).copies, (waiting 4).incomplete c = false) ∧ (waiting 4).time < (waiting 4).tokenPromise ((waiting 4).cur.arch.token 1) ∧
      ¬ ∃ c ∈ (waiting 4).copies, c.id ∈ ((waiting 4).cur.arch.token 1).copies ∧ c.st = .held) ∧
    (waiting 5).tokenPromise ((waiting 5).cur.arch.token 1) ≤ (waiting 5).time :=
  ⟨base_guard.1, base_roomQ 3, by decide +kernel⟩
/-- R212: WAITK at the promise is promise missed; before it, the bundle waits; TESTK of a FREE token gives 1. -/
theorem test_tokens : raisedBy (waiting 5) (.waitk on 1) = some (0x0A, [1, 5, 5, 0]) ∧ holdsAt (waiting 4) (.waitk on 1) = true ∧ holdsAt (waiting 5) (.waitkx on 1) = true ∧
    raisedBy heldCopy (.waitk on 1) = some (9, [3, 0, 64, 0]) ∧ qAfter base (.testk on 3 1) 3 = some true := by decide +kernel

/-- A bundle whose one operation raises a cause: the premises of BundleUnit. -/
theorem raises_sole {s : State} {x : Slot} {i : Instr} {c : Raise} (order : orderOf s (sole x i) = [(x, i)]) (h : raisedIn s (sole x i) [] (x, i) = some c)
    (n : (runOf s (sole x i) []).cause = none) : RaisesIn s (sole x i) [] (x, i) c ∧ ∀ l y d, RaisesIn s (sole x i) l y d → l = [] := by
  refine ⟨⟨⟨[], order⟩, .inl n, (raisedIn_iff ..).mp h⟩, ?_⟩
  rintro l y d ⟨⟨rest, e⟩, -, -⟩
  rw [order] at e
  rcases l with _ | ⟨a, l⟩ <;> simp at e
  rfl
/-- A promise missed, for which the bundle is not charged; an END whose release meets an underflow. -/
theorem witness_BundleUnit_missed : (ranOf (waiting 5) (sole .c0 (.waitk on 1))).held = false ∧
    RaisesIn (waiting 5) (sole .c0 (.waitk on 1)) [] (.c0, .waitk on 1) ⟨0x0A, 7, [1, 5, 5, 7], none⟩ ∧
    ∀ l y d, RaisesIn (waiting 5) (sole .c0 (.waitk on 1)) l y d → l = [] :=
  ⟨by decide +kernel, raises_sole (by decide +kernel) (by decide +kernel) (by decide +kernel)⟩
def owing : State := holding1 (.ddec (3 * 2 ^ 32)) base
theorem witness_BundleUnit_underflow : (ranOf owing (sole .s0 (.endTask on))).held = false ∧
    RaisesIn owing (sole .s0 (.endTask on)) [] (.s0, .endTask on) ⟨0x13, 1, [3 * 2 ^ 32, 0, 0, 0], some 5⟩ ∧
    ∀ l y d, RaisesIn owing (sole .s0 (.endTask on)) l y d → l = [] :=
  ⟨by decide +kernel, raises_sole (by decide +kernel) (by decide +kernel) (by decide +kernel)⟩
theorem witness_StepRunsDecoded_raises : (runsAs (leafOf (waiting 5) (.waitk on 1)) 0 (.waitk on 1) fun o => match o with | .raised r => r.cause == 0x0A | _ => false) = true ∧
    (runsAs (leafOf owing (.endTask on)) 0 (.endTask on) fun o => match o with | .raised r => r.cause == 0x13 | _ => false) = true := by decide +kernel


/-- Stage barrier 2 from its fields. -/
def barrier2 (pend phase valid arrived count credited expected : Nat) : State :=
  base.arch fun a => { a with b := [(2, BitVec.ofNat 128 (pend * 2 ^ 126 + phase * 2 ^ 125 + valid * 2 ^ 124 + arrived * 2 ^ 110 + count * 2 ^ 96 + credited * 2 ^ 48 + expected))] }
theorem witness_Barriers : base.guardOn on = true ∧ Store.sorted base.cur.arch.b = true ∧ base.cur.id ≠ 0 ∧ 16383 < 2 ^ 14 ∧ barValid (base.cur.arch.barrier 2) = 0 ∧
    (let x := (barrier2 0 1 1 1 3 5 9).cur.arch.barrier 2; barValid x = 1 ∧ ¬ (barCount x ≤ (barArrived x + 1) % 2 ^ 14 ∧ barExpected x ≤ min (barCredited x + 4) (2 ^ 48 - 1))) ∧
    (let x := (barrier2 0 1 1 2 3 5 9).cur.arch.barrier 2; barValid x = 1 ∧ barCount x ≤ (barArrived x + 1) % 2 ^ 14 ∧ barExpected x ≤ min (barCredited x + 4) (2 ^ 48 - 1)) ∧
    (barPend ((barrier2 1 0 1 0 3 0 0).cur.arch.barrier 2) = 1 ∧ (barrier2 1 0 1 0 3 0 0).brokenAny (barrier2 1 0 1 0 3 0 0).cur = false) ∧
    barPend ((barrier2 0 0 1 0 3 0 0).cur.arch.barrier 2) = 0 := by decide +kernel
/-- R226, R227: the third of three arrivals, with the credit that completes the bytes, ends the phase: phase bit inverted, nothing arrived. -/
theorem test_barrier : ((after (withS (barrier2 0 1 1 2 3 5 9) 1 4) (.barv on 2 1)).map fun t =>
    let y := t.cur.arch.barrier 2; (barPend y, barPhase y, barArrived y, barCount y, barCredited y, barExpected y)) = some (0, 0, 0, 3, 0, 0) := by decide +kernel

/-- A gang of two tasks, of two levels of extents 1 and 2; the other has arrived at the barrier as often as `n`, or its gang is broken. -/
def gang (n : Nat) (broken : List (Nat × Nat)) : State :=
  let w := { work1 with launch := fields 256 [(0, 2, 1), (2, 1, 1), (3, 1, 2), (4, 4, 11), (68, 4, 1), (84, 4, 2)], total := 2, broken := broken }
  { base with works := [w], cur := { base.cur with work := 7 }, tasks := [{ task with id := 2, work := 7, inst := 1, core := 1, gbarSeen := [(0, n)] }] }
theorem witness_Barriers_gang : (gang 0 []).roomQ 3 ∧ recLevels ((gang 0 []).launchRec (gang 0 []).cur) ≤ 2 ∧ 0 < recLevels ((gang 0 []).launchRec (gang 0 []).cur) ∧
    (gang 0 [(0, 0)]).brokenAt (gang 0 [(0, 0)]).cur 0 = true ∧ (gang 0 []).brokenAt (gang 0 []).cur 0 = false ∧
    ((gang 0 []).groupOf (gang 0 []).cur 0).map (·.id) = [1, 2] ∧ ¬ (1 ≤ Store.get 0 ((gang 0 []).tasks.map (·.gbarSeen)).flatten 0) ∧
    1 ≤ Store.get 0 ((gang 1 []).tasks.map (·.gbarSeen)).flatten 0 ∧ ((((gang 1 []).cur :: (gang 1 []).tasks).map (·.id)).Nodup ∧
      ∀ x ∈ (gang 1 []).groupOf (gang 1 []).cur 0, x.stores = [] ∧ x.races.inbound = [] ∧ x.news = []) :=
  ⟨.inr (fun p hp => by rw [show (gang 0 []).cur.pend = [] from rfl] at hp; cases hp), by decide +kernel⟩
theorem test_gbar : holdsAt (gang 0 []) (.gbar on 3 0) = true ∧ qAfter (gang 1 []) (.gbar on 3 0) 3 = some true ∧ qAfter (gang 0 [(0, 0)]) (.gbar on 3 0) 3 = some false ∧
    qAfter (gang 0 []) (.gbar on 3 2) 3 = some true := by decide +kernel

/-- Copies of the interval that bring bytes to the window: room in the undo log, and none; targets of a multicast, one of a broken gang. -/
theorem witness_CopyMoves_fresh : (let t := base.cur; t.undo.length + (t.newLines (linesOf 64 4)).length ≤ 4096) ∧
    (let t := { base.cur with undo := (List.range 4096).map fun k => ⟨k + 10, []⟩ }; 4096 < t.undo.length + (t.newLines (linesOf 64 4)).length) ∧
    (freshCopy .cpin).fresh = true ∧ ({ elem0 with tens := none, data := [1, 2] } : Access).tens = none ∧ ({ elem0 with spad := none } : Access).spad = none ∧
    ({ copy1 .cpmc [] with targets := [1, 2] } : Copy).targets = 1 :: [2] ∧ (stored.taskOf 1).map (fun t => stored.brokenAny t) = some false ∧
    ((gang 0 [(0, 0)]).taskOf 2).map (fun t => (gang 0 [(0, 0)]).brokenAny t) = some true ∧
    (moving { copy1 .cpxf [] with chain := [chainBlock] }).copyOf 1 = some { copy1 .cpxf [] with chain := [chainBlock] } := by decide +kernel
/-- A barrier for which a phase has counted copy 9, which wrote the task's window. -/
theorem witness_Barriers_counted : (let t := { base.cur with races := { Races.init with inbound := [⟨9, 2, 0, 64, some 2, true, true, []⟩] } }
      9 ∈ t.counted 2 ∧ (∃ f ∈ t.races.inbound ++ t.races.outbound, f.copy = 9 ∧ f.counted = true ∧ f.bar = some 2)) ∧
    (let s := gang 1 []; s.brokenAt s.cur 0 = false ∧ (∀ x ∈ s.groupOf s.cur 0, x.id = s.cur.id ∨ x.status = .ended ∨ 1 ≤ Store.get 0 x.gbarSeen 0) ∧
      (∀ x ∈ s.groupOf s.cur 0, Store.get 0 x.arch.gbar 0 < 1) ∧ (∀ x ∈ s.groupOf s.cur 0, x.id ≠ 0 ∧ x.stores = [] ∧ x.races.inbound = [])) ∧
    (let s := { gang 1 [] with tasks := (gang 1 []).tasks.map fun (t : Task) => { t with arch := { t.arch with gbar := [(0, 1)] } } }
     ¬ ∀ x ∈ s.groupOf s.cur 0, Store.get 0 x.arch.gbar 0 < 1) := by decide +kernel

/-! The steps of the device. -/

/-- The task about to fetch a bundle with CK and one ADD. -/
def ckLeaf (s : State) : State :=
  let b := encodeBundle1 true false .s0 (sr 0x01 0 0 3 1 2 0)
  s.withFetchWord 400 ((List.range 25).foldl (fun acc k => acc + (if k = 0 then 0xFFFF else leafWord b k) * 2 ^ (16 * k)) 0)
/-- What core 0 fetches: CK, YD and the number of operations. -/
def fetchOf (s : State) : Option (Bool × Bool × Nat) :=
  match s.fetched with
  | .inr f => some (f.bundle.ck, f.bundle.yd, f.bundle.ops.length)
  | .inl _ => none
def fetchCharge (s : State) : Nat := match s.fetched with | .inr f => bundleI s.cur f.bundle | .inl _ => 0
def unpricedOf (s : State) : Bool := match s.fetched with | .inr f => unpriced s.cur f.bundle | .inl _ => true
def missedOf (s : State) : Option Nat := match s.fetched with | .inr f => (s.missed f).map (·.2) | .inl _ => none
def ready0 (s : State) : State := (s.focus 0).settled_
/-- A WAITK held since 3 on token 1, whose promise lies at 5. -/
def stuck (now : Nat) : State :=
  let s := leafOf (waiting now) (.waitk on 1)
  { s with cur := { s.cur with wait := [.token 1 true], waitAt := some 3 } }
theorem witness_CoreSteps : (let r := ready0 (ckLeaf base)
      r.cur.id ≠ 0 ∧ fetchOf r = some (true, false, 1) ∧ r.cur.arch.bgs + fetchCharge r ≤ r.cur.hdr.span ∧ r.cur.pend = [] ∧ r.cur.array = [] ∧ r.cur.heldq = []) ∧
    (let r := ready0 (withHdr (ckLeaf base) fun h => { h with span := 0 }); fetchOf r = some (true, false, 1) ∧ unpricedOf r = false ∧ r.cur.hdr.span < r.cur.arch.bgs + fetchCharge r) ∧
    (let r := ready0 (stuck 5); r.cur.waitAt.isSome = true ∧ missedOf r = some 1) ∧
    (let r := ready0 ((stuck 4).arch fun a => { a with clip := true })
     r.switchPoint = true ∧ r.cur.heldq = [] ∧ r.cur.stores = [] ∧ 0 ≤ r.cur.pc ∧ r.cur.core = 0 ∧ Store.sorted r.cores = true) := by decide +kernel
/-- The one operation of the bundle that core 0 fetches. -/
def fetchedOp (s : State) : Option (List (Slot × Instr)) := match s.fetched with | .inr f => some f.bundle.ops | .inl _ => none
/-- What a token's promise is made of: its one copy's promise has passed and that copy goes on, or its own. -/
theorem witness_CoreSteps_promise : (let r := ready0 (stuck 5); let tok := r.cur.arch.token 1
    r.cur.id ≠ 0 ∧ fetchedOp r = some [(.c0, .waitk on 1)] ∧ r.guardOn on = true ∧ tok.st = .pending ∧ tok.promise ≤ r.time ∧
      (∃ c ∈ r.copies, c.id ∈ tok.copies ∧ c.st ≠ .done) ∧ ∀ c ∈ r.copies, c.id ∈ tok.copies → c.st ≠ .held ∧ c.promise ≤ r.time) := by decide +kernel

/-- The slice of core 0's task; a second task of its work, READY, for which core 0 is the one core free. -/
def sliced (n : Int) : State := { base with cur := { base.cur with slice := n } }
def rival : State :=
  let w := { work1 with launch := fields 256 [(0, 2, 1), (2, 1, 1), (3, 1, 1), (4, 4, 11), (68, 4, 2)], total := 2 }
  { sliced 0 with works := [w], tasks := [{ task with id := 2, status := .ready, work := 7, inst := 1, core := 0, holds := [] }]
                  cores := (List.range 12).map fun n => (n, { CoreSt.init with task := if n = 0 then 1 else 9 }) }
theorem witness_CoreSteps_slice : (sliced 0).runner 0 = some (sliced 0).cur ∧ (sliced 0).cur.status = .running ∧ (sliced 0).cur.arch.clip = false ∧
    rival.runner 0 = some rival.cur ∧ rival.workFor rival.cur = true ∧ (sliced 0).workFor (sliced 0).cur = false ∧ 0 < (sliced 1).cur.slice ∧
    (let s := base.setCore 0 { base.coreOf 0 with drainAt := some 5 }; (s.coreOf 0).drainAt = some 5 ∧ s.time < 5) ∧
    (let s := { base.setCore 0 { base.coreOf 0 with drainAt := some 5 } with now := 5 * quantaPerNs }; 5 ≤ s.time) ∧ (base.coreOf 0).drainAt = none := by decide +kernel

/-- Nothing runs; task 5 of work 7 is READY on the recompute lane of stack 0, and fits core 0. -/
def idleState : State := { State.reset with bootstat := 0 }
def readyTask : Task := { task with id := 5, status := .ready, work := 7, arch := { task.arch with clip := false } }
def schedule (t : Task) : State := { idleState with tasks := [t], works := [work1], nextTask := 6, nextWork := 8 }
def item (no est : Nat) : Item := ⟨7, no, true, no, 0, no, est, false, false, []⟩
theorem witness_SchedulerSteps_choice : (∀ i ∈ [item 3 100, item 1 5], i.ahead = false) ∧ (choose 10 [item 3 100, item 1 5]).map (·.no) = some 1 ∧
    (choose 100 [item 3 100, item 1 5]).map (·.no) = some 3 := by decide +kernel
/-- Of two items of one rank the lower number goes first, and of one number the lower task; a top of age 256 beside one
of a higher priority and the same rank, neither of which fits the slice. -/
theorem witness_SchedulerSteps_order : (let a := item 1 100; let b := { item 1 5 with task := 2 }
      a.rank = b.rank ∧ (a.no = b.no ∧ a.task < b.task) ∧ 5 * 10 < 3 * a.est ∧ 3 * b.est ≤ 5 * 10 ∧ a.age < 256) ∧
    (let a := { item 1 100 with age := 256 }; let b := { item 2 100 with prio := 2, age := 0 }
     256 ≤ a.age ∧ a.rank = b.rank ∧ a.no < b.no ∧ ∀ i ∈ [a, b], 5 * 10 < 3 * i.est) := by decide +kernel
theorem witness_SchedulerSteps_dispatch : let s := schedule readyTask
    (s.gangs 0).length = 0 ∧ ((s.items 0).map fun i => (i.start, i.work, i.fit, i.place)) = [(true, 7, true, [(5, 0)])] ∧ s.cur.id = 0 ∧ readyTask.id ≠ 0 ∧ readyTask.work = work1.id ∧
      work1.kind = .lane 0 ∧ Store.sorted s.cores = true ∧ s.parkedOn 0 = [] ∧ fits [readyTask.needs] = true := by decide +kernel
/-- Preparation of two held ranges, the code and the blend of the task, which lie on pages in HBM. -/
def holdingTask (held prepared : Bool) : Task :=
  { readyTask with status := .holding, held0 := held, prepared := prepared, hdr := { hdr with code := 10, blend := 10 } }
def preparing : State := { schedule (holdingTask false true) with tensors := stored.tensors, pages := stored.pages, mem := stored.mem }
theorem witness_SchedulerSteps_tasks : (schedule { readyTask with status := .parked }).taskOf 5 = some { readyTask with status := .parked } ∧
    (schedule { readyTask with status := .parked }).settled { readyTask with status := .parked } = true ∧ readyTask.status ≠ .parked ∧
    (let s := schedule readyTask; s.workOf readyTask.work = some work1 ∧ readyTask.status = .ready ∧ readyTask.saveArea = 0 ∧ recDomain work1.launch 0 < 4 ∧
      readyTask.status ≠ .holding ∧ readyTask.status ≠ .suspended) ∧
    (readyTask.hdr.save ≠ 0 ∧ readyTask.hdr.save ≤ (schedule readyTask).hbmFree work1.die ∧ (12 : Nat) / 12 ≠ work1.die) ∧
    (let t := { readyTask with status := .suspended, waitsOn := [10] }
     t.waitsOn ≠ [] ∧ ∀ id ∈ t.waitsOn, (schedule t).recomputing id = false ∧ (schedule t).isLost id = false) ∧
    ((holdingTask true false).status = .holding ∧ (holdingTask true false).held0 = true) ∧ preparing.workOf 7 = some work1 ∧
    (let t := holdingTask false true
     let r := (preparing.putTask t).prepareAll t ((List.range (preparing.ranges t).length).zip (preparing.ranges t))
     t.held0 = false ∧ t.prepared = true ∧ r.bad.isNone = true ∧ r.lost = [] ∧ r.waits = false) := by decide +kernel

/-- Operator queue 3 with one record in tensor 30: its launch record is tensor 31, the header tensor 11. -/
def operator (ctr launch : Nat) : State :=
  let s := ((idleState.setTensor (Tensor.make 30 0 [2048] 0 0)).setTensor (Tensor.make 31 0 [256] 0 0)).setTensor (Tensor.make 11 0 [256] 0 0)
  let s := (s.writeId 30 0 (fields 128 [(0, 4, launch), (4, 2, ctr), (6, 1, 3)])).writeId 31 0 (launchRecord 1)
  s.setQueue 3 { OpQueue.init with base := 30, size := 16, tail := 1, st := .opened }
def recordOf3 (s : State) : List Byte := s.idBytes (s.queueOf 3).base (128 * ((s.queueOf 3).disp % (s.queueOf 3).size)) 128
theorem witness_SchedulerSteps_head : (idleState.queueOf 3).st ≠ .opened ∧ ((operator 0 31).setQueue 3 { (operator 0 31).queueOf 3 with tail := 0 }).queueOf 3 = { (operator 0 31).queueOf 3 with tail := 0 } ∧
    ((operator 0 31).queueOf 3).st = .opened ∧ ((operator 0 31).queueOf 3).headBad = false ∧ ((operator 0 31).queueOf 3).disp ≠ ((operator 0 31).queueOf 3).tail ∧
    (operator 0 31).workAt 3 0 = none ∧ (operator 0 31).reissuing 3 = false ∧ (operator 0 31).recordFault (recordOf3 (operator 0 31)) = none ∧
    (operator 0 12).recordFault (recordOf3 (operator 0 12)) = some (0, 0) := by decide +kernel
/-- R289, R290: the record becomes head with its one task, HOLDING where its counter is 0 and WAITING where it is not; a bad one freezes the queue. -/
theorem test_operator_head : ((after (operator 0 31) (.operatorHead 3)).map fun t => (t.tasks.map (·.status), t.works.map fun w => (w.head, w.prio))) = some ([.holding], [(true, 3)]) ∧
    ((after (operator 2 31) (.operatorHead 3)).map fun t => t.tasks.map (·.status)) = some [.waiting] ∧
    ((after (operator 0 12) (.operatorHead 3)).map fun t => (t.queueOf 3).st) = some .frozen := by decide +kernel

/-- A gang of two across the package, both READY. -/
def packageWork : Work := { work1 with launch := fields 256 [(0, 2, 1), (2, 1, 1), (3, 1, 2), (4, 4, 11), (64, 1, 4), (65, 1, 3), (68, 4, 1), (84, 4, 2)], total := 2 }
def packageGang : State := { idleState with tasks := [readyTask, { readyTask with id := 6, inst := 1 }], works := [packageWork], nextTask := 7, nextWork := 8 }
theorem witness_SchedulerSteps_gang : (packageGang.gangs 0).map (fun x => (x.1.id, x.2)) = [(7, 0)] ∧ 4 ≤ recDomain packageWork.launch 0 ∧ 47 / 12 = 3 ∧
    packageGang.isFree (some (7, 0)) 47 = true := by decide +kernel
/-- The gang of packageGang placed on a core of stack 0 and one of stack 1; core 12 wanted for it. -/
def placedWork : Work := { packageWork with homes := [⟨0, 0, [0, 12]⟩] }
def placedGang : State := { packageGang with works := [placedWork] }
theorem witness_SchedulerSteps_hold : (placedGang.gangs 0).map (fun x => (x.1.id, x.2)) = [(7, 0)] ∧ (placedWork.homeOf 0).map (·.cores) = some [0, 12] ∧ 12 / 12 ≠ placedWork.die ∧
    (placedGang.coreOf 12).wanted = [] ∧
    (let s := placedGang.setCore 12 { placedGang.coreOf 12 with wanted := [(7, 0)] }
     s.workOf 7 = some placedWork ∧ s.wholeGang placedWork 0 = true ∧ (s.coreOf 12).heldFor = none ∧ (s.coreOf 12).wanted = [(7, 0)]) := by decide +kernel
theorem witness_SchedulerSteps_gangs : ∀ d, idleState.gangs d = [] := fun _ => rfl
/-- One device alone; a device in a group of two. -/
theorem witness_SchedulerSteps_requests : packageGang.env.devices ≤ 1 ∧ idleState.env.devices ≤ 1 ∧
    (let s := { idleState with run := some { BootEnv.good with devices := 2 } }
     1 < s.env.devices ∧ (47 : Nat) < 48 ∧ 47 / 12 = 3 ∧ s.isFree (some (0, 0)) 47 = true) := by decide +kernel

/-- Tensor 10 in a move; sequence 6 forked from the live 5, with the paged tensor of 5 on one page. -/
def movingTensor : State := { idleState with tensors := [(10, { Tensor.make 10 2 [64] 0 0 with st := .moving })] }
def paged5 : Tensor := { Tensor.make (pagedId 0 1 5) 2 [64] 5 9 with paged := true, pages := [(0, 1)] }
def forking (writer : Bool) (p : SeqSt) (c : SeqSt) : State := { idleState with
  seqs := [(5, ⟨p, 0, 9, 0, [9]⟩), (6, ⟨c, 0, 10, 5, []⟩)], tensors := [(paged5.id, paged5)], pages := [(1, { page10 with key := 9, kgen := 1, ref := 1 })]
  tasks := if writer then [{ readyTask with held0 := true, holds := [⟨paged5.id, 0, 1, 2⟩] }] else [] }
theorem witness_SchedulerSteps_moves : movingTensor.tensor 10 = some { Tensor.make 10 2 [64] 0 0 with st := .moving } ∧ (Tensor.make 10 2 [64] 0 0).after = .stay ∧
    tensor10.st ≠ .moving ∧ (forking false .live .released).homed (homeOf paged5.id) < 2 ^ 18 ∧ Store.look (forking false .live .released).seqs 6 = some ⟨.released, 0, 10, 5, []⟩ ∧
    Store.look (forking false .live .released).seqs 5 = some ⟨.live, 0, 9, 0, [9]⟩ ∧ Store.look (forking false .ended .released).seqs 5 = some ⟨.ended, 0, 9, 0, [9]⟩ ∧
    Store.look (forking false .live .reserved).seqs 6 = some ⟨.reserved, 0, 10, 5, []⟩ ∧ (forking true .live .released).seqWritten 5 = true ∧
    (forking false .live .released).seqWritten 5 = false ∧ (forking false .live .released).pagedOf 5 = [paged5] ∧ paged5.st = .resident ∧
    ((forking false .live .released).page 1).map (·.ref) = some 1 := by decide +kernel

/-! Errors, commands, accesses from outside. -/

def broken (k : CopyKind) : State := moving { copy1 k [(0, elem0)] with st := .active }
/-- The same on a page of PACKED form; through a proxy. -/
def packedPage : State := { broken .cpin with pages := Store.put (tensor10.entry 0) { page10 with pk := true } (broken .cpin).pages }
def brokenRemote : State := moving { copy1 .cpin [(0, elem0)] with hold := ⟨proxyId, 0, 16, 3⟩, sent := [(0, 7)] }
theorem witness_DeviceErrors : ((broken .cpin).tensor 10 = some tensor10 ∧ (broken .cpin).page (tensor10.entry 0) = some page10 ∧ 0 / tensor10.pageBytes = 0) ∧
    (broken .cpin).copyOf 1 = some (copy1 .cpin [(0, elem0)]) ∧ (copy1 .cpin [(0, elem0)]).st = .active ∧ (copy1 .cpin [(0, elem0)]).kind.reads = true ∧
    (moving { copy1 .cpout [] with st := .held }).copyOf 1 = some { copy1 .cpout [] with st := .held } ∧
    (Store.look (copy1 .cpin [(0, elem0)]).todo 0).bind (·.tens) = some 0 ∧ (packedPage.page (tensor10.entry 0)).map (·.pk) = some true ∧
    tensor10.id = bound.hold.id ∧ isProxy tensor10.id = false ∧ (brokenRemote.copyOf 1).map (·.hold.id) = some proxyId ∧ brokenRemote.tensor proxyId = none ∧ 17 < 18 ∧
    isProxy proxyId = true ∧ (brokenRemote.copyOf 1).bind (fun c => Store.look c.sent 0) = some 7 ∧
    ({ brokenRemote with now := (7 + base.tlto) * quantaPerNs } : State).time = 7 + base.tlto ∧ ({ brokenRemote with now := 7 * quantaPerNs } : State).time < 7 + base.tlto ∧
    (∀ c ∈ (broken .cpin).copies, c.core = 0 → c.st = .active → c.kind ≠ .cpxf) ∧ (broken .cpxf).copies = [copy1 .cpxf [(0, elem0)]] ∧
    base.taskOf 1 = some base.cur ∧ base.cur.status = .running ∧ (schedule { readyTask with status := .saved }).taskOf 5 = some { readyTask with status := .saved } :=
  ⟨⟨tensor10_of (by rw [broken, moving]), page10_of (by rw [broken, moving]), Nat.zero_div _⟩, by decide +kernel⟩
/-- A running task, alone on the device, with its copy in flight. -/
theorem witness_DeviceErrors_violations : let s := broken .cpin
    s.cur.status = .running ∧ s.works = [] ∧ s.pool = [] ∧ s.cur.stores = [] ∧ s.cur.heldq = [] ∧ s.cur.held0 = false ∧ s.cur.wrote = [] ∧ s.cur.owned = [] ∧
      Store.sorted s.cores = true ∧ (s.allTasks.map (·.id)).Nodup ∧ s.cur.id ≠ 0 ∧ s.copies = [copy1 .cpin [(0, elem0)]] ∧
      s.taskOf (copy1 .cpin [(0, elem0)]).task = some s.cur := by decide +kernel
/-- A remote window with its proxy bound to h4, and an LDG through it at the head of core 0. -/
def remote : State := leafOf (base.arch fun a => { a with h := [(4, some ⟨⟨proxyId, 0, 16, 3⟩, false⟩)] }) (.ldg on 4 .b4 1 2 none)
def remoteOf (s : State) : Option (Slot × Nat × Nat) := match s.fetched with | .inr f => s.remoteOp f | .inl _ => none
/-- A copy through a proxy of member 1, whose route is link 17; its access has waited since 7. -/
def remoteCopy : Copy := { copy1 .cpin [(0, elem0)] with hold := ⟨proxyId, 0, 16, 3⟩, sent := [(0, 7)] }
def waits (now : Nat) : State :=
  { moving remoteCopy with imports := [(2, ⟨1, 0, 0, 16, 2, 3, 4, 1, 1⟩)], routes := [(1, [17, 3])], now := now * quantaPerNs }
theorem witness_DeviceErrors_quiet (now n : Nat) : ((waits now).coreOf n).sentAt = none := by
  rw [waits, moving, State.coreOf]
  rw [show stored.cores = [(0, { CoreSt.init with task := 1 })] by decide +kernel]
  by_cases h : (0 : Nat) = n <;> simp [Store.get, h, CoreSt.init]
/-- A dirty line on bus 15 of boundary 1, as page 0, tile 3 of tensor 10; the cellar enabled. -/
def dirtyLine : VbusErr := ⟨1, 15, 31, 31, .dirty 10 0 3⟩
def enabled : State := stored.setStack 1 { Stack.init with cellstat := 1 }
theorem witness_DeviceErrors_links : (enabled.tensor 10 = some tensor10 ∧ enabled.page (tensor10.entry 0) = some page10) ∧
    (∀ c ∈ (broken .cpin).copies, isProxy c.hold.id = false) ∧ (ready0 idleState).cur.id = 0 ∧
    (ready0 remote).cur.id ≠ 0 ∧ remoteOf (ready0 remote) = some (.c0, proxyId, 0) ∧
    (let s := { base with links := [(17, ⟨64, 0⟩)] }; 17 < 18 ∧ 64 ≤ (s.linkOf 17).retries ∧ s.imports = [] ∧ (17, 1) ∉ s.linksDown) ∧
    (¬(64 ≤ (base.linkOf 17).retries) ∧ base.copies = [] ∧ ∀ n, n < 48 → (base.coreOf n).sentAt = none) ∧
    (let s := waits 10007; s.copies = [remoteCopy] ∧ remoteCopy.st = .active ∧ s.onLink remoteCopy.hold.id 17 = true ∧ remoteCopy.sent = [(0, 7)] ∧
      max 7 (s.linkOf 17).last + 10000 ≤ s.time ∧ (17, 1) ∉ s.linksDown ∧ Store.look remoteCopy.todo 0 = some elem0 ∧ elem0.tens = some 0) ∧
    (let s := waits 10006; s.time < max 7 (s.linkOf 17).last + 10000) ∧
    (let s := (ready0 remote).setCore 0 { (ready0 remote).coreOf 0 with sentAt := some 7 }
     (s.coreOf 0).sentAt = some 7 ∧ s.time < 7 + s.tlto ∧ 7 + s.tlto ≤ ({ s with now := (7 + s.tlto) * quantaPerNs } : State).time) ∧
    (let s := { base with routes := [(1, [17, 3])], linksDown := [(17, 1)] }; s.routeTo 1 = some 3) ∧
    tensor10.id = 10 ∧ tensor10.entry 0 ≠ 0 ∧ 3 ∉ page10.bad ∧ tensor10.poison < 65535 ∧ tensor10.st = .resident ∧ dirtyLine.harm = .dirty 10 0 3 ∧
    (enabled.stackOf 1).cellstat = 1 ∧ dirtyLine.boundary < 2 ∧ dirtyLine.bus < 16 ∧ dirtyLine.group < 32 ∧ dirtyLine.line < 32 ∧
    (enabled.stackOf 1).vbretire.testBit (1 * 16 + 15) = false ∧ (let s := stored.setStack 1 { Stack.init with cellstat := 1, vbretire := 2 ^ 31 }
      (s.stackOf 1).vbretire.testBit (1 * 16 + 15) = true) ∧ base.dirtyTiles 1 = [] :=
  ⟨⟨tensor10_of (by rw [enabled, State.setStack]), page10_of (by rw [enabled, State.setStack])⟩, by decide +kernel⟩

/-- Context 4 is function 2's, and owns queue 3 and task 5. -/
def hosted (q : QState) (t : Task) : State :=
  { (schedule { t with owner := 4 }).setQueue 3 { OpQueue.init with owner := 4, st := q, size := 16, base := 30 } with ctxFn := [(4, 2), (9, 1)] }
def cmd2 : Cmd := ⟨2, 4⟩
def cmd0 : Cmd := ⟨0, 0⟩
theorem witness_Commands : (¬ State.reset.bootstat = 0) ∧ (hosted .opened readyTask).bootstat = 0 ∧ ((hosted .opened readyTask).fnOf 2).frozen = false ∧
    ((hosted .opened readyTask).setFn 2 { Fn.init with frozen := true } |>.fnOf 2).frozen = true ∧ (hosted .opened readyTask).fnOfCtx 9 ≠ 2 ∧
    (hosted .opened readyTask).fnOfCtx 4 = 2 ∧ Store.sorted (hosted .opened readyTask).fns = true ∧ (hosted .opened readyTask).taskOf 6 = none ∧
    (hosted .opened readyTask).taskOf 5 = some { readyTask with owner := 4 } ∧ (hosted .opened readyTask).controls ⟨2, 8⟩ 4 = false ∧
    (hosted .opened readyTask).controls cmd2 4 = true ∧ (hosted .opened readyTask).controls cmd0 4 = true ∧ readyTask.status ≠ .parked ∧ readyTask.status ≠ .saved ∧
    ({ readyTask with hdr := { hdr with restart := true } } : Task).hdr.restart = true ∧ readyTask.hdr.restart = false ∧ (256 : Nat) ≤ 256 ∧ 255 < 256 ∧
    ((hosted .opened readyTask).queueOf 3).st = .opened ∧ ((hosted .frozen readyTask).queueOf 3).st = .frozen ∧ ((hosted .disabled readyTask).queueOf 3).st = .disabled ∧
    ((hosted .opened readyTask).queueOf 3).owner = 4 ∧ ({ hosted .frozen readyTask with works := [] } : State).works = [] := by decide +kernel
theorem witness_Commands_frozen : (let s := idleState.setCore 47 { CoreSt.init with frozen := true, walkFrozen := true, xfFrozen := true }
      47 < 48 ∧ (s.coreOf 47).frozen = true ∧ (s.coreOf 47).walkFrozen = true ∧ (s.coreOf 47).xfFrozen = true) ∧ (idleState.coreOf 47).frozen = false ∧ 48 ≤ 48 ∧
    5 ∉ idleState.decFrozen ∧ 5 ∈ ({ idleState with decFrozen := [5] } : State).decFrozen ∧ 4095 < 4096 ∧ (1 : Nat) < 2 ∧ 2 ≤ 2 ∧
    (let t := { readyTask with status := .saved }; (schedule t).taskOf 5 = some t ∧ (schedule t).cur.id = 0 ∧ t.work = work1.id ∧ t.reissued = false ∧
      (schedule t).pool = [] ∧ t.heldq = [] ∧ t.stores = [] ∧ t.created = [] ∧ t.wrote = []) ∧
    (idleState.fnOf 2).busy = false ∧ ((idleState.setFn 2 { Fn.init with busy := true, cmdbuf := 2 + 4 * 2 ^ 32 + 5 * 2 ^ 64 }).fnOf 2).busy = true ∧
    (∀ n ∈ [1, 2, 3, 4, 5, 6], fld (n + 4 * 2 ^ 32) 0 16 = n) ∧ fld 7 0 16 ∉ [1, 2, 3, 4, 5, 6, 0x10, 0x11, 0x12, 0x13, 0x14, 0x20, 0x21, 0x22, 0x23, 0x30, 0x31, 0x40, 0x41] := by decide +kernel
def gang2 : List Byte := fields 256 [(0, 2, 1), (2, 1, 1), (3, 1, 2), (4, 4, 11), (68, 4, 1), (84, 4, 2)]
/-- Frozen queue 3 with its operator at entry 0, the tasks of the operator and its broken gangs. -/
def thawing (ts : List Task) (gone : List (Nat × Nat)) : State :=
  { hosted .frozen readyTask with works := [{ work1 with kind := .queue 3 0, broken := gone, launch := gang2, total := 2 }], tasks := ts }
def member (id inst : Nat) (st : TaskSt) : Task := { readyTask with id := id, inst := inst, status := st }
theorem witness_Commands_thaw : (let s := thawing [member 5 0 .faulted, member 6 1 .ready] []
      (s.queueOf 3).st = .frozen ∧ Store.sorted s.queues = true ∧ s.cur.id = 0 ∧ s.works.map (fun w => (w.id, w.kind, w.broken)) = [(7, .queue 3 0, [])] ∧
        (member 5 0 .faulted).work = 7 ∧ (member 5 0 .faulted).reissued = false ∧ ∀ x ∈ [member 6 1 .ready], x.status ≠ .faulted ∧ x.inst ≠ 0) ∧
    (∀ x ∈ (thawing [member 6 1 .ready] []).tasks, x.status ≠ .faulted) ∧
    ((thawing [member 5 0 .faulted, member 6 1 .ended] [(0, 0)]).works.map (·.broken) = [[(0, 0)]] ∧
      ∀ x ∈ [member 5 0 .faulted, member 6 1 .ended], x.work = 7 ∧ x.reissued = false ∧ groupNo gang2 x.inst 0 = 0 ∧ (x.status = .faulted ∨ x.status = .ended)) ∧
    (let s := { operator 0 31 with queues := [(3, { (operator 0 31).queueOf 3 with st := .frozen, headBad := true })] }
     (s.queueOf 3).headBad = true ∧ (s.queueOf 3).st = .frozen ∧ Store.sorted s.queues = true ∧ s.works = [] ∧ (s.queueOf 3).disp ≠ (s.queueOf 3).tail) := by decide +kernel
/-- R368: THAW of a queue one of whose tasks has faulted makes that task anew, HOLDING, and leaves the other; a frozen malformed head becomes head again. -/
theorem test_thaw : (((thawing [member 5 0 .faulted, member 6 1 .ready] []).thawQueue 3).tasks.map fun t => (t.inst, t.status)) = [(1, .ready), (0, .holding)] ∧
    (((thawing [member 5 0 .faulted] []).thawQueue 3).queueOf 3).st = .opened ∧
    (let s := { operator 0 31 with queues := [(3, { (operator 0 31).queueOf 3 with st := .frozen, headBad := true })] }
     ((after (s.thawQueue 3) (.operatorHead 3)).map fun t => t.tasks.map (·.status)) = some [.holding]) := by decide +kernel
/-- R304, R349: a KILL of a task that may not restart ends with 2; a FREEZE of an OPEN queue freezes it; a context of another function is 3. -/
theorem test_commands : ((after (hosted .opened readyTask) (.kill cmd2 5)).map fun t => (t.fnOf 2).status) = some 2 ∧
    ((after (hosted .opened readyTask) (.freeze cmd2 3)).map fun t => ((t.fnOf 2).status, (t.queueOf 3).st)) = some (0, .frozen) ∧
    ((after (hosted .opened readyTask) (.freeze ⟨2, 9⟩ 3)).map fun t => ((t.fnOf 2).status, (t.queueOf 3).st)) = some (3, .opened) := by decide +kernel

/-! Objects of the bridge, its registers, accesses from outside, the stacks. -/

/-- A state with tensor 10 and its page, an export of elements 8 to 23, an import, sequence 5 of context 4; context 4 is function 2's. -/
def exported (perms : Nat) : ExportEnt := ⟨true, 10, 8, 16, 77, 1, perms, 4⟩
def withObjects : State := { stored with
  seqs := [(5, ⟨.live, 4, 9, 0, [9]⟩), (6, ⟨.ended, 4, 10, 0, [10]⟩), (7, ⟨.reserved, 4, 11, 0, []⟩)], exports := [(3, exported 7), (4, { exported 7 with live := false })]
  imports := [(2, ⟨1, 0, 0, 16, 2, 3, 4, 1, 1⟩)], ctxFn := [(4, 2), (9, 1)] }
def pt5 (pgsz : Nat) : PtSpec := ⟨5, 15, 3, 2, [1024, 64], pgsz, 1⟩
theorem witness_Objects_sequences : withObjects.bootstat = 0 ∧ (withObjects.fnOf 2).frozen = false ∧ withObjects.fnOfCtx 4 = 2 ∧ withObjects.fnOfCtx 9 ≠ 2 ∧
    ({ withObjects with rbgOk := false } : State).rbgOk = false ∧ Store.look withObjects.seqs 8 = none ∧ (Store.look withObjects.seqs 5).map (·.st) = some .live ∧
    (Store.look withObjects.seqs 6).map (·.st) = some .ended ∧ (Store.look withObjects.seqs 7).map (·.st) = some .reserved ∧ (Store.look withObjects.seqs 5).map (·.owner) = some 4 ∧
    ptOk (pt5 16) = true ∧ ptOk (pt5 17) = false ∧ (∀ t ∈ withObjects.pagedOf 5, fld t.id 24 4 ≠ 15) ∧ withObjects.homed 3 < 2 ^ 18 := by decide +kernel
/-- A record whose context and completion queue are the function's; whose context is another's; whose queue, 3, is another's. -/
theorem witness_Objects_records : (withObjects.fnOfCtx 4 = 2 ∧ (0 = 0 ∨ 256 ≤ fld 0 32 16)) ∧ (256 ≤ fld (256 * 2 ^ 32) 32 16) ∧ withObjects.fnOfCtx 9 ≠ 2 ∧
    (fld (3 * 2 ^ 32) 32 16 = 3 ∧ withObjects.fnOfCtx (withObjects.queueOf 3).owner ≠ 2) ∧
    (let t := { tensor10 with seq := 5 }; withObjects.ownerOf t = some 4 ∧ withObjects.fnOfCtx 4 ≠ 3) := by decide +kernel
theorem witness_Objects_seqnew : (withObjects.seqReserve .reserved 4 0).isSome = true :=
  seqReserve_isSome _ _ _ (by decide +kernel) (by decide +kernel) (by decide +kernel) (by decide +kernel)
theorem witness_Objects_windows : withObjects.tensor 10 = some tensor10 ∧ withObjects.tensor 12 = none ∧ withObjects.ownerOf tensor10 = none ∧ tensor10.cut = false ∧
    0 < 1 ∧ 63 + 1 ≤ tensor10.units ∧ tensor10.units < 64 + 1 ∧ 7 < 8 ∧ Store.look withObjects.exports 0 = none ∧ Store.look withObjects.exports 3 = some (exported 7) ∧
    (Store.look withObjects.exports 4).map (·.live) = some false ∧ Store.look withObjects.exports 5 = none ∧ fmtOk 2 = true ∧ fmtOk 0x19 = false ∧
    ({ withObjects with imports := [] } : State).imports = [] ∧ isProxy proxyId = true ∧ fld proxyId 12 16 = 0 ∧
    (Store.look withObjects.imports (importKey proxyId)).map (·.owner) = some 4 ∧ isProxy 10 = false :=
  ⟨tensor10_of (by rw [withObjects]), by decide +kernel⟩
def take8 : IntakeRec := ⟨7, 1, 0, 1, 40, 512, 0, 4, 512⟩
def decode8 : DecodeRec := ⟨7, 1, 40, 0, 1024, 41, 1, 0, 4⟩
def media : State :=
  { (withObjects.setTensor (Tensor.make 40 0 [1024] 0 0)).setTensor (Tensor.make 41 5 [16, 16] 0 0) with drives := [(7, 512)] }
def job (k : JobKind) (result : Option JobEnd) : Job := ⟨k, ⟨40, 512, 512, 2⟩, true, 0, result⟩
def jobs : State := { media with
  jobs := [(1, job (.intake take8) none), (2, job (.decode decode8 7) none), (3, job (.intake take8) (some (.intake (.failed 0 1))))], nextJob := 4 }
theorem witness_Objects_media : take8.drive < 8 ∧ 0 < take8.blocks ∧ take8.blocks ≤ 65536 ∧ take8.bsize = 512 ∧ take8.offset % take8.bsize = 0 ∧
    ({ take8 with drive := 8 } : IntakeRec).drive = 8 ∧ withObjects.tensor 40 = none ∧ (media.tensor 40).map (·.size) = some 1024 ∧
    (media.jobRange 40 512 512).isSome = true ∧ decode8.decoder < 8 ∧ decode8.codec < 2 ∧ 0 < decode8.frames ∧ media.decoderFor 7 = some 7 ∧
    ({ media with decFrozen := [7] } : State).decoderFor 7 = none ∧ decode8.offset + decode8.length ≤ 1024 ∧ (media.tensor 41).map (·.fmt) = some 5 ∧
    (media.tensor 41).map (·.size) = some 512 ∧
    (media.jobRange 41 0 512).isSome = true ∧ Store.look media.drives take8.drive = some take8.bsize ∧ Store.look withObjects.drives take8.drive ≠ some take8.bsize ∧ (let s := media.setTensor { Tensor.make 41 5 [16, 16] 0 0 with ro := true }; s.jobRange 41 0 512 = none) ∧
    Store.look jobs.jobs 1 = some (job (.intake take8) none) ∧ Store.look jobs.jobs 2 = some (job (.decode decode8 7) none) ∧
    (job (.intake take8) none).held = true ∧ (Store.look jobs.jobs 3).map (·.result.isSome) = some true := by decide +kernel
/-- A picture of 2 by 2 samples of depth 8; what a stream of them says of itself. -/
def picture : Picture := ⟨2, 2, [1, 2, 3, 4], [5], [6]⟩
def decodes (pictures : List Picture) (corrupt : Bool) : DecodeEnd := ⟨⟨1, 52, 8, true, false⟩, pictures, corrupt⟩
theorem witness_Objects_decode : streamOk 0 { (decodes [] false).info with level := 53 } = false ∧ streamOk 0 (decodes [] false).info = true ∧ pictureOk 0 picture = true ∧
    (frameElems 8 picture).length = 6 ∧ (decodes [picture] false).corrupt = false ∧ (decodes [picture] true).pictures.length < 2 ∧ 1 ≤ (decodes [picture] true).pictures.length ∧
    ((2 : Nat) < 2 * 2 ∧ (0 : Nat) < 2 / 2 * (2 / 2)) := by decide +kernel
/-- R355: 8-bit samples shifted left by 2, plane after plane; a corrupt stream of one picture fails at frame 1, reason 2; an output too small, reason 3. -/
theorem test_decode_media : decoded 0 2 6 (decodes [picture] false) = .inl [4, 8, 12, 16, 20, 24] ∧ decoded 0 2 6 (decodes [picture] true) = .inr (1, 2) ∧
    decoded 0 2 5 (decodes [picture] false) = .inr (0, 3) := by decide +kernel
def image (n : Nat) (rs : List Nat) : XfImage := ⟨⟨[], [], [], 0⟩, rs, n⟩
theorem witness_Objects_xfload : (image (2 ^ 20) [0x100]).size ≤ 2 ^ 20 ∧ (∀ r ∈ (image 100 [0x100, 0xFFFE]).routines, 0x100 ≤ r ∧ r < 0xFFFF) ∧
    2 ^ 20 < (image (2 ^ 20 + 1) []).size ∧ (∃ r ∈ (image 100 [0xFF]).routines, r < 0x100 ∨ 0xFFFF ≤ r) ∧
    (∃ r ∈ (image 100 [0x100]).routines, r ∈ ({ withObjects with routines := [1, 0x100] } : State).routines) ∧ (∀ r ∈ (image 100 [0x100]).routines, r ∉ withObjects.routines) ∧
    withObjects.xfBytes + 65536 ≤ 65536 ∧ 65536 < withObjects.xfBytes + 65537 := by decide +kernel
/-! A signature that verifies. Under the key whose t is 0 the challenge drops out of what is hashed, so that the hash itself is one. -/
theorem permute_length (a : Sponge) (h : a.length = 25) : a.permute.length = 25 := by
  have round : ∀ (l : List Nat) (a : Sponge), a.length = 25 →
      (l.foldl (fun (s : Sponge) i => ((s.theta.shuffle spongeMoves).chi).iota (spongeIota i)) a).length = 25 := by
    intro l
    induction l with
    | nil => exact fun a h => h
    | cons i l ih => exact fun a _ => ih _ rfl
  exact round _ _ h
theorem leBytes_length (n x : Nat) : (leBytes x n).length = n := by
  simp [leBytes]
theorem shake256_length (m : List Byte) : (shake256 32 m).length = 32 := by
  have absorbed : ∀ (n : Nat) (a : Sponge) (l : List Byte), a.length = 25 → (a.absorb 136 l n).length = 25 := by
    intro n
    induction n with
    | zero => exact fun a l h => h
    | succ n ih => exact fun a l h => ih _ _ (permute_length _ (by simp [Sponge.addBlock, h]))
  have bytes : ∀ a : Sponge, a.bytes.length = 8 * a.length := by
    intro a
    induction a with
    | nil => rfl
    | cons x a ih => simp only [Sponge.bytes, List.map_cons, List.flatten_cons, List.length_append, leBytes_length, List.length_cons] at ih ⊢; omega
  rw [shake256, spongeOf, List.length_take, show (32 + 136 - 1) / 136 = 0 + 1 from rfl, Sponge.squeeze, List.length_append, List.length_take, bytes,
    absorbed _ _ _ rfl]
  rfl
theorem ntt_length (a : Poly) (h : a.length = 256) : a.ntt.length = 256 := by
  have node : ∀ (n k : Nat) (a : Poly), a.length = 2 ^ n → (nttNode dsaRoots n k a).length = 2 ^ n := by
    intro n
    induction n with
    | zero => exact fun k a h => h
    | succ n ih =>
      intro k a h
      have e : (2 : Nat) ^ (n + 1) = 2 ^ n + 2 ^ n := by rw [Nat.pow_succ]; omega
      have s : ((Poly.scale (dsaRoots.getD (rev8 k) 0) (a.drop (2 ^ n)))).length = 2 ^ n := by rw [Poly.scale, List.length_map, List.length_drop]; omega
      have t : (a.take (2 ^ n)).length = 2 ^ n := by rw [List.length_take]; omega
      rw [nttNode, List.length_append, ih _ _ (by rw [Poly.add, List.length_zipWith, s, t]; exact Nat.min_self _),
        ih _ _ (by rw [Poly.sub, List.length_zipWith, s, t]; exact Nat.min_self _), e]
  exact node 8 1 a h
theorem ball_length (seed : List Byte) : (dsaBall seed).length = 256 := by
  have step : ∀ (l : List Byte) (signs n i : Nat) (c : Poly), (dsaBallStep signs n i c l).length = c.length := by
    intro l
    induction l with
    | nil => intro signs n i c; cases n <;> rfl
    | cons j l ih =>
      intro signs n i c
      cases n with
      | zero => rfl
      | succ n =>
        rw [dsaBallStep]
        split
        · exact ih ..
        · rw [ih]; simp
  exact (step _ _ _ _ _).trans (List.length_replicate ..)
theorem mul_zero (c : Poly) (h : c.length = 256) : Poly.mul c Poly.zero = Poly.zero := by
  have any : ∀ c : Poly, Poly.mul c (List.replicate c.length 0) = List.replicate c.length 0 := by
    intro c
    induction c with
    | nil => rfl
    | cons x c ih => rw [List.length_cons, List.replicate_succ, Poly.mul, List.zipWith_cons_cons, Nat.mul_zero, Nat.zero_mod]; exact congrArg _ ih
  have := any c
  rw [h] at this
  exact this
/-- 256 numbers of 18 bits, each 2^17: the packed form of the polynomial 0. -/
def zeroBytes : List Byte := (List.replicate 64 [0, 0, 2, 0, 8, 0, 32, 0, 128]).flatten
def zeroKey : List Byte := List.replicate 1312 0
theorem zero_ntt : Poly.zero.ntt = Poly.zero := by decide +kernel
theorem zero_unpack : unpackFrom dsaGamma1 18 zeroBytes = Poly.zero := by decide +kernel
theorem zero_public : dsaPublic zeroKey = (List.replicate 32 0, List.replicate 4 Poly.zero) := by decide +kernel
theorem zipWith_same {α β : Type} {f g : α → α → β} {x : α} (n : Nat) (l : List α) (h : ∀ a, f a x = g a x) :
    List.zipWith f l (List.replicate n x) = List.zipWith g l (List.replicate n x) := by
  induction n generalizing l with
  | zero => cases l <;> rfl
  | succ n ih => cases l with
    | nil => rfl
    | cons a l => rw [List.replicate_succ, List.zipWith_cons_cons, List.zipWith_cons_cons, h, ih]
/-- For every message there is a signature of it that verifies under the key, and it is 32 bytes, the polynomials 0 and no hint. -/
theorem zero_verifies (m : List Byte) : ∃ sig, dsaVerify zeroKey m sig = true := by
  let rest : List Byte := zeroBytes ++ (zeroBytes ++ (zeroBytes ++ (zeroBytes ++ List.replicate 84 0)))
  let az := (dsaMatrix (List.replicate 32 0)).map fun row => dsaDot row (List.replicate 4 Poly.zero)
  let w := List.zipWith (fun a (_ : Poly) => (Poly.sub a Poly.zero).intt) az (List.replicate 4 Poly.zero)
  let w1 := List.zipWith (fun (p : Poly) (h : List Nat) => ((List.range 256).zip p).map fun x => dsaUseHint (h.contains x.1) x.2) w [[], [], [], []]
  let c0 := shake256 32 (dsaRepr (shake256 64 zeroKey) m ++ dsaHighBytes w1)
  have len : c0.length = 32 := shake256_length _
  have head : (c0 ++ rest).take 32 = c0 := List.take_left' len
  have tail : (c0 ++ rest).drop 32 = rest := List.drop_left' len
  have hints : dsaHints ((c0 ++ rest).drop 2336) = some [[], [], [], []] := by
    rw [show 2336 = 32 + 2304 from rfl, ← List.drop_drop, tail]
    decide +kernel
  have size : (c0 ++ rest).length = 2420 := by rw [List.length_append, len]; decide +kernel
  have z : (bytePieces 576 4 rest).map (unpackFrom dsaGamma1 18) = List.replicate 4 Poly.zero := by
    rw [show bytePieces 576 4 rest = List.replicate 4 zeroBytes by decide +kernel, List.map_replicate, zero_unpack]
  refine ⟨c0 ++ rest, ?_⟩
  rw [dsaVerify, zero_public, head, tail, hints, size, z]
  simp only [List.map_replicate, zero_ntt]
  have mul : Poly.mul (dsaBall c0).ntt Poly.zero = Poly.zero := mul_zero _ (ntt_length _ (ball_length _))
  have w_eq : List.zipWith (fun (a t : Poly) => (Poly.sub a (Poly.mul (dsaBall c0).ntt t.ntt)).intt) az (List.replicate 4 Poly.zero) = w :=
    zipWith_same 4 az (fun a => by rw [zero_ntt, mul])
  rw [show (List.map (fun row => dsaDot row (List.replicate 4 Poly.zero)) (dsaMatrix (List.replicate 32 0))) = az from rfl, w_eq,
    decide_eq_true (show zeroKey.length = 1312 from List.length_replicate ..),
    decide_eq_true (show PolyVec.norm (List.replicate 4 Poly.zero) < dsaGamma1 - dsaBeta by decide +kernel), decide_true, Bool.true_and, Bool.true_and]
  exact beq_self_eq_true c0
/-- An image of any body and version that the fuses accept, or find too old: the premises of start-up and of XFLOAD. -/
theorem witness_signed (body : List Byte) (version : Nat) : ∃ i : FwImage, i.body = body ∧ i.version = version ∧
    dsaVerify i.key (leBytes (sha3 i.body).toNat 32) i.signature = true ∧ sha3 i.key = (⟨sha3 zeroKey, version⟩ : Fuses).keyDigest :=
  (zero_verifies (leBytes (sha3 body).toNat 32)).elim fun sig h => ⟨{ body := body, key := zeroKey, signature := sig, version := version }, rfl, rfl, h, by
    dsimp only⟩
/-- An image under another key than the fused one; one under the fused key is old, or new enough. -/
def fused (v : Nat) : State := { withObjects with fuses := ⟨sha3 [], v⟩ }
theorem witness_Objects_images : sha3 (image 1 []).image.key ≠ sha3 [1] ∧ sha3 (image 1 []).image.key = (fused 0).fuses.keyDigest ∧
    (fused 0).fuses.minVersion ≤ (image 1 []).image.version ∧ ¬ (fused 1).fuses.minVersion ≤ (image 1 []).image.version := by decide +kernel

/-- Queue 3 of context 4 with room: 16 records, 1 waiting. -/
def regs (q : QState) (tail : Nat) : State :=
  { (withObjects.setTensor (Tensor.make 30 0 [2048] 0 0)).setQueue 3 { OpQueue.init with owner := 4, st := q, size := 16, base := 30, tail := tail } with ctxFn := [(4, 2)] }
theorem witness_Registers : ¬ (State.reset.bootstat = 0) ∧ (regs .disabled 0).bootstat = 0 ∧ ((regs .disabled 0).fnOf 2).frozen = false ∧ 256 ≤ 256 ∧ 255 < 256 ∧ (2 : Nat) ≠ 0 ∧
    (regs .disabled 0).fnOfCtx ((regs .disabled 0).queueOf 4).owner ≠ 2 ∧ (regs .disabled 0).fnOfCtx ((regs .disabled 0).queueOf 3).owner = 2 ∧
    (let q := (regs .opened 1).queueOf 3; (16 + 2 ^ 32 - q.ret) % 2 ^ 32 + q.resv ≤ q.size ∧ q.size < (17 + 2 ^ 32 - q.ret) % 2 ^ 32 + q.resv ∧
      (q.disp + 2 ^ 32 - q.ret) % 2 ^ 32 ≤ (16 + 2 ^ 32 - q.ret) % 2 ^ 32 ∧ q.size ≠ 0 ∧ q.ret = q.disp ∧ q.resv = 0) ∧
    (let q := { (regs .opened 1).queueOf 3 with disp := 1, ret := 0 }; (0 + 2 ^ 32 - q.ret) % 2 ^ 32 < (q.disp + 2 ^ 32 - q.ret) % 2 ^ 32 ∧ q.ret ≠ q.disp) ∧
    ((regs .disabled 0).queueOf 3).st = .disabled ∧ 65536 = 16 * 2 ^ 12 ∧ (∀ k, k ≤ 12 → 24 ≠ 16 * 2 ^ k) ∧ ((regs .disabled 0).tensor 30).map (·.size) = some (16 * 128) ∧
    ((regs .disabled 0).setQueue 3 { (regs .disabled 0).queueOf 3 with size := 0 } |>.queueOf 3).size = 0 ∧ ((regs .frozen 0).queueOf 3).st = .frozen ∧
    ({ regs .opened 0 with works := [] } : State).works = [] ∧ (∀ t ∈ (regs .opened 0).allTasks, t.reissued = false) := by decide +kernel
theorem witness_Registers_functions : (idleState.fnOf 2).heldRecs = [] ∧ Store.sorted idleState.fns = true ∧
    (let f := (idleState.setFn 2 { Fn.init with heldRecs := [List.replicate 64 0] }).fnOf 2; f.heldRecs = [List.replicate 64 0] ∧ f.fasize = 0 ∧ f.fahead = f.fatail ∧ f.fahead < 2 ^ 32 ∧ f.lost = 0) ∧
    (let f := (idleState.setFn 2 { Fn.init with heldRecs := [List.replicate 64 0], lost := 3 }).fnOf 2; f.lastAt = none ∧ f.lost ≠ 0 ∧ f.fasize = 0) ∧
    1 % 2 ^ 64 = 1 ∧ 2 % 2 ^ 64 ≠ 1 ∧ State.reset.bootstat ≠ 0 ∧ (idleState.run.isNone = true ∧ (0 : Nat) < 16) ∧ ({ idleState with run := some { BootEnv.good with member := 15 } } : State).run.map (·.member) = some 15 ∧ 7 < 8 ∧ 0xFFF < 0x1000 ∧ 0xFF < 0x100 ∧
    (3 : Nat) ≠ 2 ∧ 4 ≤ 4 ∧ 3 < 4 ∧ 300 ≤ fld (300 * 2 ^ 48) 48 16 ∧ fld (750 * 2 ^ 48) 48 16 ≤ 750 ∧ fld (299 * 2 ^ 48) 48 16 < 300 ∧ 750 < fld (751 * 2 ^ 48) 48 16 ∧
    (idleState.stackOf 3).rackLo < 721 % 65536 ∧ 720 % 65536 ≤ (idleState.stackOf 3).rackLo ∧ 839 % 65536 < (idleState.stackOf 3).rackHi ∧ (idleState.stackOf 3).rackHi ≤ 840 % 65536 ∧
    (idleState.stackOf 3).cellstat = 0 ∧ (idleState.setStack 3 { Stack.init with cellstat := 1 } |>.stackOf 3).cellstat ≠ 0 ∧ 32 % 256 ≤ 32 ∧ 63 % 256 = 63 ∧ 32 < 33 % 256 ∧ 33 % 256 ≠ 63 := by
  decide +kernel
theorem test_registers : ((after (regs .disabled 0) (.qsizeWrite 2 3 24)).map fun t => (t.queueOf 3).size) = some 16 ∧
    ((after (regs .opened 1) (.qtailWrite 2 3 17)).map fun t => (t.queueOf 3).tail) = some 1 ∧ ((after (regs .opened 1) (.qtailWrite 2 3 16)).map fun t => (t.queueOf 3).tail) = some 16 ∧
    ((after idleState (.lfcapWrite 0 3 (299 * 2 ^ 48 + 625 * 2 ^ 32))).map fun t => ((t.stackOf 3).m.cap, (t.stackOf 3).c.cap)) = some (750, 625) := by decide +kernel

/-- R347, R348: BOOTSTAT before start-up has ended; CMDSTAT of a busy function; the fault tail; a queue of another function reads as zero. -/
theorem test_reads : State.reset.regRead 0 0x1000A8 = some 0xFF ∧ (idleState.setFn 2 { Fn.init with busy := true, status := 5 }).regRead 2 0x100048 = some (2 ^ 63 + 5) ∧
    (idleState.setFn 2 { Fn.init with fatail := 9 }).regRead 2 0x100098 = some 9 ∧ (regs .opened 7).regRead 2 0x310 = some 7 ∧
    (regs .opened 7).regRead 3 0x310 = some 0 := by decide +kernel

def access (k : RemoteKind) (elem key : Nat) : RemoteReq := ⟨2, 1, 3, 1, key, elem, k, .group⟩
def coherent (perms : Nat) : State := { inClass 2 with exports := [(3, exported perms)], ctxFn := [(4, 2)], pages := (inClass 2).pages }
/-- The window's tensor DROPPED; the tensor gone with its sequence. -/
def droppedWindow : State := { coherent 7 with tensors := [(10, { tensor10 with st := .dropped })] }
def withoutTensor : State := { coherent 7 with tensors := [] }
theorem witness_OutsideAccesses : (coherent 7).tensor 10 = some tensor10 ∧ Store.look (coherent 7).exports 4 = none ∧ Store.look (coherent 7).exports 3 = some (exported 7) ∧ (coherent 7).env.epoch = 1 ∧
    (access (.read 4) 0 78).key ≠ (exported 7).key ∧ (exported 7).perms.testBit 1 = true ∧ (exported 5).perms.testBit 1 = false ∧ (exported 3).perms.testBit 2 = false ∧
    16 * elemBytes tensor10.fmt < 15 * elemBytes tensor10.fmt + 5 ∧ 15 * elemBytes tensor10.fmt + 4 ≤ 16 * elemBytes tensor10.fmt ∧ (coherent 7).bootstat = 0 ∧
    tensor10.paged = false ∧ tensor10.entry ((8 + 15) * 4 / tensor10.pageBytes) ≠ 0 ∧
    (((coherent 7).page (tensor10.entry 0)).map fun p => (p.ref, p.coh, p.pk)) = some (1, 2, false) ∧ (8 + 15) * 4 % tensor10.pageBytes + 4 ≤ tensor10.pageBytes ∧
    (coherent 7).meet tensor10 ((8 + 15) * 4) 4 = none ∧ (coherent 7).fnOfCtx (exported 7).owner = 2 ∧ 60 + 4 ≤ (exported 7).count * elemBytes tensor10.fmt ∧
    (exported 7).count * elemBytes tensor10.fmt < 61 + 4 ∧ rmwWide (.cas 1 2) = true ∧ rmwWide (.fetch .and 1) = false ∧ ((stored.page (tensor10.entry 0)).map (·.coh)) = some 1 ∧
    tensor10.st ≠ .dropped ∧ (droppedWindow.tensor 10).map (·.st) = some .dropped ∧ droppedWindow.meet { tensor10 with st := .dropped } ((8 + 15) * 4) 4 = none ∧
    (withoutTensor.tensor 10).isNone = true ∧ Store.look withoutTensor.exports 3 = some (exported 7) ∧ (exported 7).live = true ∧ withoutTensor.fnOfCtx (exported 7).owner = 2 ∧
    (((coherent 7).setFn 2 { Fn.init with posted := [.read 0 0 4] }).fnOf 2).posted ≠ [] ∧ ((coherent 7).fnOf 2).posted = [] ∧ 60 % 8 + 4 ≤ 8 ∧
    8 < 52 % 8 + 12 ∧ 52 + 12 ≤ (exported 7).count * elemBytes tensor10.fmt :=
  ⟨tensor10_of (by rw [coherent, inClass, State.setPage]), by decide +kernel⟩
/-- R224 at the scopes of remote atomics on the SC page: AND is allowed to package, and not to group, where ADD and a comparison are. -/
theorem witness_OutsideAccesses_atomics : (access (.atomic 4 (.fetch .and 1)) 0 77).scope = .group ∧ (((coherent 7).page (tensor10.entry 0)).map (·.coh)) = some 2 ∧
    (exported 7).perms.testBit 2 = true ∧ 0 * elemBytes tensor10.fmt + 4 ≤ (exported 7).count * elemBytes tensor10.fmt ∧ (8 + 0) * 4 % tensor10.pageBytes + 4 ≤ tensor10.pageBytes ∧
    ((coherent 7).meet tensor10 ((8 + 0) * 4) 4).isNone = true ∧ rmwWide (.fetch .and 1) = false ∧ rmwWide (.fetch .add 1) = true ∧
    ({ access (.atomic 4 (.fetch .and 1)) 0 77 with scope := .package } : RemoteReq).scope = .package := by decide +kernel
/-- R224, R346: the two of AND. -/
theorem test_ingress_atomic : let r := access (.atomic 4 (.fetch .and 1)) 0 77
    ((after (coherent 7) (.ingressAccess r)).map fun t => leNat (t.idBytes 10 32 4)) = some 9 ∧
    ((after (coherent 7) (.ingressAccess { r with scope := .package })).map fun t => leNat (t.idBytes 10 32 4)) = some 1 := by decide +kernel
/-- The first tile of the window's page POISONED; its task PARKED. -/
def badWindow : State := { coherent 7 with pages := [(tensor10.entry 0, { page10 with bad := [0] })] }
theorem witness_OutsideAccesses_reads : ((badWindow.meet tensor10 ((8 + 15) * 4) 4).isSome = true ∧ ((badWindow.fnOf 2).posted = [] ∧ badWindow.bootstat = 0)) ∧
    (schedule { readyTask with status := .parked }).taskOf 5 = some { readyTask with status := .parked } ∧ readyTask.status ≠ .parked ∧ readyTask.status ≠ .saved ∧
    (⟨2, 77⟩ : Cmd).fn ≠ 0 ∧ (⟨2, 77⟩ : Cmd).ctx ≠ readyTask.owner := by decide +kernel
theorem witness_OutsideAccesses_none : ∀ t e, ¬ (Store.look (coherent 7).exports 4 = some e ∧ (coherent 7).tensor e.tensor = some t) := by
  intro t e h
  rw [show Store.look (coherent 7).exports 4 = none by decide +kernel] at h
  cases h.1
/-- R346: a remote write changes its four bytes; one with another key, nothing. R370: a host access outside its exports freezes the function. -/
theorem test_outside : ((after (coherent 7) (.ingressAccess (access (.write (leBytes 9 4)) 15 77))).map fun t => (leNat (t.idBytes 10 92 4), leNat (t.idBytes 10 88 4))) = some (9, 23) ∧
    ((after (coherent 7) (.ingressAccess (access (.write (leBytes 9 4)) 15 78))).map fun t => leNat (t.idBytes 10 92 4)) = some 24 ∧
    ((after (coherent 7) (.hostApertureRead 2 3 61 4)).map fun t => (t.fnOf 2).frozen) = some true ∧
    ((after (coherent 7) (.hostApertureRead 2 3 60 4)).map fun t => (t.fnOf 2).frozen) = some false := by decide +kernel

/-- A layer with bank 50 hot; 48 banks of stack 1 racked, all in K0. -/
def hotLayer : LayerSt := { LayerSt.init with sensors := [(50, ⟨900, 0⟩)] }
def racked48 : State :=
  idleState.setStack 1 { Stack.init with cellstat := 1, k0 := { hotLayer with racked := BitVec.ofNat 64 (2 ^ 48 - 1) } }
/-- Bank 50 of K0 of stack 1 hot and being racked, with one line, or none, in it; K1 runs or not. -/
def racking (lines : List CellarLine) (on : Bool) : State := idleState.setStack 1
  { Stack.init with cellstat := 1, k0 := hotLayer, k1 := { LayerSt.init with on := on }, lines := lines, racking := [(false, 50)] }
def lineIn50 : CellarLine := ⟨7, 64, false, 50, true⟩
theorem witness_Plant : ¬ (Layer.m = .k0 ∨ Layer.m = .k1) ∧ (Layer.k0 = .k0 ∨ Layer.k0 = .k1) ∧ ((idleState.stackOf 1).layer .k0).on = true ∧
    ((idleState.stackOf 1).layer .k0).racked.getLsbD 63 = false ∧ ((racked48.stackOf 1).layer .k0).racked.getLsbD 47 = true ∧ 63 < 64 ∧ 64 ≤ 64 ∧
    (let k := (racking [] true).stackOf 1; k.cellstat = 1 ∧ k.rackHi ≤ (Store.get Sensor.init (k.layer .k0).sensors 50).temp ∧ (false, 51) ∉ k.racking ∧
      (false, 50) ∈ k.racking ∧ k.rackedCount < 48 ∧ k.rackLo < (Store.get Sensor.init (k.layer .k0).sensors 50).temp ∧
      (Store.get Sensor.init (k.layer .k0).sensors 51).temp < k.rackHi ∧ (Store.get Sensor.init (k.layer .k0).sensors 51).temp ≤ k.rackLo) ∧
    (0 + 1000000 ≤ ({ idleState with now := 1000000 * quantaPerNs } : State).time ∧ ({ idleState with now := 999999 * quantaPerNs } : State).time < 0 + 1000000) ∧
    48 ≤ (racked48.stackOf 1).rackedCount ∧
    (let s := idleState.setStack 1 { Stack.init with k1 := { LayerSt.init with on := false } }; ((s.stackOf 1).layer .k1).on = false) ∧
    300 % 25 = 0 ∧ 750 % 25 = 0 ∧ 750 ≤ ((idleState.stackOf 1).layer .m).cap ∧ ((idleState.stackOf 1).layer .m).cap < 775 ∧ 301 % 25 ≠ 0 ∧ 275 < 300 ∧
    (idleState.boot.memory = true ∧ idleState.boot.rbg = true ∧ idleState.boot.lines = []) ∧
    sha3 idleState.boot.image.key ≠ idleState.fuses.keyDigest ∧ sha3 (fused 0).boot.image.key = (fused 0).fuses.keyDigest ∧
    (fused 0).fuses.minVersion ≤ (fused 0).boot.image.version ∧ (fused 1).boot.image.version < (fused 1).fuses.minVersion ∧
    ({ BootEnv.good with memory := false } : BootEnv).memory = false ∧ ({ BootEnv.good with rbg := false } : BootEnv).rbg = false := by decide +kernel
theorem witness_Plant_racking : ((racking [] true).stackOf 1).racking = [(false, 50)] ∧ Store.sorted (racking [lineIn50] true).dies = true ∧ (∀ l ∈ ((racking [] true).stackOf 1).lines, ¬ (l.upper = false ∧ l.bank = 50)) ∧
    ((racking [lineIn50] true).stackOf 1).lines.find? (fun l => l.upper == false && l.bank == 50) = some lineIn50 ∧
    (let k := (racking [lineIn50] true).stackOf 1; 0 < 64 ∧ k.bankOpen (true, 0) = true ∧ (k.bankTemp (true, 0)).temp ≤ k.rackLo) ∧
    (let k := (racking [lineIn50] false).stackOf 1; ∀ n, ¬ (n < 64 ∧ k.bankOpen (true, n) = true ∧ (k.bankTemp (true, n)).temp ≤ k.rackLo)) :=
  ⟨by decide +kernel, by decide +kernel, by decide +kernel, by decide +kernel, by decide +kernel, fun n h => Bool.noConfusion h.2.1⟩
theorem witness_Plant_lines : 31 < 32 ∧ Stack.init.vbretire.testBit 31 = false ∧ ({ Stack.init with vbretire := 2 ^ 31 } : Stack).vbretire.testBit 31 = true ∧
    Store.get 63 Stack.init.vbshift ((1 * 16 + 15) * 32 + 31) = 63 ∧ (∀ x ∈ [0, 31, 32], Store.get 63 ({ Stack.init with vbshift := [(1023, x)] } : Stack).vbshift 1023 = x) ∧
    (base.agenda = [] ∧ ({ BootEnv.good with lines := [] } : BootEnv).lines = []) := by decide +kernel
/-- Five retired buses of boundary 1; four of each. -/
theorem witness_Plant_many : 4 < (List.range 16).countP (fun i => ((31 : Nat) * 2 ^ 16).testBit (16 * 1 + i)) ∧
    ¬ 4 < (List.range 16).countP (fun i => ((15 : Nat) * 2 ^ 16 + 15).testBit (16 * 1 + i)) := by decide +kernel
/-- R378: the lines of group 2 with VBSHIFT 5: line 4 in its own place, lines 5 and 31 one on. -/
theorem test_lines : let k := { Stack.init with vbshift := [(2, 5)] }
    (k.lineOf 0 0 2 4, k.lineOf 0 0 2 5, k.lineOf 0 0 2 31) = (some 70, some 72, some 98) := by decide +kernel
/-- The example of R379 for stack 2: line 106 stuck low and line 362 open; before the later start-up, line 119 stuck high too. -/
def twoFaults (later : Bool) : State := { State.reset with boot := { BootEnv.good with lines :=
  [⟨2, 0, 5, 106, false, .low⟩, ⟨2, 0, 5, 362, true, .low⟩] ++ (if later then [⟨2, 0, 5, 119, false, .high⟩] else []) } }
def repaired (later : Bool) : Stack := ((twoFaults later).repairBus 2 0 5).stackOf 2
theorem witness_Plant_repair : Store.sorted (twoFaults true).dies = true ∧ Store.sorted ((twoFaults true).stackOf 2).vbshift = true ∧
    (∀ g, g < 32 → ((twoFaults false).badLines 2 0 5 g).length < 2) ∧ 3 < 32 ∧ ((twoFaults true).badLines 2 0 5 3).length = 2 ∧
    ((twoFaults true).badLines 2 0 5 10).length = 1 ∧ ((twoFaults true).badLines 2 0 5 31).length ≠ 1 := by decide +kernel
theorem test_repair : (repaired false).vbretire = 0 ∧ Store.get 63 (repaired false).vbshift 0x0A3 = 7 ∧ Store.get 63 (repaired false).vbshift 0x0AA = 32 ∧
    (repaired true).vbretire = 0x20 ∧ Store.get 63 (repaired true).vbshift 0x0A3 = 63 ∧ Store.get 63 (repaired true).vbshift 0x0AA = 32 := by decide +kernel
def imageTensor (id : Option Nat) : ImageTensor := ⟨id, 2, [64], true, []⟩
theorem no_owner : ∀ o, withObjects.ownerOf tensor10 = some o → withObjects.fnOfCtx o ≠ 2 := by
  intro o h
  rw [show withObjects.ownerOf tensor10 = none by decide +kernel] at h
  cases h
theorem witness_Plant_images : withObjects.tensor 10 = some tensor10 ∧ (∀ o, withObjects.ownerOf tensor10 = some o → withObjects.fnOfCtx o ≠ 2) ∧
    tensor10.st ≠ .moving ∧ tensor10.st ≠ .dropped ∧ tensor10.holds = 0 ∧ tensor10.id = 10 ∧ tensor10.rcp = false ∧ Store.sorted withObjects.tensors = true ∧
    (let s := withObjects.setTensor { tensor10 with holds := 1 }; (s.tensor 10).map (·.holds) = some 1) ∧
    (let t := { tensor10 with seq := 5 }; (withObjects.setTensor t).ownerOf t = some 4 ∧ (withObjects.setTensor t).fnOfCtx 4 = 2) ∧
    (withObjects.tensor 10).isSome = true ∧ 2 ^ 32 ≤ 2 ^ 32 ∧ (2 ^ 29).testBit 29 = true ∧ Store.look withObjects.tensors 12 = none ∧ 0 < 12 ∧ 12 < 2 ^ 32 ∧ (12).testBit 29 = false ∧ 3 < 4 ∧
    (imageTensor (some 12)).content = [] ∧ withObjects.tensor 12 = none ∧ (imageTensor none).id = none :=
  ⟨tensor10_of (by rw [withObjects]), no_owner, by decide +kernel⟩
/-- Any stack of that state has room for records; an image that has not. -/
theorem witness_Plant_room : (∀ n, withObjects.homed n < 2 ^ 18) ∧
    let img : Image := ⟨0, List.replicate (2 ^ 18 + 1) (imageTensor (some 12)), [], []⟩
    2 ^ 18 < withObjects.homed 0 + img.tensors.length ∧ ∀ y ∈ img.tensors, ∃ id, y.id = some id ∧ id < 2 ^ 30 := by
  refine ⟨fun n => Nat.lt_of_le_of_lt (List.length_filter_le ..) (by decide +kernel), ?_, fun y hy => ⟨12, ?_⟩⟩
  · simp only [List.length_replicate]; omega
  · rw [List.eq_of_mem_replicate hy]; decide
/-- R377: the 49th bank is not racked, and the layer's clock falls by 25 MHz. R388: an image's tensor without an id takes the lowest free one. -/
theorem test_plant : ((after racked48 (.rackBank 1 .k0 50)).map fun t => ((t.stackOf 1).k0.freq, (t.stackOf 1).k0.racked.getLsbD 50)) = some (23, false) ∧
    ((after (racking [] true) (.rackBank 1 .k1 0)).map fun t => (t.stackOf 1).racking) = some [(false, 50)] ∧
    ((after withObjects (.imageLoad ⟨0, [imageTensor none], [], []⟩)).map fun t => ((t.tensor 1).map (·.ro))) = some (some true) ∧
    ((after withObjects (.hostDeletion 0 10)).map fun t => (t.tensor 10).isSome) = some false ∧
    ((after base .deviceReset).map fun t => (t.bootstat, t.cur.id, t.boot.epoch)) = some (0xFF, 0, 2) := by decide +kernel
/-- R382, R383: an image under another key than the fused one ends start-up with code 1. -/
theorem unsigned_ends (s : State) (r : s.run.isNone = true) (h : signedFor s.boot.image s.fuses = false) : s.startUp.bootstat = 1 := by
  simp [State.startUp, r, State.startFirst, h]
theorem test_boot : (({ State.reset with fuses := ⟨sha3 [1], 0⟩ } : State).startUp).bootstat = 1 :=
  unsigned_ends _ rfl (by
    show signedFor BootEnv.good.image ⟨sha3 [1], 0⟩ = false
    rw [signedFor, show (sha3 BootEnv.good.image.key == (⟨sha3 [1], 0⟩ : Fuses).keyDigest) = false by decide +kernel, Bool.and_false])

end Sys2Proof.Tests
end

section
/-! PROOFS. Results that land in no register, stores on their way, tables filled index by index: what they leave once they have landed. -/

namespace Sys2Proof.Machine

/-! Results that land in no register (R46): a result of the destination `.flags` with no flags. -/

/-- The task with one more entry behind its results in flight. -/
def Task.followed (p : Pend) (t : Task) : Task := { t with pend := t.pend ++ [p] }

theorem Task.emit_keyless (t : Task) (u tag : Nat) (d : Dest) (bound : Nat) (fl : Flags) (h : d.key = none) :
    t.emit u tag d bound fl = t.followed ⟨u, bound, d, fl, false, tag⟩ :=
  t.emit_clear u tag d bound fl fun _ _ hk _ => by rw [h] at hk; cases hk

theorem State.emit_keyless (s : State) (d : Dest) (bound : Nat) (fl : Flags) (h : d.key = none) :
    s.emit d bound fl = { s with cur := s.cur.followed ⟨s.clk, bound, d, fl, false, s.free⟩, free := s.free + 1 } := by
  rw [State.emit, Task.emit_keyless _ _ _ _ _ _ h]

theorem Task.anyBinding_followed (t : Task) (p : Pend) (h : p.dest = .flags) (tag k : Nat) :
    (t.followed p).anyBinding tag k = t.anyBinding tag k := by
  have hb : (t.followed p).bindings = t.bindings := by
    simp only [Task.bindings, Task.followed, List.filterMap_append, h, List.filterMap_cons_none, List.filterMap_nil, List.append_nil]
  unfold Task.anyBinding
  rw [hb]

theorem Task.land_followed (t : Task) (p x : Pend) (h : p.dest = .flags) : (t.followed p).land x = (t.land x).followed p := by
  unfold Task.land
  split
  · rfl
  · rfl
  · rw [t.anyBinding_followed p h]
    rfl
  · rfl

theorem replaced_followed (ps rest : List Pend) (p : Pend) (h : p.flags = 0) : replaced ps (rest ++ [p]) = replaced ps rest ++ [p] := by
  have hp : ({ p with flags := 0 } : Pend) = p := by rw [← h]
  unfold replaced
  split
  · rfl
  · simp only [List.map_append, List.map_cons, List.map_nil, hp, ite_self]

/-- Before its window has ended, a result that lands nowhere and carries no flags only waits behind the others. -/
theorem Task.settle_followed (t : Task) (p : Pend) (u : Nat) (hd : p.dest = .flags) (hf : p.flags = 0) (hu : u < p.last) :
    (t.followed p).settle u = (t.settle u).followed p := by
  have hlate : decide (p.last ≤ u) = false := decide_eq_false (by omega)
  have hfold : ∀ (due : List Pend) (t : Task), due.foldl Task.land (t.followed p) = (due.foldl Task.land t).followed p :=
    fun _ _ => List.foldl_hom (Task.followed p) fun t x => t.land_followed p x hd
  rw [Task.settle_eq, Task.settle_eq]
  simp only [Task.followed, List.filter_append, List.filter_cons, List.filter_nil, hlate, Bool.not_false, if_true, Bool.false_eq_true,
    if_false, List.append_nil, replaced_followed _ _ p hf] at hfold ⊢
  generalize (t.pend.filter fun p => decide (p.last ≤ u)) = due
  simpa only using congrArg (fun x : Task => { x with arch := { x.arch with tstat := landFlags x.arch.tstat due } })
    (hfold due { t with pend := replaced due (t.pend.filter fun p => !decide (p.last ≤ u)) })

/-- A result that lands nowhere and carries no flags changes no register. -/
theorem State.arch_settle_emit_flags (s : State) (bound u : Nat) : ((s.emit .flags bound 0).cur.settle u).arch = (s.cur.settle u).arch := by
  by_cases hu : s.clk + bound ≤ u
  · rw [s.settle_emit .flags bound 0 u ⟨nofun, nofun⟩ nofun (.inl rfl) hu]
    simp only [Arch.land, flags_or_zero]
  · rw [s.emit_keyless .flags bound 0 rfl,
      s.cur.settle_followed ⟨s.clk, bound, .flags, 0, false, s.free⟩ u rfl rfl (Nat.lt_of_not_le hu)]
    rfl

theorem State.issues_emit (s : State) (d : Dest) (bound : Nat) (fl : Flags) : s.Issues (s.emit d bound fl).marked :=
  congrArg (fun c => ({ s with cur := c, free := s.free + 1 } : State).marked) (s.cur.emit_pend s.clk s.free d bound fl)

/-- A write of TSTAT that is alone on its way, once it has landed. -/
theorem Task.settle_tstat (t : Task) (c tag : Nat) (v : Flags) (u : Nat) (hp : t.pend = []) (hu : c + 1 ≤ u) :
    (t.followed ⟨c, 1, .tstat v, 0, false, tag⟩).settle u = { t with arch := { t.arch with tstat := v } } := by
  have hdue : [(⟨c, 1, .tstat v, 0, false, tag⟩ : Pend)].filter (fun p => decide (p.last ≤ u)) = [⟨c, 1, .tstat v, 0, false, tag⟩] :=
    List.filter_cons_of_pos (decide_eq_true hu)
  have hrest : [(⟨c, 1, .tstat v, 0, false, tag⟩ : Pend)].filter (fun p => !decide (p.last ≤ u)) = [] :=
    List.filter_cons_of_neg (by
      show ¬ (!decide (c + 1 ≤ u)) = true
      rw [decide_eq_true hu]
      decide)
  have hflags : landFlags t.arch.tstat [⟨c, 1, .tstat v, 0, false, tag⟩] = v := by
    simp only [landFlags, tstatWrite, List.foldl_cons, List.foldl_nil, Pend.landAt, Std.le_refl, if_true, flags_or_zero]
  rw [Task.settle_eq]
  simp only [Task.followed, hp, List.nil_append, hdue, hrest, List.foldl_cons, List.foldl_nil, Task.land, replaced, tstatWrite,
    List.map_nil, hflags]

/-! A store to the window set on its way (R193): what it does once it has landed. -/

/-- A store is one more entry behind the results in flight, its lines logged. -/
theorem State.store_eq (s : State) (a : Nat) (bs : List Byte) :
    s.store a bs =
      { s with cur := (s.cur.log (linesOf a bs.length)).followed ⟨s.clk, 1, .store a bs, 0, false, s.free⟩, free := s.free + 1 } :=
  State.emit_keyless _ (.store a bs) 1 0 rfl

/-- A change of the registers and a store do not see each other. -/
theorem State.arch_store (s : State) (f : Arch → Arch) (a : Nat) (bs : List Byte) : (s.store a bs).arch f = (s.arch f).store a bs := by
  rw [State.store_eq, State.store_eq]
  rfl

/-- From the next clock on the window holds the bytes of a store. -/
theorem Task.settle_store (t : Task) (c tag a : Nat) (bs : List Byte) (u : Nat) (hu : c + 1 ≤ u) :
    (t.followed ⟨c, 1, .store a bs, 0, false, tag⟩).settle u = (t.settle u).put none a bs := by
  have hlast : decide ((⟨c, 1, .store a bs, 0, false, tag⟩ : Pend).last ≤ u) = true := decide_eq_true hu
  have hnt : ∀ v, (⟨c, 1, .store a bs, 0, false, tag⟩ : Pend).dest ≠ .tstat v := fun _ h => Dest.noConfusion h
  rw [Task.settle_eq, Task.settle_eq]
  simp only [Task.followed, List.filter_append, List.filter_cons, List.filter_nil, hlast, Bool.not_true, if_true, Bool.false_eq_true, if_false,
    List.append_nil]
  generalize (t.pend.filter fun p => decide (p.last ≤ u)) = due
  rw [List.foldl_append, replaced_append _ _ _ hnt, landFlags_append _ _ _ hnt (.inl rfl), flags_or_zero]
  rfl

/-- An instruction that makes the effects of `s1` and stores completes with both. -/
theorem State.storesWith_of_store (s s1 : State) (i : Instr) (a : Nat) (bs : List Byte) (hk : s1.clk = s.clk)
    (he : exec i s = (s1.store a bs).ran) : s.StoresWith s1 i a bs := by
  refine ⟨_, he, ?_, ?_⟩
  · rw [State.store_eq]
    rfl
  · intro u hu
    rw [State.store_eq]
    exact (s1.cur.log (linesOf a bs.length)).settle_store s1.clk s1.free a bs u (hk ▸ hu)

/-! The checks of a store to the window (R196, R254). -/

theorem State.winFault_inside (s : State) (a n : Nat) (h : a + n ≤ s.cur.hdr.window) : s.winFault a n = none := if_pos (.inr h)

theorem State.winFault_outside (s : State) (a n : Nat) (hn : n ≠ 0) (h : s.cur.hdr.window < a + n) :
    s.winFault a n = some (s.raise 4 [max a s.cur.hdr.window, s.cur.hdr.window, 0xFF, s.slotNo]) :=
  if_neg fun hc => hc.elim hn (Nat.not_le.mpr h)

theorem length_foldl_le {α β : Type} (f : List β → α → List β) (hf : ∀ acc x, (f acc x).length ≤ acc.length + 1) (l : List α)
    (acc : List β) : (l.foldl f acc).length ≤ acc.length + l.length := by
  induction l generalizing acc with
  | nil => exact Nat.le_refl _
  | cons x l ih =>
    have hx := hf acc x
    have hl := ih (f acc x)
    rw [List.foldl_cons, List.length_cons]
    omega

theorem Task.length_newLines_le (t : Task) (ls : List Nat) : (t.newLines ls).length ≤ ls.length := by
  refine Nat.le_trans (length_foldl_le _ (fun acc l => ?_) ls []) (Nat.le_of_eq (Nat.zero_add _))
  split
  · exact Nat.le_succ _
  · exact Nat.le_of_eq (by rw [List.length_append, List.length_singleton])

/-- Eight bytes touch at most two lines. -/
theorem length_linesOf_eight_le (a : Nat) : (linesOf a 8).length ≤ 2 := by
  rw [linesOf, if_neg (by decide), List.length_map, List.length_range]
  omega

/-- The undo log has room for the lines of eight bytes. -/
theorem State.logFault_eight (s : State) (a : Nat) (h : s.cur.undo.length + 2 ≤ 4096) : s.logFault (linesOf a 8) = none := by
  have hnew := s.cur.length_newLines_le (linesOf a 8)
  have htwo := length_linesOf_eight_le a
  exact if_pos (by omega)

/-! Tables filled index by index. -/

theorem Store.sorted_foldl_set {α : Type} [DecidableEq α] (d : α) (f : Nat → α) (l : List Nat) (m : Store α) (h : Store.sorted m = true) :
    Store.sorted (l.foldl (fun m i => Store.set d m i (f i)) m) = true :=
  List.foldlRecOn (motive := fun m => Store.sorted m = true) l _ h fun m hm i _ => Store.sorted_set d m i (f i) hm

theorem Store.get_foldl_set_range {α : Type} [DecidableEq α] (d : α) (f : Nat → α) (n j : Nat) :
    Store.get d ((List.range n).foldl (fun m i => Store.set d m i (f i)) []) j = if j < n then f j else d := by
  induction n with
  | zero => rfl
  | succ n ih =>
    rw [List.range_succ, List.foldl_append, List.foldl_cons, List.foldl_nil]
    by_cases hj : j = n
    · subst hj
      rw [Store.get_set_self d _ j _ (Store.sorted_foldl_set d f _ [] rfl), if_pos (Nat.lt_succ_self j)]
    · rw [Store.get_set_other d _ n j _ hj, ih]
      simp only [Nat.lt_succ_iff_lt_or_eq, hj, or_false]

end Sys2Proof.Machine
end

section
/-! PROOFS. The machine at reset and a task at its first dispatch (O1, O4). -/

namespace Sys2Proof.Machine

/-- The scalar registers of a task at first dispatch (R45). -/
theorem Arch.get_s_start (h : Header) (holds : List Hold) (inst id : Nat) (bgi bgt : Int) (i : Nat) :
    Store.get 0 (Arch.start h holds inst id bgi bgt).s i =
      if i = 58 then BitVec.ofNat 64 inst else if i = 59 then BitVec.ofNat 64 id else 0 := by
  have h58 : Store.sorted (Store.set (0 : Word) [] 58 (BitVec.ofNat 64 inst)) = true := Store.sorted_set _ _ _ _ rfl
  unfold Arch.start
  by_cases h9 : i = 59
  · subst h9
    exact Store.get_set_self _ _ _ _ h58
  · rw [Store.get_set_other _ _ _ _ _ h9, if_neg h9]
    by_cases h8 : i = 58
    · subst h8
      exact Store.get_set_self _ _ _ _ rfl
    · rw [Store.get_set_other _ _ _ _ _ h8, if_neg h8]
      rfl

theorem Arch.handle_start (h : Header) (holds : List Hold) (inst id : Nat) (bgi bgt : Int) (i : Nat) :
    (Arch.start h holds inst id bgi bgt).handle i = (holds[i]?).map fun x => ⟨x, false⟩ := by
  unfold Arch.handle Arch.start
  rw [Store.get_foldl_set_range]
  split
  · rfl
  · rename_i hi
    rw [List.getElem?_eq_none (Nat.le_of_not_lt hi)]
    rfl

theorem Arch.queue_start (h : Header) (holds : List Hold) (inst id : Nat) (bgi bgt : Int) (i : Nat) (hi : i < 8) :
    (Arch.start h holds inst id bgi bgt).queue i = { ResQ.init with cap := 4096 * h.plan.getD i 0 } := by
  unfold Arch.queue Arch.start
  rw [Store.get_foldl_set_range, if_pos hi]

/-- Settles O4: every register but those of R45, R47 and R50 stands as in `Arch.init`. -/
theorem firstDispatch : Obligations.FirstDispatch := by
  unfold Obligations.FirstDispatch
  intro h holds inst id bgi bgt
  have hq : ∀ i, (1#16).getLsbD i = decide (i = 0) := fun i => by
    simp only [BitVec.getLsbD_one, Nat.zero_lt_succ, decide_true, Bool.true_and]
  have hp : ∀ i, Store.get 0 [(0, BitVec.allOnes 128)] i = if i = 0 then BitVec.allOnes 128 else 0 := fun i => by
    simp only [Store.get, eq_comm]
  have hqueue := Arch.queue_start h holds inst id bgi bgt
  refine ⟨Arch.get_s_start h holds inst id bgi bgt, fun _ => rfl, hq, hp, fun _ => ⟨rfl, rfl, rfl, rfl, rfl⟩, fun _ => ⟨rfl, rfl, rfl⟩,
    rfl, rfl, rfl, rfl, rfl, Arch.handle_start h holds inst id bgi bgt, rfl, fun i hi => ?_,
    rfl, rfl, rfl, rfl, rfl, rfl, rfl, rfl⟩
  rw [hqueue i hi]
  exact ⟨rfl, rfl, rfl⟩

/-- The key slots at reset: the device's slot LIVE, every other one FREE (R332). -/
theorem State.keyOf_reset (k : Nat) : State.reset.keyOf k = if k = 0 then deviceSlot else KeySlot.init := by
  simp only [State.keyOf, State.reset, Store.get, eq_comm]

/-- Settles O1: no table of the machine at reset lists a place, but for the device's key slot. -/
theorem resetState : Obligations.ResetState := by
  have hkey : ∀ k, (State.reset.keyOf k).gen = 1 ∧ (State.reset.keyOf k).pair = 0 ∧ (k ≠ 0 → (State.reset.keyOf k).st = .free) := by
    intro k
    rw [State.keyOf_reset]
    split
    · exact ⟨rfl, rfl, fun h => absurd ‹k = 0› h⟩
    · exact ⟨rfl, rfl, fun _ => rfl⟩
  exact ⟨rfl, fun _ => ⟨rfl, rfl⟩, fun _ => rfl, rfl, rfl, rfl, rfl, rfl, hkey, rfl, fun _ => ⟨rfl, rfl, rfl, rfl, rfl, rfl⟩,
    fun _ => ⟨rfl, rfl, rfl, rfl, rfl, rfl, rfl, rfl, rfl, rfl, rfl, rfl, rfl, rfl, rfl, rfl, rfl, rfl, rfl, rfl, rfl, fun _ => rfl, rfl, rfl⟩⟩

end Sys2Proof.Machine
end

section
/-! PROOFS. The fixed registers and the budgets (O14, O28). -/

namespace Sys2Proof.Machine

/-- Settles O14: the reads and the discarded writes are the first branches of their definitions, and what a write of s0 leaves in flight
lands nowhere. -/
theorem fixedRegisters : Obligations.FixedRegisters :=
  fun s => ⟨rfl, rfl, rfl, fun _ b u => s.arch_settle_emit_flags b u, fun _ _ => rfl, fun _ _ => rfl⟩

/-! The budget operations (R234). -/

/-- The registers of a task after BGTOP. -/
def Arch.topUp (a : Arch) (x y : Nat) : Arch :=
  let i := min (a.bgi + x) topBudget
  let t := min (a.bgt + y) topBudget
  { a with bgi := i, bgt := t, exhausted := if 0 < i ∧ 0 < t then a.exhausted && a.clip else true }

theorem execBgtop_on (s : State) (g : Guard) (sa sb : Nat) (hg : s.guardOn g = true) (ht : s.cur.hdr.topup = true) :
    execBgtop g sa sb s = (s.arch fun a => a.topUp (s.rdS sa).toNat (s.rdS sb).toNat).ran := by
  rw [execBgtop, s.under_on g _ hg, ht]
  rfl

theorem Arch.exhausted_topUp_low (a : Arch) (x y : Nat) (h : a.bgi + x ≤ 0 ∨ a.bgt + y ≤ 0) : (a.topUp x y).exhausted = true := by
  simp only [Arch.topUp]
  rw [if_neg (by simp only [topBudget]; omega)]

theorem Arch.exhausted_topUp_high (a : Arch) (x y : Nat) (hi : 0 < a.bgi + x) (ht : 0 < a.bgt + y) :
    (a.topUp x y).exhausted = (a.exhausted && a.clip) := by
  simp only [Arch.topUp]
  rw [if_pos (by simp only [topBudget]; omega)]

/-- The registers of a task that has given so much of one of its budgets to a record. -/
def Arch.give (a : Arch) (bgt : Bool) (m : Nat) : Arch :=
  (if bgt then { a with bgt := a.bgt - m, gt := a.gt + m } else { a with bgi := a.bgi - m, gi := a.gi + m }).latch

/-- A BGGIVE whose record lies in the window, and whose lines the undo log has room for. -/
theorem execBggive_on (s : State) (g : Guard) (sa sb : Nat) (bgt : Bool) (hg : s.guardOn g = true)
    (hw : (s.rdS sa).toNat + 256 ≤ s.cur.hdr.window) (hu : s.cur.undo.length + 2 ≤ 4096) :
    execBggive g sa sb bgt s =
      (let field := (s.rdS sa).toNat + if bgt then 16 else 8
       let f := min (s.spadNat field 8) (2 ^ 47 - 1)
       let b := if bgt then s.cur.arch.bgt else s.cur.arch.bgi
       let m := min (min (s.rdS sb).toNat (max b 0).toNat) (2 ^ 47 - 1 - f)
       ((s.arch fun a => a.give bgt m).store field (leBytes (f + m) 8)).ran) := by
  rw [execBggive, s.under_on g _ hg]
  simp only [s.winFault_inside _ 256 hw, s.logFault_eight _ hu, State.arch_store]
  rfl

theorem execBggive_outside (s : State) (g : Guard) (sa sb : Nat) (bgt : Bool) (hg : s.guardOn g = true)
    (hw : s.cur.hdr.window < (s.rdS sa).toNat + 256) :
    execBggive g sa sb bgt s =
      s.raised (s.raise 4 [max (s.rdS sa).toNat s.cur.hdr.window, s.cur.hdr.window, 0xFF, s.slotNo]) := by
  rw [execBggive, s.under_on g _ hg]
  simp only [s.winFault_outside _ 256 (by decide) hw]

theorem Arch.give_bgi (a : Arch) (m : Nat) :
    a.give false m = { a with bgi := a.bgi - m, gi := a.gi + m, exhausted := a.exhausted || decide (a.bgi - m ≤ 0) || decide (a.bgt ≤ 0) } := rfl
theorem Arch.give_bgt (a : Arch) (m : Nat) :
    a.give true m = { a with bgt := a.bgt - m, gt := a.gt + m, exhausted := a.exhausted || decide (a.bgi ≤ 0) || decide (a.bgt - m ≤ 0) } := rfl

/-- A budget given whole is exhausted. -/
theorem Arch.exhausted_give_all (a : Arch) (bgt : Bool) (m : Nat) (h0 : 0 < m)
    (h : m = (max (if bgt = true then a.bgt else a.bgi) 0).toNat) : (a.give bgt m).exhausted = true := by
  cases bgt with
  | false =>
    have : a.bgi - m ≤ 0 := by simp only [Bool.false_eq_true, if_false] at h; omega
    simp only [Arch.give_bgi, this, decide_true, Bool.or_true, Bool.true_or]
  | true =>
    have : a.bgt - m ≤ 0 := by simp only [if_true] at h; omega
    simp only [Arch.give_bgt, this, decide_true, Bool.or_true]

/-- Settles O28: the reads give their values as scalar results; BGTOP is `Arch.topUp` of the registers, BGGIVE a store beside `Arch.give`. -/
theorem budgetsAndCounters : Obligations.BudgetsAndCounters := by
  unfold Obligations.BudgetsAndCounters
  intro s g sd sa sb bgt hg hr top x y
  have gives (i : Instr) (v : Word) (he : exec i s = s.putS g sd v 1) : s.GivesS i sd v 1 := s.givesS_putS i g sd v 1 he hg hr
  refine ⟨gives _ _ rfl, gives _ _ rfl, gives _ _ rfl, gives _ _ rfl, gives _ _ rfl, gives _ _ rfl, gives _ _ rfl, gives _ _ rfl,
    gives _ _ rfl, s.under_on g _ hg, fun ht => ?noTopup, fun ht => ?topup, fun hw hu => ?give, fun hw => ?outside⟩
  case noTopup =>
    refine (s.under_on g _ hg).trans ?_
    rw [ht]
    rfl
  case topup =>
    exact ⟨_, execBgtop_on s g sa sb hg ht, s.cur.arch.exhausted_topUp_low x y, s.cur.arch.exhausted_topUp_high x y⟩
  case give =>
    intro at_ f b m
    refine ⟨(s.cur.arch.give bgt m).exhausted, ?_, fun h0 hm => s.cur.arch.exhausted_give_all bgt m h0 hm⟩
    refine s.storesWith_of_store _ _ _ _ rfl ((execBggive_on s g sa sb bgt hg hw hu).trans ?_)
    cases bgt <;> rfl
  case outside => exact execBggive_outside s g sa sb bgt hg hw

end Sys2Proof.Machine
end

section
/-! PROOFS. The system registers (O29). -/

namespace Sys2Proof.Machine

/-! The system registers (R57 to R60). -/

theorem State.givesS_srd (s : State) (g : Guard) (sd idx : Nat) (hg : s.guardOn g = true) (hr : s.roomS sd) :
    s.GivesS (.srd g sd idx) sd (s.sysReg idx) 1 := s.givesS_putS _ g sd _ 1 rfl hg hr

/-- A write of a register of the task, or by a task with SYS, is set on its way. -/
theorem State.does_swr (s : State) (g : Guard) (sa idx : Nat) (hg : s.guardOn g = true) (h : idx < 0x030 ∨ s.cur.hdr.sys = true) :
    s.Does (.swr g sa idx) (s.writeSys idx (s.rdS sa)) := by
  refine (s.under_on g _ hg).trans (if_neg ?_)
  rintro ⟨hidx, hsys⟩
  rcases h with h | h
  · omega
  · rw [h] at hsys
    cases hsys

theorem State.raises_swr (s : State) (g : Guard) (sa idx : Nat) (hg : s.guardOn g = true) (h : 0x030 ≤ idx) (hs : s.cur.hdr.sys = false) :
    s.Raises (.swr g sa idx) 0x14 [1, idx, 0, s.slotNo] :=
  (s.under_on g _ hg).trans (if_pos ⟨h, by rw [hs]; rfl⟩)

/-- A write of a register of the task, other than TSTAT, has landed in the next clock. -/
theorem State.completes_swr (s : State) (g : Guard) (sa idx : Nat) (d : Dest) (hg : s.guardOn g = true) (hi : idx < 0x030)
    (hw : s.writeSys idx (s.rdS sa) = s.emit d 1 0) (hd : d.plain) (hk : d.key = none) :
    s.Completes (.swr g sa idx) 1 fun a => a.land d false s.free := by
  refine s.completes_of_emit _ d 1 0 _ ((s.does_swr g sa idx hg (.inl hi)).trans (by rw [hw]; rfl)) hd
    (fun k h => by rw [hk] at h; cases h) (.inl rfl) fun a => ?_
  rw [← a.land_tstat d false s.free hd, flags_or_zero]

/-- A write of TSTAT replaces it, where no flags are on their way (R60). -/
theorem State.completes_swr_tstat (s : State) (g : Guard) (sa : Nat) (hg : s.guardOn g = true) (hp : s.cur.pend = []) :
    s.Completes (.swr g sa 0x001) 1 fun a => { a with tstat := (s.rdS sa).setWidth 5 } := by
  refine ⟨_, s.does_swr g sa 1 hg (.inl (by decide)), s.issues_emit (.tstat ((s.rdS sa).setWidth 5)) 1 0, fun u hu => ?_⟩
  have hidle : s.cur.settle u = s.cur := by
    rw [Task.settle, hp]
    rfl
  show (s.emit (.tstat ((s.rdS sa).setWidth 5)) 1 0).cur.settle u = _
  rw [s.emit_keyless _ 1 0 rfl, s.cur.settle_tstat _ _ _ u hp hu, hidle]

/-- A write of a register of a stack, at the edge at which it lands. -/
theorem State.stackOf_landStack_one (s : State) (n idx x : Nat) (k : Stack) (hs : Store.sorted s.dies = true) :
    (({ s with landing := [⟨n, idx, x⟩] } : State).landStack n k).stackOf n = k.writeReg idx x := by
  have hmine : [(⟨n, idx, x⟩ : StackWrite)].filter (·.stack == n) = [⟨n, idx, x⟩] := List.filter_cons_of_pos (beq_self_eq_true n)
  rw [State.landStack]
  simp only [hmine]
  exact Store.get_set_self Stack.init s.dies n _ hs

/-- Settles O29: a read is `State.sysReg` of the index, a write `State.writeSys`, whose effect is one result or one stack write on its way. -/
theorem systemRegisters : Obligations.SystemRegisters := by
  unfold Obligations.SystemRegisters
  intro s g sd sa idx hg hr k v x
  refine ⟨?read, s.completes_swr g sa 0 (.tctl (v.setWidth 8)) hg (by decide) rfl ⟨nofun, nofun⟩ rfl, s.completes_swr_tstat g sa hg,
    s.does_swr g sa 1 hg (.inl (by decide)), s.completes_swr g sa 2 (.lix (v.setWidth 32)) hg (by decide) rfl ⟨nofun, nofun⟩ rfl,
    s.completes_swr g sa 3 (.trapRec (BitVec.ofNat 32 (x / 64 * 64))) hg (by decide) rfl ⟨nofun, nofun⟩ rfl,
    s.raises_swr g sa idx hg, fun hsys => ?write, fun hs n l => s.stackOf_landStack_one n idx x l hs⟩
  case read =>
    have hread (i n : Nat) (h : s.sysReg i = BitVec.ofNat 64 n) : s.GivesS (.srd g sd i) sd (BitVec.ofNat 64 n) 1 :=
      h ▸ s.givesS_srd g sd i hg hr
    simp only [List.forall_mem_cons, List.not_mem_nil, false_implies, implies_true, and_true]
    and_intros
    all_goals exact hread _ _ rfl
  case write =>
    have hdoes (i : Nat) (h : s.writeSys i v = { s with landing := s.landing ++ [⟨s.core / 12, i, x⟩] }) :
        s.Does (.swr g sa i) { s with landing := s.landing ++ [⟨s.core / 12, i, x⟩] } := h ▸ s.does_swr g sa i hg (.inr hsys)
    simp only [List.forall_mem_cons, List.not_mem_nil, false_implies, implies_true, and_true]
    refine ⟨⟨hdoes _ rfl, ?_⟩, ⟨hdoes _ rfl, ?_⟩, ⟨hdoes _ rfl, rfl⟩, ⟨hdoes _ rfl, rfl⟩, ⟨hdoes _ rfl, rfl⟩, ⟨hdoes _ rfl, rfl⟩,
      ⟨hdoes _ rfl, rfl⟩, ⟨hdoes _ rfl, rfl⟩, ⟨hdoes _ rfl, rfl⟩, ⟨hdoes _ rfl, rfl⟩, ⟨hdoes _ rfl, rfl⟩, ⟨hdoes _ rfl, ?_⟩⟩
    all_goals
      simp only [Stack.writeReg]
      split <;> rfl

end Sys2Proof.Machine
end

section
/-! PROOFS. The faults of global accesses (O46). -/

namespace Sys2Proof.Machine

/-! Where a single-element access stops (R208, R220). -/

theorem elemBytes_pos (fmt : Nat) : 0 < elemBytes fmt := by
  unfold elemBytes
  split
  · rename_i t _
    cases t <;> decide
  · decide

theorem elem_inside {n x : Nat} (z : Nat) (hx : x < n) : ¬ n * z < x * z + z := by
  rw [← Nat.succ_mul]
  exact Nat.not_lt.mpr (Nat.mul_le_mul_right z hx)

section Locate
variable {s : State} {h x need : Nat} {width : Option Nat} {b : Binding}

theorem State.locate_unbound (hb : s.handleOf h = none) : s.locate h x need width = .inl (s.holdRaise h x 1) := by
  simp only [State.locate, hb]

theorem State.locate_mode (hb : s.handleOf h = some b) (hm : b.hold.mode &&& need ≠ need) :
    s.locate h x need width = .inl (s.holdRaise h x 2) := by
  simp only [State.locate, hb, if_pos hm]

/-- Past the mode, the range of the handle and the alignment decide. -/
theorem State.locate_bound (hb : s.handleOf h = some b) (hm : b.hold.mode &&& need = need) :
    s.locate h x need width =
      (let z := elemBytes (s.fmtOf b.hold.id)
       let n := width.getD z
       if b.hold.count * z < x * z + n then .inl (s.holdRaise h (max x b.hold.count) 3)
       else if x * z % n ≠ 0 ∨ (width = none ∧ z ≠ 4 ∧ z ≠ 8) then .inl (s.holdRaise h x 4)
       else .inr ⟨b.hold.id, x, b.hold.first * z + x * z, n⟩) := by
  simp only [State.locate, hb, if_neg fun hne : b.hold.mode &&& need ≠ need => hne hm]

/-- An element past the end of the range, for an access of the element's own width. -/
theorem State.locate_elem_range (hb : s.handleOf h = some b) (hm : b.hold.mode &&& need = need) (hx : b.hold.count ≤ x) :
    s.locate h x need none = .inl (s.holdRaise h (max x b.hold.count) 3) := by
  have hpos := elemBytes_pos (s.fmtOf b.hold.id)
  have hmul := Nat.mul_le_mul_right (elemBytes (s.fmtOf b.hold.id)) hx
  rw [State.locate_bound hb hm]
  exact if_pos (show b.hold.count * _ < x * _ + elemBytes (s.fmtOf b.hold.id) by omega)

/-- An element inside the range, for an access of the element's own width: only widths of 4 and 8 will do. -/
theorem State.locate_elem_width (hb : s.handleOf h = some b) (hm : b.hold.mode &&& need = need) (hx : x < b.hold.count)
    (h4 : elemBytes (s.fmtOf b.hold.id) ≠ 4) (h8 : elemBytes (s.fmtOf b.hold.id) ≠ 8) :
    s.locate h x need none = .inl (s.holdRaise h x 4) := by
  rw [State.locate_bound hb hm]
  exact (if_neg (elem_inside _ hx)).trans (if_pos (.inr ⟨rfl, h4, h8⟩))

theorem State.locate_elem (hb : s.handleOf h = some b) (hm : b.hold.mode &&& need = need) (hx : x < b.hold.count)
    (hz : elemBytes (s.fmtOf b.hold.id) = 4 ∨ elemBytes (s.fmtOf b.hold.id) = 8) :
    s.locate h x need none =
      .inr ⟨b.hold.id, x, (b.hold.first + x) * elemBytes (s.fmtOf b.hold.id), elemBytes (s.fmtOf b.hold.id)⟩ := by
  rw [State.locate_bound hb hm, Nat.add_mul]
  refine (if_neg (elem_inside _ hx)).trans (if_neg ?_)
  rintro (hmod | ⟨-, h4, h8⟩)
  · exact hmod (Nat.mul_mod_left _ _)
  · exact hz.elim h4 h8

variable {n : Nat}

theorem State.locate_range (hb : s.handleOf h = some b) (hm : b.hold.mode &&& need = need)
    (hx : b.hold.count * elemBytes (s.fmtOf b.hold.id) < x * elemBytes (s.fmtOf b.hold.id) + n) :
    s.locate h x need (some n) = .inl (s.holdRaise h (max x b.hold.count) 3) := by
  rw [State.locate_bound hb hm]
  exact if_pos hx

theorem State.locate_align (hb : s.handleOf h = some b) (hm : b.hold.mode &&& need = need)
    (hx : x * elemBytes (s.fmtOf b.hold.id) + n ≤ b.hold.count * elemBytes (s.fmtOf b.hold.id))
    (ha : x * elemBytes (s.fmtOf b.hold.id) % n ≠ 0) :
    s.locate h x need (some n) = .inl (s.holdRaise h x 4) := by
  rw [State.locate_bound hb hm]
  exact (if_neg (Nat.not_lt.mpr hx)).trans (if_pos (.inl ha))

theorem State.locate_inside (hb : s.handleOf h = some b) (hm : b.hold.mode &&& need = need)
    (hx : x * elemBytes (s.fmtOf b.hold.id) + n ≤ b.hold.count * elemBytes (s.fmtOf b.hold.id))
    (ha : x * elemBytes (s.fmtOf b.hold.id) % n = 0) :
    s.locate h x need (some n) = .inr ⟨b.hold.id, x, (b.hold.first + x) * elemBytes (s.fmtOf b.hold.id), n⟩ := by
  rw [State.locate_bound hb hm, Nat.add_mul]
  refine (if_neg (Nat.not_lt.mpr hx)).trans (if_neg ?_)
  rintro (hmod | ⟨hnone, -⟩)
  · exact hmod ha
  · cases hnone

end Locate

/-! Each access that stops in `State.locate` raises its cause there. -/

section Stops
variable {s : State} {g : Guard} {h sa : Nat} {r : Raise}

theorem State.loadOp_stops {dst width : Nat} {cls : Option Nat} (hg : s.guardOn g = true)
    (hl : s.locate h (s.rdS sa).toNat 1 (some width) = .inl r) : s.loadOp g h sa dst width cls = s.raised r := by
  rw [State.loadOp, s.under_on g _ hg, hl]

theorem execStg_stops {size : GSize} {sb : Nat} {cls : Option Nat} (hg : s.guardOn g = true)
    (hl : s.locate h (s.rdS sa).toNat 2 (some size.bytes) = .inl r) : execStg g h size sa sb cls s = s.raised r := by
  rw [execStg, s.under_on g _ hg, hl]

variable {dst : Nat} {width : Option Nat} {scope : Scope} {wide : Bool} {new : Nat → Nat → Option Nat}

theorem State.atomicOp_stops (hg : s.guardOn g = true) (hl : s.locate h (s.rdS sa).toNat 3 width = .inl r) :
    s.atomicOp g h sa dst width scope wide new = s.raised r := by
  rw [State.atomicOp, s.under_on g _ hg]
  simp only [hl]

/-- An atomic not made ahead, on a page of this device whose class does not allow it at its scope (R224). -/
theorem State.atomicOp_scope {p : Spot} {t : Tensor} {coh : Nat} (hg : s.guardOn g = true)
    (hl : s.locate h (s.rdS sa).toNat 3 width = .inr p) (he : (s.coreOf s.core).early = none) (ht : s.tensor p.id = some t)
    (hc : s.pageClass t p.off = coh) (ha : atomicOk coh scope wide = false) :
    s.atomicOp g h sa dst width scope wide new = s.raised (s.raise 0x18 [h, (s.rdS sa).toNat, coh, scope.code]) := by
  have hbad : s.atomicGlobal p h (s.rdS sa).toNat scope wide new = .inl (s.raise 0x18 [h, (s.rdS sa).toNat, coh, scope.code]) := by
    simp only [State.atomicGlobal, ht, hc, ha, Bool.not_false, if_true]
  rw [State.atomicOp, s.under_on g _ hg]
  simp only [hl, State.once, he, hbad]

end Stops

/-! The classes (0 NC, 1 DC, 2 SC) and scopes that R224 excludes. -/

theorem atomicOk_nc {scope : Scope} (wide : Bool) (hc : scope ≠ .core) (hs : scope ≠ .stack) : atomicOk 0 scope wide = false := by
  cases scope with
  | core => exact absurd rfl hc
  | stack => exact absurd rfl hs
  | quad | package | group | system => rfl

theorem atomicOk_dc {scope : Scope} (wide : Bool) (h : scope = .group ∨ scope = .system) : atomicOk 1 scope wide = false := by
  rcases h with rfl | rfl <;> rfl

theorem atomicOk_sc {scope : Scope} (wide : Bool) (h : scope = .group ∨ scope = .system) : atomicOk 2 scope wide = wide := by
  rcases h with rfl | rfl <;> rfl

/-- The single-element accesses of a fixed width: each with the mode that it needs and its width in bytes. -/
def sizedAccesses (g : Guard) (h sa sb sd : Nat) (size : GSize) (cs : CSize) (scope : Scope) (cls : Option Nat) : List (Instr × Nat × Nat) :=
  [(.ldg g h size sa sb cls, 1, size.bytes), (.ldsGlobal g sd h sa cls, 1, 8), (.stg g h size sa sb cls, 2, size.bytes),
    (.amoc g h cs sa sb scope, 3, cs.bytes)]

theorem exec_sized_stops {s : State} {g : Guard} {h sa sb sd : Nat} {size : GSize} {cs : CSize} {scope : Scope} {cls : Option Nat}
    (hg : s.guardOn g = true) {r : Raise} :
    ∀ p ∈ sizedAccesses g h sa sb sd size cs scope cls,
      s.locate h (s.rdS sa).toNat p.2.1 (some p.2.2) = .inl r → exec p.1 s = s.raised r := by
  simp only [sizedAccesses, List.forall_mem_cons, List.not_mem_nil, false_implies, implies_true, and_true]
  exact ⟨State.loadOp_stops hg, State.loadOp_stops hg, execStg_stops hg, State.atomicOp_stops hg⟩

/-- Of those accesses, AMOC alone needs both modes. -/
theorem sized_atomic {g : Guard} {h sa sb sd : Nat} {size : GSize} {cs : CSize} {scope : Scope} {cls : Option Nat} :
    ∀ p ∈ sizedAccesses g h sa sb sd size cs scope cls, p.2.1 = 3 → p = (.amoc g h cs sa sb scope, 3, cs.bytes) := by
  simp only [sizedAccesses, List.forall_mem_cons, List.not_mem_nil, false_implies, implies_true, and_true]
  exact ⟨fun h => absurd h (by decide), fun h => absurd h (by decide), fun h => absurd h (by decide)⟩

/-- Settles O46: every fault but that of the page class is an answer of `State.locate`, which all accesses share. -/
theorem globalFaults : Obligations.GlobalFaults := by
  unfold Obligations.GlobalFaults
  intro s g h sa sb sd size cs fn scope cls hg x ops fault
  have stops : ∀ p ∈ ops, ∀ r, s.locate h x p.2.1 (some p.2.2) = .inl r → exec p.1 s = s.raised r :=
    fun p hp r => exec_sized_stops hg p hp
  have amoStops : ∀ r, s.locate h x 3 none = .inl r → exec (.amo g h fn sa sb scope) s = s.raised r :=
    fun r => State.atomicOp_stops hg
  refine ⟨fun hb => ⟨fun p hp => stops p hp _ (State.locate_unbound hb), amoStops _ (State.locate_unbound hb)⟩, fun b hb => ?_⟩
  refine ⟨fun hm => amoStops _ (State.locate_mode hb hm), fun hm hx => amoStops _ (State.locate_elem_range hb hm hx),
    fun hm hx h4 h8 => amoStops _ (State.locate_elem_width hb hm hx h4 h8), ?amoScope, fun p hp => ⟨?_, ?_⟩⟩
  case amoScope =>
    intro hm hx hz he t ht coh
    have bad (ha : atomicOk coh scope (fn == .add || fn == .xchg) = false) : s.Raises (.amo g h fn sa sb scope) 0x18 [h, x, coh, scope.code] :=
      State.atomicOp_scope hg (State.locate_elem hb hm hx hz) he ht rfl ha
    refine ⟨fun h0 hc hs => bad (h0 ▸ atomicOk_nc _ hc hs), fun h1 hs => bad (h1 ▸ atomicOk_dc _ hs), fun h2 hs ha hxg => bad ?_⟩
    rw [h2, atomicOk_sc _ hs, beq_false_of_ne ha, beq_false_of_ne hxg, Bool.or_false]
  · exact fun hm => stops p hp _ (State.locate_mode hb hm)
  · intro hm
    refine ⟨fun hx => stops p hp _ (State.locate_range hb hm hx), fun hx ha => stops p hp _ (State.locate_align hb hm hx ha), ?_⟩
    intro hx hd h3 he t ht coh
    obtain rfl := sized_atomic p hp h3
    have bad (ha : atomicOk coh scope true = false) : s.Raises (.amoc g h cs sa sb scope) 0x18 [h, x, coh, scope.code] :=
      State.atomicOp_scope hg (State.locate_inside hb hm hx hd) he ht rfl ha
    exact ⟨fun h0 hc hs => bad (h0 ▸ atomicOk_nc _ hc hs), fun h1 hs => bad (h1 ▸ atomicOk_dc _ hs)⟩

end Sys2Proof.Machine
end

section
/-! PROOFS. The checks of the M slot, and descriptors (O42). -/

namespace Sys2Proof.Machine

/-! The least number that a search finds. -/

/-- `r` is the least of the numbers that `bad` holds of, and none where there is no such number. -/
def FindsLeast (r : Option Nat) (bad : Nat → Prop) : Prop :=
  match r with
  | none => ∀ b, ¬ bad b
  | some b => bad b ∧ ∀ c, bad c → b ≤ c

namespace FindsLeast
variable {r q : Option Nat} {P Q : Nat → Prop}

theorem eq_none_iff (h : FindsLeast r P) : r = none ↔ ∀ b, ¬ P b := by
  cases r with
  | none => exact iff_of_true rfl h
  | some b => exact iff_of_false nofun fun hn => hn b h.1

theorem eq_some_iff (h : FindsLeast r P) (b : Nat) : r = some b ↔ P b ∧ ∀ c, P c → b ≤ c := by
  cases r with
  | none => exact iff_of_false nofun fun hb => h b hb.1
  | some a =>
    obtain ⟨ha, hleast⟩ := h
    refine Option.some_inj.trans ⟨fun e => e ▸ ⟨ha, hleast⟩, fun hb => ?_⟩
    exact Nat.le_antisymm (hleast b hb.1) (hb.2 a ha)

theorem least (h : FindsLeast r P) : (r = none ↔ ∀ b, ¬ P b) ∧ ∀ b, r = some b ↔ P b ∧ ∀ c, P c → b ≤ c :=
  ⟨h.eq_none_iff, h.eq_some_iff⟩

theorem of_eq (h : FindsLeast q P) (he : r = q) : FindsLeast r P := he ▸ h

theorem congr (h : FindsLeast r P) (hPQ : ∀ b, P b ↔ Q b) : FindsLeast r Q := funext (fun b => propext (hPQ b)) ▸ h

/-- The lesser of two least numbers is the least of both kinds together. -/
theorem merge (hr : FindsLeast r P) (hq : FindsLeast q Q) : FindsLeast (leastOf [r, q]) fun b => P b ∨ Q b := by
  cases r with
  | none => exact hq.congr fun b => (or_iff_right (hr b)).symm
  | some a =>
    cases q with
    | none => exact hr.congr fun b => (or_iff_left (hq b)).symm
    | some c =>
      obtain ⟨ha, hra⟩ := hr
      obtain ⟨hc, hqc⟩ := hq
      refine ⟨?_, fun b hb => hb.elim (fun h => Nat.le_trans (Nat.min_le_left a c) (hra b h))
        fun h => Nat.le_trans (Nat.min_le_right a c) (hqc b h)⟩
      rcases Nat.le_total a c with h | h
      · rw [Nat.min_eq_left h]
        exact .inl ha
      · rw [Nat.min_eq_right h]
        exact .inr hc

/-- A least number carried along a list. -/
theorem foldl {α : Type} {f : Option Nat → α → Option Nat} {B : α → Nat → Prop} (l : List α)
    (hf : ∀ acc P x, FindsLeast acc P → FindsLeast (f acc x) fun b => P b ∨ B x b) (hr : FindsLeast r P) :
    FindsLeast (l.foldl f r) fun b => P b ∨ ∃ x ∈ l, B x b := by
  induction l generalizing r P with
  | nil => exact hr.congr fun b => by simp
  | cons x l ih =>
    have hx := hf r P x hr
    refine (ih hx).congr fun b => ?_
    simp only [List.mem_cons, exists_eq_or_imp, or_assoc]

theorem single {A : Prop} [Decidable A] {n : Nat} : FindsLeast (if A then some n else none) fun b => b = n ∧ A := by
  split
  · rename_i hA
    exact ⟨⟨rfl, hA⟩, fun c hc => Nat.le_of_eq hc.1.symm⟩
  · rename_i hA
    exact fun b hb => hA hb.2

/-- A number that comes before all others, if a condition holds. -/
theorem first_if {A : Prop} [Decidable A] {n : Nat} (h : FindsLeast r P) (hn : ∀ b, P b → n ≤ b) :
    FindsLeast (if A then some n else r) fun b => b = n ∧ A ∨ P b := by
  split
  · rename_i hA
    exact ⟨.inl ⟨rfl, hA⟩, fun c hc => hc.elim (fun e => Nat.le_of_eq e.1.symm) (hn c)⟩
  · rename_i hA
    exact h.congr fun b => (or_iff_right fun e => hA e.2).symm

theorem of_option (r : Option Nat) : FindsLeast r fun b => r = some b := by
  cases r with
  | none => exact fun _ => nofun
  | some b => exact ⟨rfl, fun c hc => Nat.le_of_eq (Option.some_inj.mp hc)⟩

theorem leastOf_cons (hr : FindsLeast r P) (l : List (Option Nat)) : FindsLeast (leastOf (r :: l)) fun b => P b ∨ some b ∈ l := by
  have hl := foldl (f := fun acc x => leastOf [acc, x]) (B := fun x b => x = some b) l (fun acc P x h => h.merge (of_option x)) hr
  have he : leastOf (r :: l) = l.foldl (fun acc x => leastOf [acc, x]) r := rfl
  exact he ▸ hl.congr fun b => by simp

theorem leastOf (l : List (Option Nat)) : FindsLeast (leastOf l) fun b => some b ∈ l := by
  cases l with
  | nil => exact fun _ => List.not_mem_nil
  | cons r l => exact ((of_option r).leastOf_cons l).congr fun b => by rw [List.mem_cons, eq_comm]

end FindsLeast

theorem failAt_eq_some_iff {c : Bool} {n b : Nat} : some b = failAt c n ↔ c = true ∧ b = n := by
  cases c <;> simp [failAt]

/-- The bytes from the window's end on of eight bytes at `p`. -/
theorem findsLeast_plane (w p : Nat) : FindsLeast (failAt (decide (w < p + 8)) (max w p)) fun x => w ≤ x ∧ p ≤ x ∧ x < p + 8 := by
  by_cases h : w < p + 8
  · rw [failAt, decide_eq_true h, if_pos rfl]
    exact ⟨⟨Nat.le_max_left w p, Nat.le_max_right w p, by omega⟩, fun x hx => Nat.max_le.mpr ⟨hx.1, hx.2.1⟩⟩
  · rw [failAt, decide_eq_false h]
    exact fun x hx => by omega

/-- A byte of the planes of an operand whose blocks lie at `addr` (R172). -/
def PlaneByte (d : BitVec 512) (addr : Nat → Nat → Option Nat) (kb x : Nat) : Prop :=
  ∃ r k j p, r < 128 ∧ k < kb ∧ j < odQ d ∧ addr r k = some p ∧ p + j * odPstride d ≤ x ∧ x < p + j * odPstride d + 8

theorem planesBeyond_findsLeast {w kb bound : Nat} {d : BitVec 512} {addr : Nat → Nat → Option Nat}
    (hb : ∀ x, PlaneByte d addr kb x → x < bound) :
    FindsLeast (planesBeyond w d addr kb bound) fun x => w ≤ x ∧ PlaneByte d addr kb x := by
  unfold planesBeyond
  by_cases h : bound ≤ w
  · rw [if_pos h]
    intro x hx
    have := hb x hx.2
    omega
  rw [if_neg h]
  refine (FindsLeast.foldl (r := none) (P := fun _ => False) (B := fun r x => ∃ k ∈ List.range kb, ∃ p, addr r k = some p ∧
      ∃ j ∈ List.range (odQ d), w ≤ x ∧ p + j * odPstride d ≤ x ∧ x < p + j * odPstride d + 8)
    (List.range 128) (fun acc P r hr => FindsLeast.foldl _ (fun acc P k hk => ?block) hr) fun _ h => h).congr fun x => ?_
  case block =>
    cases addr r k with
    | none => exact hk.congr fun x => by simp
    | some p =>
      have hplanes := FindsLeast.foldl (B := fun j x => w ≤ x ∧ p + j * odPstride d ≤ x ∧ x < p + j * odPstride d + 8)
        (List.range (odQ d)) (fun acc P j hj => hj.merge (findsLeast_plane w (p + j * odPstride d))) hk
      exact hplanes.congr fun x => by simp only [Option.some.injEq, exists_eq_left']
  · simp only [PlaneByte, List.mem_range]
    constructor
    · rintro (hf | ⟨r, hr, k, hk, p, hp, j, hj, hw, hx⟩)
      · exact hf.elim
      · exact ⟨hw, r, k, j, p, hr, hk, hj, hp, hx⟩
    · rintro ⟨hw, r, k, j, p, hr, hk, hj, hp, hx⟩
      exact .inr ⟨r, hr, k, hk, p, hp, j, hj, hw, hx⟩

/-- A field of a descriptor as the number of its bits. -/
theorem toNat_extractLsb'_eq_bf {w : Nat} (d : BitVec w) (lo len : Nat) : (d.extractLsb' lo len).toNat = bf d lo len := by
  rw [BitVec.extractLsb'_toNat, Nat.shiftRight_eq_div_pow]
  rfl

/-! The content that breaks a descriptor or a nest (R170, R171, R174). -/

theorem odFault_kind_zero {d : BitVec 512} (h : odKind d = 0) : odFault d = none := if_pos h

theorem odFault_kind_large {d : BitVec 512} (h : 3 < odKind d) : odFault d = some 0 := by
  have h0 : odKind d ≠ 0 := by omega
  rw [odFault, if_neg h0, if_pos h]

/-- Bits 4 to 31 hold the fields below BASE. -/
theorem bf_four_ne_zero (d : BitVec 512) : bf d 4 28 ≠ 0 ↔
    bf d 4 2 ≠ 0 ∨ bf d 6 5 ≠ 0 ∨ bf d 11 5 ≠ 0 ∨ bf d 16 1 ≠ 0 ∨ bf d 17 7 ≠ 0 ∨ bf d 24 8 ≠ 0 := by
  simp only [bf, fld]
  omega

theorem bf_sixteen_lt (d : BitVec 512) : bf d 16 1 < 2 := Nat.mod_lt _ (by decide)

/-! A field of a list of fields, given by its lowest bit and its length. -/

theorem exists_field_nil (C : Nat → Nat → Prop) (b : Nat) : (∃ n, (b, n) ∈ ([] : List (Nat × Nat)) ∧ C b n) ↔ False := by simp

theorem exists_field_cons (C : Nat → Nat → Prop) (lo len b : Nat) (l : List (Nat × Nat)) :
    (∃ n, (b, n) ∈ (lo, len) :: l ∧ C b n) ↔ b = lo ∧ C lo len ∨ ∃ n, (b, n) ∈ l ∧ C b n := by
  simp only [List.mem_cons, Prod.mk.injEq, or_and_right, exists_or]
  refine or_congr_left ⟨?_, ?_⟩
  · rintro ⟨n, ⟨rfl, rfl⟩, h⟩
    exact ⟨rfl, h⟩
  · rintro ⟨rfl, h⟩
    exact ⟨len, ⟨rfl, rfl⟩, h⟩

/-- The first entry of the list of a drain-offset descriptor stands for all fields in bits 4 to 31. -/
theorem odFault_offset_reserved (d : BitVec 512) :
    FindsLeast (failAt (bf d 4 28 != 0) (if odMode d ≠ 0 then 4 else if odP d ≠ 0 then 6 else if odQ d ≠ 0 then 11 else if odSU d then 16
        else if bf d 17 7 ≠ 0 then 17 else 24))
      fun b => ∃ n, (b, n) ∈ [(4, 2), (6, 5), (11, 5), (16, 1), (17, 7), (24, 8)] ∧ bf d b n ≠ 0 := by
  have hlist : FindsLeast (if bf d 4 2 ≠ 0 then some 4 else if bf d 6 5 ≠ 0 then some 6 else if bf d 11 5 ≠ 0 then some 11
      else if bf d 16 1 ≠ 0 then some 16 else if bf d 17 7 ≠ 0 then some 17 else if bf d 24 8 ≠ 0 then some 24 else none) _ :=
    ((((FindsLeast.single.first_if fun b h => by omega).first_if fun b h => by omega).first_if fun b h => by omega).first_if
      fun b h => by omega).first_if fun b h => by omega
  have hfour := bf_four_ne_zero d
  have hone := bf_sixteen_lt d
  refine (hlist.congr fun b => ?_).of_eq ?_
  · simp only [exists_field_cons (bf d · · ≠ 0), exists_field_nil (bf d · · ≠ 0), or_false]
  · simp only [failAt, odMode, odP, odQ, odSU]
    grind

/-- A bit from which a field of a drain-offset descriptor breaks R171. -/
def OffsetBad (d : BitVec 512) (b : Nat) : Prop :=
  b = 32 ∧ bf d 32 32 % 4 ≠ 0 ∨
  ∃ n, (b, n) ∈ [(4, 2), (6, 5), (11, 5), (16, 1), (17, 7), (24, 8), (64, 32), (96, 32), (128, 32), (160, 32), (192, 8), (200, 8),
    (208, 16), (224, 32), (256, 256)] ∧ bf d b n ≠ 0

theorem odFault_offset {d : BitVec 512} (h : odKind d = 3) : FindsLeast (odFault d) (OffsetBad d) := by
  have h0 : odKind d ≠ 0 := by omega
  have h3 : ¬ 3 < odKind d := by omega
  simp only [odFault, if_neg h0, if_neg h3, if_pos h]
  refine (FindsLeast.leastOf_cons (odFault_offset_reserved d) _).congr fun b => ?_
  simp only [OffsetBad, exists_field_cons (bf d · · ≠ 0), exists_field_nil (bf d · · ≠ 0)]
  simp only [List.mem_cons, failAt_eq_some_iff, List.not_mem_nil, or_false, and_comm (b := b = _), bne_iff_ne]
  simp only [odBase, odRstride, odBstride, odPstride, odScale, odScols, odRows, odAux]
  exact iff_of_eq (by ac_rfl)

/-- A bit from which a field of an A or B descriptor breaks R170 or R171. -/
def OperandBad (d : BitVec 512) (b : Nat) : Prop :=
  b = 4 ∧ (bf d 4 2 = 3 ∨ bf d 0 4 = 2 ∧ bf d 4 2 ≠ 0) ∨ b = 6 ∧ (bf d 6 5 < 2 ∨ 8 < bf d 6 5) ∧ bf d 6 5 ≠ 16 ∨
  b = 11 ∧ (bf d 11 5 = 0 ∨ bf d 6 5 < bf d 11 5) ∨ b = 24 ∧ bf d 16 1 = 0 ∧ bf d 24 8 ≠ 0 ∨ b = 32 ∧ bf d 32 32 % 8 ≠ 0 ∨
  b = 64 ∧ (bf d 64 32 % 8 ≠ 0 ∨ bf d 4 2 = 1 ∧ bf d 64 32 ≠ 0) ∨ b = 96 ∧ bf d 96 32 % 8 ≠ 0 ∨
  b = 128 ∧ (bf d 128 32 = 0 ∨ bf d 128 32 % 8 ≠ 0) ∨ bf d 16 1 = 1 ∧ (∃ n, (b, n) ∈ [(160, 32), (192, 8)] ∧ bf d b n ≠ 0) ∨
  b = 208 ∧ (bf d 4 2 = 2 ∧ bf d 208 16 = 0 ∨ bf d 4 2 ≠ 2 ∧ bf d 208 16 ≠ 0) ∨
  b = 224 ∧ (bf d 4 2 = 0 ∧ bf d 224 32 ≠ 0 ∨ bf d 4 2 = 2 ∧ bf d 224 32 % 2 ≠ 0) ∨
  ∃ n, (b, n) ∈ [(17, 7), (200, 8), (256, 256)] ∧ bf d b n ≠ 0

theorem odFault_operand {d : BitVec 512} (h : odKind d = 1 ∨ odKind d = 2) : FindsLeast (odFault d) (OperandBad d) := by
  have h1 := bf_sixteen_lt d
  have h0 : odKind d ≠ 0 := by omega
  have h3 : ¬ 3 < odKind d := by omega
  have h3' : odKind d ≠ 3 := by omega
  simp only [odFault, if_neg h0, if_neg h3, if_neg h3']
  have hp : (!(decide (2 ≤ odP d) && decide (odP d ≤ 8) || odP d == 16)) = true ↔ (odP d < 2 ∨ 8 < odP d) ∧ odP d ≠ 16 := by
    simp only [Bool.not_eq_true', Bool.or_eq_false_iff, Bool.and_eq_false_iff, decide_eq_false_iff_not, beq_eq_false_iff_ne, Nat.not_le]
  have hsu : (!odSU d) = true ↔ bf d 16 1 = 0 := by
    simp only [odSU, Bool.not_eq_true', beq_eq_false_iff_ne]
    omega
  have hrows : (if odMode d = 2 then odRows d == 0 else odRows d != 0) = true ↔ odMode d = 2 ∧ odRows d = 0 ∨ odMode d ≠ 2 ∧ odRows d ≠ 0 := by
    split <;> simp [*]
  refine (FindsLeast.leastOf _).congr fun b => ?_
  simp only [OperandBad, exists_field_cons (bf d · · ≠ 0), exists_field_nil (bf d · · ≠ 0)]
  simp only [List.mem_cons, failAt_eq_some_iff, List.not_mem_nil, or_false, and_comm (b := b = _), bne_iff_ne,
    Bool.or_eq_true, Bool.and_eq_true, beq_iff_eq, decide_eq_true_eq]
  simp only [hp, hsu, hrows, and_or_left]
  simp only [odMode, odP, odQ, odSU, odScode, odBase, odRstride, odBstride, odPstride, odScale, odScols, odRows, odAux, odKind, beq_iff_eq]
  exact iff_of_eq (by ac_rfl)

/-- Which fields of a descriptor break R170 or R171, by its kind. -/
theorem odFault_findsLeast (d : BitVec 512) : FindsLeast (odFault d) fun b =>
    4 ≤ odKind d ∧ b = 0 ∨ odKind d = 3 ∧ OffsetBad d b ∨ (odKind d = 1 ∨ odKind d = 2) ∧ OperandBad d b := by
  rcases (by omega : odKind d = 0 ∨ (odKind d = 1 ∨ odKind d = 2) ∨ odKind d = 3 ∨ 4 ≤ odKind d) with hk | hk | hk | hk
  · rw [odFault_kind_zero hk]
    intro b hb
    omega
  · exact (odFault_operand hk).congr fun b => by
      rw [or_iff_right (by omega), or_iff_right (by omega), and_iff_right hk]
  · exact (odFault_offset hk).congr fun b => by
      rw [or_iff_right (by omega), or_iff_left (by omega), and_iff_right hk]
  · rw [odFault_kind_large hk]
    exact ⟨.inl ⟨hk, rfl⟩, fun b _ => Nat.zero_le b⟩

/-- A bit from which a field of a replay nest breaks R174. -/
def NestBad (d : BitVec 512) (b : Nat) : Prop :=
  (∃ n, (b, n) ∈ [(0, 16), (16, 16), (32, 16), (48, 16), (64, 8), (72, 8), (80, 8), (88, 8), (96, 8), (104, 8), (128, 16)] ∧ bf d b n = 0) ∨
  b = 128 ∧ 127 < bf d 128 16 ∨ (b = 160 ∨ b = 192) ∧ bf d b 32 % 8 ≠ 0 ∨ ∃ n, (b, n) ∈ [(144, 16), (224, 288)] ∧ bf d b n ≠ 0

theorem nestFault_findsLeast (d : BitVec 512) : FindsLeast (nestFault d) (NestBad d) := by
  refine (FindsLeast.leastOf _).congr fun b => ?_
  simp only [NestBad, exists_field_cons (bf d · · = 0), exists_field_nil (bf d · · = 0), exists_field_cons (bf d · · ≠ 0),
    exists_field_nil (bf d · · ≠ 0)]
  simp only [List.mem_cons, failAt_eq_some_iff, List.not_mem_nil, or_false, and_comm (b := b = _), bne_iff_ne,
    Bool.or_eq_true, beq_iff_eq, decide_eq_true_eq, and_or_left, or_and_right]
  have h (n : Nat) : b = n ∧ bf d b 32 % 8 ≠ 0 ↔ b = n ∧ bf d n 32 % 8 ≠ 0 := and_congr_right fun e => by rw [e]
  simp only [h]
  exact iff_of_eq (by ac_rfl)

/-! The checks of the MMA family (R177). -/

/-- The offsets that a nest gives stay within its extents. -/
theorem replayAddr_le {d n : BitVec 512} {r k p : Nat} (h : replayAddr d n r k = some p) (hc : 0 < bf n 128 16) :
    p ≤ odBase d + bf n 48 16 * bf n 192 32 + bf n 32 16 * bf n 160 32 + bf n 128 16 * odBstride d := by
  simp only [replayAddr] at h
  split at h
  · cases h
  · rename_i hin
    simp only [not_or, Int.not_le] at hin
    obtain ⟨-, -, h0, -, h1⟩ := hin
    rw [← Option.some.inj h]
    refine Nat.add_le_add (Nat.add_le_add (Nat.add_le_add_left (Nat.mul_le_mul_right _ ?_) _) (Nat.mul_le_mul_right _ ?_))
      (Nat.mul_le_mul_right _ (Nat.le_of_lt (Nat.mod_lt _ hc)))
    · exact Int.toNat_le.mpr (Int.le_of_lt h1)
    · exact Int.toNat_le.mpr (Int.le_of_lt h0)

/-- What the conditions of R177 on an operand give about its reads: the nest covers the blocks, the indices lie under the rows. -/
structure Reachable (a : BitVec 512) (nest : Option (BitVec 512)) (idx : List Nat) (kb : Nat) : Prop where
  nest : odMode a = 1 → ∃ n, nest = some n ∧ kb ≤ bf n 64 8 * bf n 72 8 * bf n 128 16
  index : odMode a = 2 → ∀ i, i < 128 → idx.getD i 0 = 0xFFFF ∨ idx.getD i 0 < odRows a

theorem lt_planeBound {d : BitVec 512} {addr : Nat → Nat → Option Nat} {kb bound : Nat}
    (h : ∀ r k p, r < 128 → k < kb → addr r k = some p → p + ((odQ d - 1) * odPstride d + 8) ≤ bound) (x : Nat)
    (hx : PlaneByte d addr kb x) : x < bound := by
  obtain ⟨r, k, j, p, hr, hk, hj, hp, -, hx⟩ := hx
  have hplane : j * odPstride d ≤ (odQ d - 1) * odPstride d := Nat.mul_le_mul_right _ (by omega)
  have := h r k p hr hk hp
  omega

/-- The quick bound of `planesBeyond` holds for every read of an A operand. -/
theorem lt_aBound {a : BitVec 512} {nest : Option (BitVec 512)} {idx : List Nat} {kb : Nat} (h : Reachable a nest idx kb) :
    ∀ x, PlaneByte a (aAddr a nest idx) kb x → x < aBound a nest kb := by
  refine lt_planeBound fun r k p hr hk hp => ?_
  unfold aAddr at hp
  unfold aBound
  split at hp
  · rename_i hm
    obtain ⟨n, rfl, hkb⟩ := h.nest hm
    have hcover : 0 < bf n 64 8 * bf n 72 8 * bf n 128 16 := by omega
    have := replayAddr_le hp (Nat.pos_of_mul_pos_left hcover)
    dsimp only
    omega
  · rename_i hm
    simp only [] at hp
    split at hp
    · cases hp
    · rename_i hi
      have hrow : idx.getD r 0 * odRstride a ≤ odRows a * odRstride a :=
        Nat.mul_le_mul_right _ (Nat.le_of_lt ((h.index hm r hr).resolve_left hi))
      have hblock : k * odBstride a ≤ (kb - 1) * odBstride a := Nat.mul_le_mul_right _ (by omega)
      have := Option.some.inj hp
      dsimp only
      omega
  · have hrow : r * odRstride a ≤ 127 * odRstride a := Nat.mul_le_mul_right _ (by omega)
    have hblock : k * odBstride a ≤ (kb - 1) * odBstride a := Nat.mul_le_mul_right _ (by omega)
    have := Option.some.inj hp
    dsimp only
    omega

theorem lt_bBound {b : BitVec 512} {kb : Nat} : ∀ x, PlaneByte b (bAddr b) kb x → x < bBound b kb := by
  refine lt_planeBound fun r k p hr hk hp => ?_
  have hrow : r * odRstride b ≤ 127 * odRstride b := Nat.mul_le_mul_right _ (by omega)
  have hblock : k * odBstride b ≤ (kb - 1) * odBstride b := Nat.mul_le_mul_right _ (by omega)
  have := Option.some.inj hp
  unfold bBound
  omega

/-- The conditions of R177 on two loaded descriptors, the nest and the index list, as the words of the first that fails. -/
def State.operandFault (s : State) (mode da db kb : Nat) (a b : BitVec 512) : Option (List Nat) :=
  let nest := Store.get none s.cur.arch.nest da
  let idx := if mode = 2 then s.indexList a else []
  if odKind a ≠ 1 then some [da, 2, 0, 0]
  else if odKind b ≠ 2 then some [db, 2, 0, 0]
  else if odMode a ≠ mode then some [da, 3, 0, 0]
  else if mode = 1 ∧ ∀ n ∈ nest, bf n 64 8 * bf n 72 8 * bf n 128 16 < kb then some [da, 4, 0, 0]
  else ((List.range 128).find? fun i => mode == 2 && idx.getD i 0 != 0xFFFF && decide (odRows a ≤ idx.getD i 0)).map
    fun i => [da, 5, i, idx.getD i 0]

/-- The least byte at or beyond the window that the planes of the two operands cover. -/
def State.beyond (s : State) (mode da kb : Nat) (a b : BitVec 512) : Option Nat :=
  let w := s.cur.hdr.window
  let nest := Store.get none s.cur.arch.nest da
  let idx := if mode = 2 then s.indexList a else []
  leastOf [planesBeyond w a (aAddr a nest idx) kb (aBound a nest kb), planesBeyond w b (bAddr b) kb (bBound b kb)]

section Mma
variable {s : State} {mode da db kb : Nat} {a b : BitVec 512}

theorem State.mmaCheck_unloaded (ha : Store.get none s.cur.arch.od da = none) :
    s.mmaCheck mode da db kb = some (s.raise 0x0D [da, 1, 0, 0]) := by
  simp only [State.mmaCheck, ha]

theorem State.mmaCheck_indices (ha : Store.get none s.cur.arch.od da = some a) (hm : mode = 2) (hk : odKind a = 1) (hm2 : odMode a = 2)
    (hw : s.cur.hdr.window < odAux a + 256) :
    s.mmaCheck mode da db kb = some (s.raise 4 [max (odAux a) s.cur.hdr.window, s.cur.hdr.window, 0xFF, s.slotNo]) := by
  simp only [State.mmaCheck, ha, hm, hk, hm2, and_self, if_true, s.winFault_outside _ 256 (by decide) hw]

theorem State.indices_inside (hw : mode = 2 → odKind a = 1 → odMode a = 2 → odAux a + 256 ≤ s.cur.hdr.window) :
    (if mode = 2 ∧ odKind a = 1 ∧ odMode a = 2 then s.winFault (odAux a) 256 else none) = none := by
  split
  · rename_i h
    exact s.winFault_inside _ _ (hw h.1 h.2.1 h.2.2)
  · rfl

theorem State.mmaCheck_unloaded_b (ha : Store.get none s.cur.arch.od da = some a) (hb : Store.get none s.cur.arch.od db = none)
    (hw : mode = 2 → odKind a = 1 → odMode a = 2 → odAux a + 256 ≤ s.cur.hdr.window) :
    s.mmaCheck mode da db kb = some (s.raise 0x0D [db, 1, 0, 0]) := by
  simp only [State.mmaCheck, ha, hb, State.indices_inside hw]

/-- Past the index list's window, the checks run in the order of R177: the descriptors, the scale layouts, the planes. -/
theorem State.mmaCheck_loaded (ha : Store.get none s.cur.arch.od da = some a) (hb : Store.get none s.cur.arch.od db = some b)
    (hw : mode = 2 → odKind a = 1 → odMode a = 2 → odAux a + 256 ≤ s.cur.hdr.window) :
    s.mmaCheck mode da db kb = ((s.operandFault mode da db kb a b).map (s.raise 0x0D)).or
      ((((scaleFault s.cur.hdr.window da a kb).or (scaleFault s.cur.hdr.window db b kb)).map (s.raise 0x0C)).or
        ((s.beyond mode da kb a b).map fun x => s.raise 4 [x, s.cur.hdr.window, 0xFF, s.slotNo])) := by
  simp only [State.mmaCheck, ha, hb, State.indices_inside hw, State.operandFault, State.beyond]
  by_cases hka : odKind a ≠ 1
  · simp only [if_pos hka]
    rfl
  by_cases hkb : odKind b ≠ 2
  · simp only [if_neg hka, if_pos hkb]
    rfl
  by_cases hm : odMode a ≠ mode
  · simp only [if_neg hka, if_neg hkb, if_pos hm]
    rfl
  simp only [if_neg hka, if_neg hkb, if_neg hm]
  by_cases hn : mode = 1 ∧ ∀ n ∈ Store.get none s.cur.arch.nest da, bf n 64 8 * bf n 72 8 * bf n 128 16 < kb
  · rw [if_pos hn]
    refine if_pos ?_
    revert hn
    cases Store.get none s.cur.arch.nest da <;> simp
  rw [if_neg hn]
  refine (if_neg ?_).trans ?_
  · revert hn
    cases Store.get none s.cur.arch.nest da <;> simp
  cases (List.range 128).find? fun i =>
      mode == 2 && (if mode = 2 then s.indexList a else []).getD i 0 != 0xFFFF &&
        decide (odRows a ≤ (if mode = 2 then s.indexList a else []).getD i 0) with
  | some i => rfl
  | none =>
    cases scaleFault s.cur.hdr.window da a kb with
    | some ws => rfl
    | none =>
      cases scaleFault s.cur.hdr.window db b kb with
      | some ws => rfl
      | none =>
        generalize leastOf _ = x
        cases x <;> rfl

/-! The conditions of an operand, one by one. -/

theorem State.operandFault_kind_a (ha : odKind a ≠ 1) : s.operandFault mode da db kb a b = some [da, 2, 0, 0] := if_pos ha

theorem State.operandFault_kind_b (ha : odKind a = 1) (hb : odKind b ≠ 2) : s.operandFault mode da db kb a b = some [db, 2, 0, 0] :=
  (if_neg (not_not_intro ha)).trans (if_pos hb)

theorem State.operandFault_mode (ha : odKind a = 1) (hb : odKind b = 2) (hm : odMode a ≠ mode) :
    s.operandFault mode da db kb a b = some [da, 3, 0, 0] :=
  (if_neg (not_not_intro ha)).trans ((if_neg (not_not_intro hb)).trans (if_pos hm))

section Kinds
variable (ha : odKind a = 1) (hb : odKind b = 2) (hm : odMode a = mode)
include ha hb hm

theorem State.operandFault_nest (h1 : mode = 1)
    (hn : ∀ n, Store.get none s.cur.arch.nest da = some n → bf n 64 8 * bf n 72 8 * bf n 128 16 < kb) :
    s.operandFault mode da db kb a b = some [da, 4, 0, 0] :=
  (if_neg (not_not_intro ha)).trans ((if_neg (not_not_intro hb)).trans ((if_neg (not_not_intro hm)).trans (if_pos ⟨h1, hn⟩)))

variable (hn : mode = 1 → ∃ n, Store.get none s.cur.arch.nest da = some n ∧ kb ≤ bf n 64 8 * bf n 72 8 * bf n 128 16)
include hn

/-- Past the nest, the entries of the index list decide. -/
theorem State.operandFault_covered :
    s.operandFault mode da db kb a b =
      (let idx := if mode = 2 then s.indexList a else []
       ((List.range 128).find? fun i => mode == 2 && idx.getD i 0 != 0xFFFF && decide (odRows a ≤ idx.getD i 0)).map
          fun i => [da, 5, i, idx.getD i 0]) := by
  refine (if_neg (not_not_intro ha)).trans ((if_neg (not_not_intro hb)).trans ((if_neg (not_not_intro hm)).trans (if_neg ?_)))
  rintro ⟨h1, hlow⟩
  obtain ⟨n, hget, hle⟩ := hn h1
  exact absurd (hlow n hget) (Nat.not_lt.mpr hle)

theorem State.operandFault_index {i : Nat} (h2 : mode = 2) (hi : i < 128) (hused : (s.indexList a).getD i 0 ≠ 0xFFFF)
    (hrow : odRows a ≤ (s.indexList a).getD i 0)
    (hfirst : ∀ j, j < i → (s.indexList a).getD j 0 = 0xFFFF ∨ (s.indexList a).getD j 0 < odRows a) :
    s.operandFault mode da db kb a b = some [da, 5, i, (s.indexList a).getD i 0] := by
  rw [State.operandFault_covered ha hb hm hn]
  simp only [h2, if_true]
  rw [List.find?_range_eq_some.mpr]
  · rfl
  · refine ⟨?_, List.mem_range.mpr hi, fun j hj => ?_⟩
    · simp only [beq_self_eq_true, Bool.true_and, Bool.and_eq_true, bne_iff_ne, decide_eq_true_eq]
      exact ⟨hused, hrow⟩
    · simp only [beq_self_eq_true, Bool.true_and, Bool.not_eq_true', Bool.and_eq_false_iff, bne_eq_false_iff_eq, decide_eq_false_iff_not, Nat.not_le]
      exact hfirst j hj

theorem State.operandFault_none
    (hidx : mode = 2 → ∀ i, i < 128 → (s.indexList a).getD i 0 = 0xFFFF ∨ (s.indexList a).getD i 0 < odRows a) :
    s.operandFault mode da db kb a b = none := by
  rw [State.operandFault_covered ha hb hm hn]
  dsimp only
  rw [Option.map_eq_none_iff, List.find?_eq_none]
  intro i hi
  by_cases h2 : mode = 2
  · have := hidx h2 i (List.mem_range.mp hi)
    simp only [h2, if_true, beq_self_eq_true, Bool.true_and, Bool.and_eq_true, bne_iff_ne, decide_eq_true_eq]
    omega
  · simp [h2]

end Kinds

/-- A byte that the checked operation reads: of the planes of either operand. -/
def State.readsByte (s : State) (mode da kb : Nat) (a b : BitVec 512) (x : Nat) : Prop :=
  PlaneByte a (aAddr a (Store.get none s.cur.arch.nest da) (if mode = 2 then s.indexList a else [])) kb x ∨ PlaneByte b (bAddr b) kb x

theorem State.beyond_findsLeast
    (h : Reachable a (Store.get none s.cur.arch.nest da) (if mode = 2 then s.indexList a else []) kb) :
    FindsLeast (s.beyond mode da kb a b) fun x => s.cur.hdr.window ≤ x ∧ s.readsByte mode da kb a b x :=
  ((planesBeyond_findsLeast (lt_aBound h)).merge (planesBeyond_findsLeast lt_bBound)).congr fun _ => and_or_left.symm

section Loaded
variable (hoa : Store.get none s.cur.arch.od da = some a) (hob : Store.get none s.cur.arch.od db = some b)
  (hw : mode = 2 → odKind a = 1 → odMode a = 2 → odAux a + 256 ≤ s.cur.hdr.window)
include hoa hob hw

theorem State.mmaCheck_operand {ws : List Nat} (h : s.operandFault mode da db kb a b = some ws) :
    s.mmaCheck mode da db kb = some (s.raise 0x0D ws) := by
  rw [State.mmaCheck_loaded hoa hob hw, h]
  rfl

variable (ho : s.operandFault mode da db kb a b = none)
include ho

theorem State.mmaCheck_scale_a {ws : List Nat} (ha : scaleFault s.cur.hdr.window da a kb = some ws) :
    s.mmaCheck mode da db kb = some (s.raise 0x0C ws) := by
  rw [State.mmaCheck_loaded hoa hob hw, ho, ha]
  rfl

variable (ha : scaleFault s.cur.hdr.window da a kb = none)
include ha

theorem State.mmaCheck_scale_b {ws : List Nat} (hb : scaleFault s.cur.hdr.window db b kb = some ws) :
    s.mmaCheck mode da db kb = some (s.raise 0x0C ws) := by
  rw [State.mmaCheck_loaded hoa hob hw, ho, ha, hb]
  rfl

theorem State.mmaCheck_planes (hb : scaleFault s.cur.hdr.window db b kb = none) :
    s.mmaCheck mode da db kb = (s.beyond mode da kb a b).map fun x => s.raise 4 [x, s.cur.hdr.window, 0xFF, s.slotNo] := by
  rw [State.mmaCheck_loaded hoa hob hw, ho, ha, hb]
  rfl

end Loaded
end Mma

/-- Uniform scales are read from no tile (R86). -/
theorem scaleFault_uniform {w num kb : Nat} {d : BitVec 512} (h : odSU d = true) : scaleFault w num d kb = none := if_pos h

theorem aBound_plain {a : BitVec 512} {nest : Option (BitVec 512)} {kb : Nat} (h : odMode a = 0) :
    aBound a nest kb = odBase a + 127 * odRstride a + (kb - 1) * odBstride a + (odQ a - 1) * odPstride a + 8 := by
  simp only [aBound, h]
  rfl

/-! The checks of a drain (R177, R191). -/

section Drain
variable {s : State} {rq i : Nat} {fmt : DrainFmt} {a : BitVec 512}

theorem State.drainCheck_room (h : (s.cur.arch.queue rq).occ + (s.cur.arch.queue rq).retained + drainBytes fmt ≤ (s.cur.arch.queue rq).cap) :
    s.drainCheck rq fmt none = none := if_pos h

theorem State.drainCheck_full (h : (s.cur.arch.queue rq).cap < (s.cur.arch.queue rq).occ + (s.cur.arch.queue rq).retained + drainBytes fmt) :
    s.drainCheck rq fmt none =
      some (s.raise 5 [1, rq, drainBytes fmt, (s.cur.arch.queue rq).cap - (s.cur.arch.queue rq).occ - (s.cur.arch.queue rq).retained]) :=
  if_neg (Nat.not_le.mpr h)

theorem State.drainCheck_unloaded (h : Store.get none s.cur.arch.od i = none) :
    s.drainCheck rq fmt (some i) = some (s.raise 0x0D [i, 1, 0, 0]) := by
  simp only [State.drainCheck, State.drainOff, h]
  rfl

theorem State.drainCheck_kind (h : Store.get none s.cur.arch.od i = some a) (hk : odKind a ≠ 3) :
    s.drainCheck rq fmt (some i) = some (s.raise 0x0D [i, 2, 0, 0]) := by
  simp only [State.drainCheck, State.drainOff, h, if_neg hk]
  rfl

theorem State.drainCheck_offset_outside (h : Store.get none s.cur.arch.od i = some a) (hk : odKind a = 3)
    (hw : s.cur.hdr.window < odBase a + 512) :
    s.drainCheck rq fmt (some i) = some (s.raise 4 [max (odBase a) s.cur.hdr.window, s.cur.hdr.window, 0xFF, s.slotNo]) := by
  simp only [State.drainCheck, State.drainOff, h, if_pos hk, s.winFault_outside _ 512 (by decide) hw]

theorem State.drainCheck_offset_inside (h : Store.get none s.cur.arch.od i = some a) (hk : odKind a = 3)
    (hw : odBase a + 512 ≤ s.cur.hdr.window) : s.drainCheck rq fmt (some i) = s.drainCheck rq fmt none := by
  simp only [State.drainCheck, State.drainOff, h, if_pos hk, s.winFault_inside _ 512 hw]

end Drain

/-! MDLD, MNEST and MQSET (R174, R181, R190). -/

section Load
variable {s : State} {i off : Nat}

/-- A result in a register outside the overlap rule of R38 completes in the next clock. -/
theorem State.completes_keyless {x : Instr} (d : Dest) (he : exec x s = (s.emit d 1 0).ran) (hd : d.plain) (hk : d.key = none) :
    s.Completes x 1 fun a => a.land d false s.free := by
  refine s.completes_of_emit x d 1 0 _ he hd (fun k h => by rw [hk] at h; cases h) (.inl rfl) fun a => ?_
  rw [← a.land_tstat d false s.free hd, flags_or_zero]

theorem State.mdld_outside (h : s.cur.hdr.window < 64 * off + 64) :
    s.Raises (.mdld i off) 4 [max (64 * off) s.cur.hdr.window, s.cur.hdr.window, 0xFF, s.slotNo] := by
  refine (show exec (.mdld i off) s = execMdld i off s from rfl).trans ?_
  simp only [execMdld, s.winFault_outside _ 64 (by decide) h]
  rfl

theorem State.mnest_outside (h : s.cur.hdr.window < 64 * off + 64) :
    s.Raises (.mnest i off) 4 [max (64 * off) s.cur.hdr.window, s.cur.hdr.window, 0xFF, s.slotNo] := by
  refine (show exec (.mnest i off) s = execMnest i off s from rfl).trans ?_
  simp only [execMnest, s.winFault_outside _ 64 (by decide) h]
  rfl

variable (hw : 64 * off + 64 ≤ s.cur.hdr.window)
include hw

theorem State.mdld_raises {b : Nat} (h : odFault (s.spadDesc (64 * off)) = some b) : s.Raises (.mdld i off) 0x0D [i, 6, b, 0] := by
  refine (show exec (.mdld i off) s = execMdld i off s from rfl).trans ?_
  simp only [execMdld, s.winFault_inside _ 64 hw, h]
  rfl

theorem State.mdld_completes (h : odFault (s.spadDesc (64 * off)) = none) :
    s.Completes (.mdld i off) 1 fun a => { a with
      od := Store.set none a.od i (if odKind (s.spadDesc (64 * off)) = 0 then none else some (s.spadDesc (64 * off))) } := by
  refine s.completes_keyless (.od i _) ((show exec (.mdld i off) s = execMdld i off s from rfl).trans ?_) ⟨nofun, nofun⟩ rfl
  simp only [execMdld, s.winFault_inside _ 64 hw, h]

theorem State.mnest_raises {b : Nat} (h : nestFault (s.spadDesc (64 * off)) = some b) : s.Raises (.mnest i off) 0x0D [i, 6, b, 0] := by
  refine (show exec (.mnest i off) s = execMnest i off s from rfl).trans ?_
  simp only [execMnest, s.winFault_inside _ 64 hw, h]
  rfl

theorem State.mnest_completes (h : nestFault (s.spadDesc (64 * off)) = none) :
    s.Completes (.mnest i off) 1 fun a => { a with nest := Store.set none a.nest i (some (s.spadDesc (64 * off))) } := by
  refine s.completes_keyless (.nest i _) ((show exec (.mnest i off) s = execMnest i off s from rfl).trans ?_) ⟨nofun, nofun⟩ rfl
  simp only [execMnest, s.winFault_inside _ 64 hw, h]

end Load

theorem foldl_add_others (f : Nat → Nat) (i : Nat) (l : List Nat) :
    l.foldl (fun acc k => if k = i then acc else acc + f k) 0 = ((l.filter (· ≠ i)).map f).sum := by
  rw [List.sum_eq_foldl, List.foldl_map, List.foldl_filter]
  congr
  funext acc k
  by_cases h : k = i <;> simp [h]

/-- The capacities of the other queues (R190). -/
def State.otherCaps (s : State) (rq : Nat) : Nat := (((List.range 8).filter (· ≠ rq)).map fun i => (s.cur.arch.queue i).cap).sum

section Resize
variable {s : State} {rq size : Nat}

theorem execMqset_eq :
    execMqset rq size s =
      (let q := s.cur.arch.queue rq
       if q.occ + q.retained ≠ 0 then s.raised (s.raise 5 [3, rq, 4096 * size, q.cap - (q.occ + q.retained)])
       else if s.cur.hdr.allot < s.otherCaps rq + 4096 * size then
         s.raised (s.raise 5 [2, rq, 4096 * size, s.cur.hdr.allot - s.otherCaps rq])
       else (s.emit (.qcap rq (4096 * size)) 1 0).ran) := by
  rw [State.otherCaps, ← foldl_add_others fun i => (s.cur.arch.queue i).cap]
  rfl

theorem State.mqset_held (h : 0 < (s.cur.arch.queue rq).occ + (s.cur.arch.queue rq).retained) :
    s.Raises (.mqset rq size) 5 [3, rq, 4096 * size, (s.cur.arch.queue rq).cap - ((s.cur.arch.queue rq).occ + (s.cur.arch.queue rq).retained)] :=
  execMqset_eq.trans (if_pos (Nat.ne_of_gt h))

variable (h : (s.cur.arch.queue rq).occ + (s.cur.arch.queue rq).retained = 0)
include h

theorem State.mqset_large (hl : s.cur.hdr.allot < s.otherCaps rq + 4096 * size) :
    s.Raises (.mqset rq size) 5 [2, rq, 4096 * size, s.cur.hdr.allot - s.otherCaps rq] :=
  execMqset_eq.trans ((if_neg (not_not_intro h)).trans (if_pos hl))

theorem State.mqset_completes (hl : s.otherCaps rq + 4096 * size ≤ s.cur.hdr.allot) :
    s.Completes (.mqset rq size) 1 fun a => { a with
      rq := Store.set ResQ.init a.rq rq { Store.get ResQ.init a.rq rq with cap := 4096 * size } } :=
  s.completes_keyless (.qcap rq (4096 * size)) (execMqset_eq.trans ((if_neg (not_not_intro h)).trans (if_neg (Nat.not_lt.mpr hl))))
    ⟨nofun, nofun⟩ rfl

end Resize

/-- Settles O42: `State.mmaCheck_loaded` gives the order of the checks, and each search for a first or least failure is a `FindsLeast`. -/
theorem matrixChecks : Obligations.MatrixChecks := by
  unfold Obligations.MatrixChecks
  refine ⟨?checks, ?loads⟩
  case checks =>
    intro s mode da db kb rq fmt od bad q used w layout
    have hlayout : ∀ num d, layout num d = scaleFault w num d kb := fun num d => by
      simp only [layout, scaleFault]
      rw [show 4 * odScols d * 1024 = 4096 * odScols d by omega]
    refine ⟨State.mmaCheck_unloaded, fun a => State.mmaCheck_indices,
      fun a ha hw => ⟨fun hb => State.mmaCheck_unloaded_b ha hb hw, fun b hb => ?loaded⟩,
      State.drainCheck_room, State.drainCheck_full, State.drainCheck_unloaded,
      fun a ha => ⟨State.drainCheck_kind ha, State.drainCheck_offset_outside ha, State.drainCheck_offset_inside ha⟩⟩
    case loaded =>
      refine ⟨fun hka => State.mmaCheck_operand ha hb hw (State.operandFault_kind_a hka),
        fun hka hkb => State.mmaCheck_operand ha hb hw (State.operandFault_kind_b hka hkb),
        fun hka hkb hm => State.mmaCheck_operand ha hb hw (State.operandFault_mode hka hkb hm), fun hka hkb hm => ?matched, ?uniform⟩
      case matched =>
        intro nest idx reads
        refine ⟨fun h1 hn => State.mmaCheck_operand ha hb hw (State.operandFault_nest hka hkb hm h1 hn),
          fun hn => ⟨?index, fun hidx => ?indexed⟩⟩
        case index =>
          intro i h2 hi hused hrow hfirst
          simp only [idx, if_pos h2] at hused hrow hfirst ⊢
          exact State.mmaCheck_operand ha hb hw (State.operandFault_index hka hkb hm hn h2 hi hused hrow hfirst)
        case indexed =>
          have hnone : s.operandFault mode da db kb a b = none :=
            State.operandFault_none hka hkb hm hn fun h2 => by simpa only [idx, if_pos h2] using hidx h2
          have hreach : Reachable a nest idx kb := ⟨fun h1 => hn (hm ▸ h1), fun h2 => hidx (hm ▸ h2)⟩
          have hleast := State.beyond_findsLeast (b := b) hreach
          simp only [hlayout]
          refine ⟨fun ws hsa => State.mmaCheck_scale_a ha hb hw hnone hsa, fun ws hsa hsb => State.mmaCheck_scale_b ha hb hw hnone hsa hsb,
            fun hsa hsb => ⟨fun x hx hwx hxl => ?_, fun hin => ?_⟩⟩
          · rw [State.mmaCheck_planes ha hb hw hnone hsa hsb, (hleast.eq_some_iff x).mpr ⟨⟨hwx, hx⟩, fun y hy => hxl y hy.2 hy.1⟩]
            rfl
          · rw [State.mmaCheck_planes ha hb hw hnone hsa hsb, hleast.eq_none_iff.mpr fun x hx => Nat.not_lt.mpr hx.1 (hin x hx.2)]
            rfl
      case uniform =>
        rintro hka hkb hm rfl hsa hsb - hwa hwb
        have hnone : s.operandFault 0 da db kb a b = none := State.operandFault_none hka hkb hm nofun nofun
        have hreach : Reachable a (Store.get none s.cur.arch.nest da) [] kb := ⟨fun h => by omega, fun h => by omega⟩
        rw [State.mmaCheck_planes ha hb hw hnone (scaleFault_uniform hsa) (scaleFault_uniform hsb),
          (State.beyond_findsLeast (mode := 0) (b := b) hreach).eq_none_iff.mpr fun x hx => Nat.not_lt.mpr hx.1 ?_]
        · rfl
        · rcases hx.2 with hx | hx
          · have := lt_aBound hreach x hx
            rw [aBound_plain hm] at this
            omega
          · have := lt_bBound x hx
            unfold bBound at this
            omega
  case loads =>
    intro s da off rq size d q used others least
    refine ⟨fun d => ?_,
      fun hw => ⟨fun b => State.mdld_raises hw, State.mdld_completes hw, fun b => State.mnest_raises hw, State.mnest_completes hw⟩,
      fun hw => ⟨State.mdld_outside hw, State.mnest_outside hw⟩, State.mqset_held, State.mqset_large, State.mqset_completes⟩
    intro f kind mode some_
    simp only [f, kind, mode, some_, toNat_extractLsb'_eq_bf]
    exact ⟨(odFault_findsLeast d).least, (nestFault_findsLeast d).least⟩

end Sys2Proof.Machine
end
